-- ==== Sys2Proof/Word.lean ====
section
/-! DEFINITION. The word types of the T1024: a byte, a 32-bit register word, a 4 KiB block as its bytes, and the
two sparse stores used for addressed memories. -/

namespace Sys2Proof

/-- One byte of a register, descriptor, record, image or packet (all little-endian, 00 R7). -/
abbrev Byte := BitVec 8

/-- One 32-bit register word of BAR0 (00 R9, 01 R28). -/
abbrev Word := BitVec 32

/-- One 64-bit word of a stream packet, a queue or a host address. -/
abbrev Quad := BitVec 64

end Sys2Proof
end

