-- ==== Sys2Proof/Syntax.lean ====
section
/-! DEFINITION. The commands of the T1024: one constructor per row of the opcode table, with the row's operands. Operands
that the world outside supplies with a command (data read, what a comparator sees, the outcome of a physical process) are
operands of the command too. -/

namespace Sys2Proof

/-- An engine number, E0000 to E1023 (01). -/
abbrev EngineNo := BitVec 10
/-- A parcel number, P00 to P31 (01). -/
abbrev ParcelNo := BitVec 5
/-- A site number, S00 to S63 (05 R141). -/
abbrev SiteNo := BitVec 6
/-- A Sahoux link number, 0 to 3 (05 R154). -/
abbrev LinkNo := BitVec 2
/-- A visible datum time: fraction [15:0], nanoseconds [47:16], seconds [95:48] (13 R367). -/
abbrev DatumTime := BitVec 96

/-- The descriptor a descriptor row starts: its command ring, its index in the ring, its tag and its irq flag (12 R353,
R358). -/
structure DescRef where
  ring : BitVec 6
  index : BitVec 32
  tag : BitVec 16
  irq : Bool
deriving DecidableEq, Repr

/-- One 4 KiB block of host data with its check array entry (12 R356); `err` holds the AER status words, uncorrectable and
correctable, of the error that reading it from host memory returned (12 R366). -/
structure HostBlock where
  data : List Byte
  check : Word
  err : Option (Word × Word)
deriving DecidableEq, Repr

/-- The data reference of an output descriptor: data address, check array address, block count (12 R356). -/
structure DataOut where
  addr : Quad
  checks : Quad
  blocks : BitVec 32
deriving DecidableEq, Repr

/-- A host write to BAR0: offset, size in bytes, value (01 R28); `err` holds the AER status words of an error that came with it, a
poisoned write's among them (12 R366). -/
structure BarWrite where
  off : BitVec 25
  size : BitVec 4
  value : Quad
  err : Option (Word × Word) := none
deriving DecidableEq, Repr

/-- What the host programs in configuration space beside Bus Master Enable (12 R343, R352, R366, 13 R375, 15 R404): Max_Payload_Size and
Max_Read_Request_Size as coded, the enables of 10-bit and 14-bit tags, PTM Enable, MSI-X Enable and function mask, ASPM L1, D3hot, the AER
masks and severity, and the AER status bits that the write clears. -/
structure PciCtl where
  mps : BitVec 3
  mrrs : BitVec 3
  tags : BitVec 2
  ptm : Bool
  msix : Bool
  fmask : Bool
  aspm : Bool
  d3 : Bool
  uncMask : Word
  corMask : Word
  uncSev : Word
  uncClear : Word
  corClear : Word
deriving DecidableEq, Repr

/-- What a descriptor fetch brings: the 64-byte descriptors read, then possibly an error with its AER uncorrectable and
correctable status (12 R350, R366). -/
structure Fetch where
  descs : List (List Byte)
  err : Option (Word × Word)
deriving DecidableEq, Repr

/-- Where a record due to an event ring waits: the event buffer, or the FQ of a parcel (01 R32, 06 R186). -/
inductive EvSource where
  | buffer
  | parcel (p : ParcelNo)
deriving DecidableEq, Repr

/-- What the channel's comparator inputs and the memories show for the period that begins: CMPH and CMPL at S1; in a
window, the successive input states from S1 to S2; whether a word or slot used for the period is uncorrectable, and how
many uses were corrected (02 R43, 03 R101). -/
structure Obs where
  h : Bool
  l : Bool
  win : List (Bool × Bool)
  unc : Bool
  corr : BitVec 8
  wordUnc : Bool := false
  wordCorr : BitVec 8 := 0
deriving DecidableEq, Repr

/-- A count operand: bits [19:0] for r = 0, or a counter for r = 1 (03 R74). -/
inductive CountOp where
  | imm (n : BitVec 20)
  | reg (k : BitVec 3)
deriving DecidableEq, Repr

/-- The outcome of reading lines of the deep vector memory: corrected words, and the addresses of the uncorrectable lines
(06 R177). -/
structure Ecc where
  corr : BitVec 16
  bad : List (BitVec 35)
deriving DecidableEq, Repr

/-- A stream of the streamer: an engine's, or a parcel's CQ stream (06 R191, R197). -/
inductive StreamId where
  | engine (e : EngineNo)
  | cq (p : ParcelNo)
deriving DecidableEq, Repr

/-- The fields common to run-control messages as received: link, site, sending device, sequence number (05 R158). -/
structure MsgHead where
  link : LinkNo
  site : SiteNo
  dev : BitVec 4
  seq : BitVec 8
deriving DecidableEq, Repr

/-- What a CAL_MEASURE finds: Tj, replica reading and load index, each the mean over the measurement, and, of every channel, the arrivals
of the transitions of its repetition slots after their launch ticks' start, in units of 0.5 ps, signed (07 R205, R206). -/
structure CalSeen where
  tj : Byte
  replica : BitVec 16
  load : Byte
  arrivals : List (List (BitVec 32))
deriving DecidableEq, Repr

/-- The outcome of one NORMAL read of a flash page: bits corrected, and whether it is uncorrectable (09 R259, R280). -/
structure PageRead where
  bits : BitVec 4
  unc : Bool
deriving DecidableEq, Repr

/-- One rail of the telemetry: current in 10 mA units and voltage in mV (15 R426, R430). -/
structure RailTel where
  ma10 : BitVec 16
  mv : BitVec 16
deriving DecidableEq, Repr

/-- The commands: rows of the table of operations and events. -/
inductive Instr where
  /-- REGISTER_WRITE (00 R9): Host write to a BAR0 register that has no row of its own, applied according to its access type. -/
  | registerWrite (w : BarWrite)
  /-- BAR0_ACCESS_WAKE (15 R409): Any BAR0 access, doorbells included, in Idle or Sleep resumes or wakes the device. -/
  | bar0AccessWake (also : Byte)
  /-- FAB_WINDOW_ACCESS (01 R30): Host access to the FAB window is presented to the user design, or completes with zero or is dropped when no design runs. -/
  | fabWindowAccess (off : BitVec 23) (size : BitVec 4) (write : Bool) (value : Quad)
  /-- WIN_ACK (08 R252): The user design acknowledges the outstanding window access, completing the held host read or write. -/
  | winAck (data : Quad)
  /-- FAB_WINDOW_TIMEOUT (01 R30): No acknowledgement within 2 us: the read completes with 0, a write is dropped, and FAB_WINDOW_TIMEOUT is raised. -/
  | fabWindowTimeout
  /-- DEV_GEN_WRITE (12 R346): The host writes its supported interface generations and the device selects the highest common one. -/
  | devGenWrite (value : Word)
  /-- DEV_RESET (00 R12): A keyed write to DEV_RESET performs a device reset. -/
  | devReset (value : Word)
  /-- RING_ENABLE (12 R349): A write of en = 1 to a ring's CFG enables the ring, zeroing head and tail, if its conditions hold. -/
  | ringEnable (ring : Fin 144) (value : Word)
  /-- RING_DISABLE (12 R349): A write of en = 0 stops a command ring, drops later completions of a completion ring, or holds records for an event ring. -/
  | ringDisable (ring : Fin 144) (value : Word)
  /-- COMMAND_DOORBELL (12 R350): The host writes a new tail to a command ring's doorbell, validated against the window of R351. -/
  | commandDoorbell (ring : Fin 64) (size : BitVec 4) (value : Quad)
  /-- CONSUMER_DOORBELL (12 R350): The host writes a new head to a completion or event ring's doorbell, freeing slots. -/
  | consumerDoorbell (ring : Fin 80) (size : BitVec 4) (value : Quad)
  /-- DESCRIPTOR_FETCH (12 R350): The device fetches descriptors from a command ring up to its tail and writes back the head. -/
  | descriptorFetch (ring : BitVec 6) (f : Fetch)
  /-- COMPLETION_WRITE (12 R358): A completion is written to its completion ring once there is room, followed by write-back. -/
  | completionWrite (ring : BitVec 6)
  /-- EVENT_RECORD_WRITE (01 R32): Held event, fail and marker records are written to their event ring once it is enabled and has space. -/
  | eventRecordWrite (ring : BitVec 4) (src : EvSource)
  /-- INTERRUPT_TIMER (12 R352): The moderation timer of a completion or event ring expires and its MSI-X vector is sent. -/
  | interruptTimer (ring : Fin 80)
  /-- LOAD (12 R360): Descriptor that writes host blocks into a DVM partition block by block, verifying each at entry. -/
  | load (d : DescRef) (dvm : Quad) (blocks : List HostBlock)
  /-- DVM_READ (12 R361): Descriptor that copies DVM blocks to host memory with their stored check values. -/
  | dvmRead (d : DescRef) (dvm : Quad) (out : DataOut) (ecc : Ecc)
  /-- SXL_COPY (12 R357): Descriptor that copies DVM blocks to a peer's GEN partition over a Sahoux bulk channel. -/
  -- the peer's answers: `peerOk`, the destination lies in its GEN; `peerBad`, the first block that fails its carried check value there
  | sxlCopy (d : DescRef) (source dest : Quad) (blocks : Word) (link : LinkNo) (ecc : Ecc) (peerOk : Bool) (peerBad : Option Word)
  /-- CQ_PUSH (06 R197): Descriptor that pushes host packets into a parcel's CQ. -/
  | cqPush (d : DescRef) (p : ParcelNo) (blocks : List HostBlock)
  /-- CQ_PUSH_PACKET (06 R197): One pushed packet is written into the CQ once space allows, and resent if rewound. -/
  | cqPushPacket (p : ParcelNo) (corrupt : Bool)
  /-- LOCAL_LOAD (03 R102): Descriptor that writes a byte range into the local memory of the masked engines of one parcel. -/
  | localLoad (d : DescRef) (p : ParcelNo) (mask offset length : Word) (blocks : List HostBlock)
  /-- LOCAL_READ (03 R103): Descriptor that copies a byte range of one engine's local memory to host memory. -/
  | localRead (d : DescRef) (e : EngineNo) (offset length : Word) (out : DataOut)
  /-- SITE_FORM (05 R139): Descriptor that replaces a site's membership on the device from a member block. -/
  | siteForm (d : DescRef) (site : SiteNo) (block : HostBlock)
  /-- SITE_DISSOLVE (05 R140): Descriptor that dissolves a site. -/
  | siteDissolve (d : DescRef) (site : SiteNo)
  /-- RUN_START (05 R142): Descriptor that starts a site's run, immediate or timed, through admission, checks and pre-roll. -/
  | runStart (d : DescRef) (site : SiteNo) (timed lateOk : Bool) (timeout : BitVec 16) (est : Word) (t : DatumTime)
  /-- PREROLL_MET (06 R195): Every engine of the site on the device meets its pre-roll condition, so the device is ready and the start time is fixed. -/
  | prerollMet (site : SiteNo)
  /-- PREROLL_TIMEOUT (05 R143): A start not ready within its pre-roll timeout completes refused with cause 0x09. -/
  | prerollTimeout (site : SiteNo)
  /-- START_COMMIT (05 R143): At 8 t before the start tick the start commits and run counters and sequencer state are set. -/
  | startCommit (site : SiteNo)
  /-- RUN_STARTED (05 R143): At the start tick every engine of the site begins its first period and RUN_STARTED is raised. -/
  | runStarted (site : SiteNo)
  /-- RUN_ABORT (05 R146): Descriptor that stops a site's run, or cancels a start that has not committed. -/
  | runAbort (d : DescRef) (site : SiteNo)
  /-- RUN_RESET (05 R147): Descriptor that stops a site's run if any and resets its engines' sequencer state, counters and queues. -/
  | runReset (d : DescRef) (site : SiteNo)
  /-- CHANNELS_LIVE_SET (02 R457): CHANNELS_LIVE with [0] = 1 sets channels-live at once. -/
  | channelsLiveSet (d : DescRef)
  /-- CHANNELS_LIVE_CLEAR (02 R457): CHANNELS_LIVE with [0] = 0 clears channels-live, stopping or cancelling every active run. -/
  | channelsLiveClear (d : DescRef)
  /-- BENCH_TAKE (05 R169): Descriptor that schedules a benchmark capture of all engine counters. -/
  | benchTake (d : DescRef) (id : BitVec 16) (timed ovw fwd : Bool) (t : DatumTime)
  /-- BENCH_STROBE (05 R169): At C - 8 the benchmark strobe enters the equalized tree. -/
  | benchStrobe
  /-- BENCH_CAPTURE (05 R169): At the capture tick every engine's counters are copied into shadows and the descriptor completes. -/
  | benchCapture
  /-- BENCH_READ (05 R171): Descriptor that writes the benchmark shadows of a range of engines to host memory. -/
  | benchRead (d : DescRef) (id first count : BitVec 16) (parts : Byte) (release : Bool) (out : DataOut) (upto : Word)
  /-- FAIL_MEM_READ (04 R131): Descriptor that reads a byte range of a parcel's map or capture area. -/
  | failMemRead (d : DescRef) (p : ParcelNo) (area : Byte) (offset : Word) (out : DataOut)
  /-- FAIL_MEM_CLEAR (04 R131): Descriptor that sets a byte range of a parcel's map or capture area to 0. -/
  | failMemClear (d : DescRef) (p : ParcelNo) (area : Byte) (offset length : Word)
  /-- CAL_MEASURE (07 R205): Descriptor that times stimulus arrivals on a parcel's comparator inputs with the TMU. -/
  | calMeasure (d : DescRef) (p : ParcelNo) (sel launch aggr : Byte) (mask aggrMask reps : Word) (spacing : BitVec 16) (out : DataOut) (seen : CalSeen)
  /-- CAL_LOAD (07 R207): Descriptor that writes one calibration table entry of a parcel from a block. -/
  | calLoad (d : DescRef) (p : ParcelNo) (block : HostBlock)
  /-- IMAGE_STAGE (10 R302): Descriptor that stages an image from host memory or external flash into a slot. -/
  | imageStage (d : DescRef) (slot source : Byte) (blocks : Word)
  /-- STAGE_BLOCK (10 R302): A block of image data arrives, is checked, decrypted, structure-checked and programmed into the target slot. -/
  -- `octal`: the JESD216 tables of the external flash advertise 8D-8D-8D operation (10 R305)
  | stageBlock (block : HostBlock) (dirs : List (List Byte)) (octal : Bool)
  /-- STAGE_DONE (10 R302): After all banks and the system part finish, the tag and CRC pass, the frame check table is programmed and the slot marked valid. -/
  | stageDone
  /-- EXT_FLASH_TIMEOUT (10 R306): The external serial flash stops responding for 10 ms and the source is unreadable. -/
  | extFlashTimeout
  /-- SWITCH_OVER (10 R315): Descriptor that replaces the running design with the image of a valid slot by a load. -/
  | switchOver (d : DescRef) (slot : Byte) (makePref : Bool)
  /-- BOOT_RETRY (10 R319): Descriptor that clears the boot-attempt counter and runs a boot sequence from base mode. -/
  | bootRetry (d : DescRef)
  /-- KEY_FUSE_PROGRAM (10 R299): Descriptor that programs a fuse key slot once. -/
  | keyFuseProgram (d : DescRef) (slot : Byte) (block : HostBlock) (vppOk : Bool)
  /-- KEY_FUSE_REVOKE (10 R299): Descriptor that blows the revoke fuse of a fuse key slot. -/
  | keyFuseRevoke (d : DescRef) (slot : Byte)
  /-- KEY_RAM_LOAD (10 R299): Descriptor that unwraps a key into the key RAM. -/
  | keyRamLoad (d : DescRef) (slot : Byte) (block : HostBlock)
  /-- KEY_RAM_CLEAR (10 R299): Descriptor that zeroizes the key RAM. -/
  | keyRamClear (d : DescRef)
  /-- READBACK_CAPTURE (08 R253): Descriptor that schedules a capture of every fabric flip-flop at an edge of a named net. -/
  | readbackCapture (d : DescRef) (id : BitVec 16) (net : BitVec 5) (timed ovw : Bool) (t : DatumTime)
  /-- READBACK_CAPTURE_EDGE (08 R253): At the capture edge every flip-flop shadow takes its Q and the descriptor completes. -/
  | readbackCaptureEdge
  /-- READBACK_TIMEOUT (08 R254): The named net gives no edge within 1 ms and the capture completes with timeout. -/
  | readbackTimeout
  /-- READBACK_READ (08 R255): Descriptor that writes captured frames to host memory. -/
  | readbackRead (d : DescRef) (id : BitVec 16) (first : Word) (count : BitVec 16) (release : Bool) (out : DataOut)
  /-- NVM_READ (09 R283): NVM command that reads user flash pages at NORMAL. -/
  | nvmRead (d : DescRef) (off : Word) (pages : Byte) (out : DataOut) (reads : List PageRead)
  /-- NVM_PROGRAM (09 R284): NVM command that checks host blocks and programs user flash pages. -/
  | nvmProgram (d : DescRef) (off : Word) (pages : Byte) (blocks : List HostBlock)
  /-- NVM_ERASE (09 R283): NVM command that erases one user sector. -/
  | nvmErase (d : DescRef) (off : Word)
  /-- MARGIN_CHECK (09 R283): NVM command that reads user pages at a margin level and returns a pass bitmap. -/
  -- `pass`: which pages pass, of those that NORMAL with BCH does not decide; `reads`: the outcomes of BCH at NORMAL (09 R270, R280)
  | marginCheck (d : DescRef) (off : Word) (pages level : Byte) (pass : BitVec 64) (reads : List PageRead)
  /-- SLOT_SCAN (09 R286): NVM command that reads every page of a slot at a margin level and reports failing pages per bank. -/
  | slotScan (d : DescRef) (slot level : Byte) (out : DataOut) (fails : List (BitVec 16))
  /-- NVM_SUSPEND (09 R273): NVM command that sets the host hold, suspending program and erase operations. -/
  | nvmSuspend (d : DescRef)
  /-- NVM_RESUME (09 R273): NVM command that clears the host hold. -/
  | nvmResume (d : DescRef)
  /-- WEAR_REPORT (09 R282): NVM command that writes the wear report blocks. -/
  | wearReport (d : DescRef) (out : DataOut)
  /-- PWR_STATE_RUN (15 R405): PWR_STATE descriptor naming Run. -/
  | pwrStateRun (d : DescRef)
  /-- PWR_STATE_IDLE (15 R407): PWR_STATE descriptor that enters Idle. -/
  | pwrStateIdle (d : DescRef)
  /-- PWR_STATE_SLEEP (15 R407): PWR_STATE descriptor that enters Sleep. -/
  | pwrStateSleep (d : DescRef)
  /-- PWR_STATE_DEEP_SLEEP (15 R408): PWR_STATE descriptor that enters Deep Sleep with a retention mask. -/
  | pwrStateDeepSleep (d : DescRef) (mask : BitVec 256)
  /-- PWR_STATE_OFF (15 R408): PWR_STATE descriptor that enters Off. -/
  | pwrStateOff (d : DescRef)
  /-- PWR_CMD_RUN (15 R405): Keyed PWR_CMD write naming Run. -/
  | pwrCmdRun (key : BitVec 16)
  /-- PWR_CMD_IDLE (15 R407): Keyed PWR_CMD write that enters Idle. -/
  | pwrCmdIdle (key : BitVec 16)
  /-- PWR_CMD_SLEEP (15 R407): Keyed PWR_CMD write that enters Sleep. -/
  | pwrCmdSleep (key : BitVec 16)
  /-- PWR_CMD_DEEP_SLEEP (15 R408): Keyed PWR_CMD write that enters Deep Sleep. -/
  | pwrCmdDeepSleep (key : BitVec 16) (keepAll : Bool)
  /-- PWR_CMD_OFF (15 R408): Keyed PWR_CMD write that enters Off. -/
  | pwrCmdOff (key : BitVec 16)
  /-- PME_TURN_OFF (15 R408): PME_Turn_Off received during Deep Sleep or Off entry; the device acknowledges and powers down. -/
  | pmeTurnOff
  /-- PME_WAIT_TIMEOUT (15 R408): 10 ms after the state command's completion the Deep Sleep or Off entry proceeds without PME_Turn_Off. -/
  | pmeWaitTimeout
  /-- PWR_LEVEL (15 R419): Descriptor that sets the performance level of the fabric and named parcels, deferring changes while runs are active. -/
  | pwrLevel (d : DescRef) (sel : Byte) (mask : Word) (level : Byte)
  /-- LEVEL_CHANGE (15 R420): A level change whose deferral has ended runs its rail, bias and clock steps. -/
  | levelChange (ring : BitVec 6) (index : Word)
  /-- LEVEL_RAIL_TIMEOUT (15 R420): The rail does not reach 97 % of the request within 1 ms and PWR_LEVEL fails. -/
  | levelRailTimeout (ring : BitVec 6) (index : Word)
  /-- CLK_SWITCH_PLL (15 R414): CLK_SWITCH with [0] = 1 starts the tick PLL if needed and moves the control core to the system clock at lock. -/
  | clkSwitchPll (d : DescRef) (ref10 : Bool)
  /-- CLK_SWITCH_FIO (15 R414): CLK_SWITCH with [0] = 0 moves the control core to FIO. -/
  | clkSwitchFio (d : DescRef)
  /-- CLK_SWITCH_TIMEOUT (15 R414): No PLL lock within 1 ms: CLK_SWITCH completes with timeout and the core stays on FIO. -/
  | clkSwitchTimeout
  /-- PCL_POWER_ON (15 R417): PCL_POWER switching named parcel domains on. -/
  | pclPowerOn (d : DescRef) (mask : Word)
  /-- PCL_POWER_OFF (15 R417): PCL_POWER switching named parcel domains off. -/
  | pclPowerOff (d : DescRef) (mask : Word)
  /-- VEC (03 R70): Instruction that owns n periods, taking one slot per period. -/
  | vec (e : EngineNo) (m : Bool) (n : CountOp)
  /-- RPT (03 R70): Instruction that owns n periods, reapplying the current slot. -/
  | rpt (e : EngineNo) (n : CountOp)
  /-- WAIT (03 R70): Instruction that owns n periods, reapplying the current slot with compares masked. -/
  | wait (e : EngineNo) (n : CountOp)
  /-- LOOP (03 R77): Instruction that pushes a loop entry. -/
  | loop (e : EngineNo) (q : Bool) (n : CountOp)
  /-- ENDL (03 R77): Instruction that decrements the top loop count and branches to the body or pops. -/
  | endl (e : EngineNo) (q : Bool)
  /-- CALL (03 R78): Instruction that pushes a return address and transfers control. -/
  | call (e : EngineNo) (q : Bool) (target : BitVec 14)
  /-- RET (03 R78): Instruction that pops a return address and transfers control to it. -/
  | ret (e : EngineNo) (q : Bool)
  /-- JMP (03 R79): Instruction that transfers control to its target. -/
  | jmp (e : EngineNo) (q : Bool) (target : BitVec 14)
  /-- BFL (03 R81): Instruction that branches on a fail, latch or flag condition at its decision tick. -/
  | bfl (e : EngineNo) (q n c : Bool) (cond : BitVec 3) (target : BitVec 14)
  /-- MATCH (03 R83): Instruction that opens a match body and clears mt. -/
  | matchOpen (e : EngineNo) (q s : Bool) (limit : CountOp)
  /-- ENDM (03 R84): Instruction that closes a match iteration and exits, repeats or times out. -/
  | endm (e : EngineNo) (q : Bool)
  /-- SYNC (03 R86): Instruction at which a participant arrives at a site barrier and waits. -/
  | sync (e : EngineNo) (q : Bool) (mask : BitVec 8)
  /-- SYNC_RELEASE (03 R87): 8 t after the last participant arrives, every participant starts its next period. -/
  | syncRelease (site : SiteNo) (mask : BitVec 8)
  /-- TSET (03 R88): Instruction that selects the timing set for the following periods. -/
  | tset (e : EngineNo) (q : Bool) (ts : BitVec 6)
  /-- SRC (03 R89): Instruction that selects the vector source and optionally sets the LOCAL pointer. -/
  | src (e : EngineNo) (q p : Bool) (source : BitVec 2) (lptr : BitVec 13)
  /-- MARK (03 R92): Instruction that hands a marker record to the parcel's fail capture unit. -/
  | mark (e : EngineNo) (q : Bool) (id : BitVec 16)
  /-- LDL (03 R93): CNT op 0: load an immediate into a counter. -/
  | ldl (e : EngineNo) (q : Bool) (d : BitVec 3) (imm : BitVec 16)
  /-- LDH (03 R93): CNT op 1: load an immediate into a counter's high half. -/
  | ldh (e : EngineNo) (q : Bool) (d : BitVec 3) (imm : BitVec 16)
  /-- ADDI (03 R93): CNT op 2: add an immediate to a counter. -/
  | addi (e : EngineNo) (q : Bool) (d : BitVec 3) (imm : BitVec 16)
  /-- SUBI (03 R93): CNT op 3: subtract an immediate from a counter. -/
  | subi (e : EngineNo) (q : Bool) (d : BitVec 3) (imm : BitVec 16)
  /-- ADD (03 R93): CNT op 4: add one counter to another. -/
  | add (e : EngineNo) (q : Bool) (d s : BitVec 3)
  /-- SUB (03 R93): CNT op 5: subtract one counter from another. -/
  | sub (e : EngineNo) (q : Bool) (d s : BitVec 3)
  /-- MOV (03 R93): CNT op 6: copy one counter to another. -/
  | mov (e : EngineNo) (q : Bool) (d s : BitVec 3)
  /-- ANDI (03 R93): CNT op 7: AND a counter with an immediate. -/
  | andi (e : EngineNo) (q : Bool) (d : BitVec 3) (imm : BitVec 16)
  /-- HALT (03 R95): Instruction that ends the engine's run after the previous word's last period. -/
  | halt (e : EngineNo)
  /-- RUN_END_COMPLETION (04 R129): Once coalescing buffers are empty and every record has reached the FQ, the run-end completion is written. -/
  | runEndCompletion (site : SiteNo)
  /-- PERIOD_BOUNDARY (02 R57): A period ends and the next begins, taking boundary changes and the owning word's next slot. -/
  | periodBoundary (e : EngineNo) (obs : Obs)
  /-- SITE_STOP (02 R64): A stop request from stop-on-fail, abort or error takes effect in the site's engines, cancelling edges and entering the safe state. -/
  | siteStop (site : SiteNo)
  /-- MAP_RETIRE (04 R127): Every 2 t the oldest coalescing buffer entry is retired to the map area. -/
  | mapRetire (p : ParcelNo)
  /-- LOG_RING_ACCEPT (04 R121): The log ring accepts one record per tick from the input buffer. -/
  | logRingAccept (p : ParcelNo)
  /-- LOG_SPILL (04 R123): Oldest log records move in 4 KiB blocks to the fail-spill partition. -/
  | logSpill (p : ParcelNo)
  /-- FQ_PACKET_SEAL (04 R132): A REC packet is sealed at 128 records or 2 us and written into the FQ. -/
  | fqPacketSeal (p : ParcelNo) (corrupt : Bool) (ecc retry : Option Ecc)
  /-- FAIL_OUT_PULSE_END (04 R133): A pulse-mode FAIL_OUT deasserts pulse_len x 8 t after the last fail of its scope. -/
  | failOutPulseEnd (n : BitVec 2)
  /-- STALL_REQUEST (05 R148): An engine whose source will not supply the coming periods raises a stall request. -/
  | stallRequest (e : EngineNo)
  /-- SITE_STALL (05 R148): At the freeze time F every engine stops at its next boundary, or the site stops under policy abort. -/
  | siteStall (site : SiteNo)
  /-- RESUME_CONDITION (05 R149): Every requesting engine meets its resume condition and the resume time is scheduled. -/
  | resumeCondition (site : SiteNo)
  /-- SITE_RESUME (05 R149): At the resume time every engine resumes shifted by delta and stall records are written. -/
  | siteResume (site : SiteNo)
  /-- RUN_PREP (05 R142): Message asking a device to prepare a spanning site's run. -/
  | msgRunPrep (h : MsgHead) (agree : Bool)
  /-- READY (05 R142): Message reporting a device ready for a start. -/
  | msgReady (h : MsgHead)
  /-- REFUSE (05 R142): Message reporting a device's refusal of a start. -/
  | msgRefuse (h : MsgHead) (cause : BitVec 16)
  /-- START (05 R142): Message fixing the start time of a spanning site's run. -/
  | msgStart (h : MsgHead) (t : DatumTime)
  /-- CANCEL (05 R142): Message cancelling a pending start. -/
  | msgCancel (h : MsgHead)
  /-- STALL (05 R148): Message carrying a stall request and its freeze time. -/
  | msgStall (h : MsgHead) (reason : Byte) (eng : EngineNo) (t : DatumTime)
  /-- CLEAR (05 R149): Message reporting a device's resume condition met. -/
  | msgClear (h : MsgHead)
  /-- RESUME (05 R149): Message carrying the resume time. -/
  | msgResume (h : MsgHead) (t : DatumTime)
  /-- ARRIVE (05 R152): Message reporting a device's participants arrived at a barrier. -/
  | msgArrive (h : MsgHead) (mask : Byte)
  /-- RELEASE (05 R152): Message carrying a barrier's release time. -/
  | msgRelease (h : MsgHead) (mask : Byte) (t : DatumTime)
  /-- DONE (05 R145): Message reporting a device's engines stopped and drained. -/
  | msgDone (h : MsgHead)
  /-- STOP_REASON (05 R145): Message reporting the reason a device ended the run. -/
  | msgStopReason (h : MsgHead) (reason : BitVec 16) (t : DatumTime)
  /-- BENCH (05 R170): Message that a receiving device treats as its own BENCH_TAKE. -/
  | msgBench (h : MsgHead) (ovw : Bool) (id : BitVec 16) (t : DatumTime)
  /-- RESEND (05 R158): Message asking the sender to repeat a lost message. -/
  | msgResend (h : MsgHead) (seq : BitVec 16)
  /-- TIME_TICK (13 R382): Time message with which a follower aligns its tick number and rate. -/
  | timeTick (h : MsgHead) (b : BitVec 64) (rate : Word)
  /-- TIME_VAL (13 R382): Time message with which a follower sets its datum value. -/
  | timeVal (h : MsgHead) (low : BitVec 16) (t : DatumTime)
  /-- SIDE_WORD_RECEIVED (05 R157): A side word is received and its fail, match and stop bits are placed on the site fail bus. -/
  | sideWordReceived (link : LinkNo) (w : BitVec 128)
  /-- BULK_PACKET (05 R160): A bulk packet arrives and is accepted or discarded with NAK. -/
  | bulkPacket (link : LinkNo) (words : List Quad)
  /-- TRAIN (05 R161): Control block used for lane lock and deskew in training. -/
  | train (link : LinkNo) (lane : BitVec 2) (number : BitVec 2) (skew : BitVec 4) (good : Bool)
  /-- ADVERTISE (05 R161): Control block carrying the peer's version bitmap and device number. -/
  | advertise (link : LinkNo) (versions : Byte) (dev : BitVec 4) (good : Bool)
  /-- PING (05 R162): Triangulation block answered with PONG. -/
  | ping (link : LinkNo) (seq : Byte) (tick hold : BitVec 16) (good : Bool)
  /-- PONG (05 R162): Triangulation reply giving one latency sample. -/
  | pong (link : LinkNo) (seq : Byte) (round hold : BitVec 16) (good : Bool)
  /-- CREDIT (05 R160): Control block returning bulk credits. -/
  | credit (link : LinkNo) (n : BitVec 16) (good : Bool)
  /-- ACK (05 R160): Control block acknowledging bulk packets. -/
  | ack (link : LinkNo) (seq : Byte) (good : Bool)
  /-- NAK (05 R160): Control block requesting replay from a packet. -/
  | nak (link : LinkNo) (seq : Byte) (good : Bool)
  /-- TRAIN_DONE (05 R161): Control block ending training; the link comes up. -/
  | trainDone (link : LinkNo) (good : Bool)
  /-- BLOCK_LOCK (05 R161): A lane takes block lock after 64 valid sync headers. -/
  | blockLock (link : LinkNo) (lane : BitVec 2)
  /-- LINK_TRAIN_TIMEOUT (05 R161): A training step not complete within 200 us holds the link down. -/
  | linkTrainTimeout (link : LinkNo)
  /-- LINK_ENABLE (05 R161): A write of en to SXL_LINKn_CTL starts or stops the link. -/
  | linkEnable (link : LinkNo) (value : Word)
  /-- SXL_RETRAIN (05 R165): A write of retrain retrains the link, deferred while a site on it runs. -/
  | sxlRetrain (link : LinkNo) (value : Word)
  /-- DEFERRED_RETRAIN (05 R165): A deferred retrain begins once no site with a slot on the link has a run active. -/
  | deferredRetrain (link : LinkNo)
  /-- VQ_FLUSH (06 R189): qflush of PCL_STR_CMD empties an engine ring, keeping reserved slots. -/
  | vqFlush (e : EngineNo)
  /-- STREAM_RESTART (06 R191): restart of PCL_STR_CMD flushes the ring and rebinds the stream. -/
  | streamRestart (e : EngineNo)
  /-- CQ_FLUSH (06 R189): qflush of PCL_CQ_CMD empties the CQ. -/
  | cqFlush (p : ParcelNo)
  /-- CQ_RESTART (06 R197): restart of PCL_CQ_CMD flushes and restarts the CQ. -/
  | cqRestart (p : ParcelNo)
  /-- FQ_FLUSH (06 R198): qflush of PCL_FQ_CMD discards the FQ's records. -/
  | fqFlush (p : ParcelNo)
  /-- RING_UNITS_WRITE (06 R185): A write of ring_units re-lays the VQ and flushes rings that change. -/
  | ringUnitsWrite (e : EngineNo) (value : Word)
  /-- BUF_FLUSH (08 R250): buf_flush of PCL_PP_CMD empties every slot buffer of the parcel. -/
  | bufFlush (p : ParcelNo)
  /-- MQ_FLUSH (08 R250): mq_flush of PCL_PP_CMD empties the map queue. -/
  | mqFlush (p : ParcelNo)
  /-- STREAM_PACKET (06 R192): The streamer fetches a packet from DVM and writes it into its ring once it fits, committing or rewinding it. -/
  | streamPacket (q : StreamId) (ecc : Ecc) (corrupt : Bool)
  /-- STREAM_RETRY (06 R193): The streamer re-reads and rewrites a rewound packet. -/
  | streamRetry (q : StreamId) (ecc : Ecc) (corrupt : Bool)
  /-- DVM_PART_COMMIT (06 R174): commit of DVM_PART_CTL applies the pending partition map if valid. -/
  | dvmPartCommit
  /-- DVM_RETRAIN_REQUEST (07 R221): retrain of DVM_TRAIN_CTL requests full retraining. -/
  | dvmRetrainRequest (value : Word)
  /-- DVM_RETRAIN (07 R221): Full DVM retraining begins at the first instant no run is active. -/
  | dvmRetrain
  /-- DVM_TRAINED (07 R219): DVM boot training or retraining completes and its tags are recorded. -/
  | dvmTrained (ok : Bool) (pc : BitVec 5) (worst : BitVec 5) (margin : BitVec 7) (temp : Byte)
  /-- DVM_INIT_DONE (06 R179): DVM initialization completes and init_done is set. -/
  | dvmInitDone
  /-- RECENTER_PASS (07 R220): Every 100 us a pseudo-channel's eyes are re-centred. -/
  | recenterPass (pc : BitVec 5) (forced : Bool) (margin : BitVec 7) (worst : BitVec 5) (temp : Byte)
  /-- CORR_WINDOW (07 R222): A 1 ms corrected-word window closes and is compared with corr_thr. -/
  | corrWindow
  /-- DRIFT_EVALUATION (07 R210): At each datum microsecond boundary a parcel reads replica and load index and sets its target offset and range flags. -/
  -- `droops`: the droop of VCORE and of VCH in each tick of the microsecond, in µV (07 R209)
  | driftEvaluation (p : ParcelNo) (replica : BitVec 16) (droops : List (BitVec 20 × BitVec 20)) (tj : Byte)
  /-- CAL_DSK_WRITE (07 R208): A write to a deskew value clears its entry's valid bit. -/
  | calDskWrite (off : BitVec 25) (value : Word)
  /-- CAL_TAG_WRITE (07 R208): A write of valid = 1 to PCL_CAL_TAG validates the entry only if it meets R204. -/
  | calTagWrite (p : ParcelNo) (entry : BitVec 2) (value : Word)
  /-- PARCEL_PORT_WRITE (08 R245): The fabric writes slots into an engine's slot buffer through a parcel port lane. -/
  | parcelPortWrite (e : EngineNo) (data : BitVec 16) (cnt : BitVec 3) (sel : BitVec 2)
  /-- MAP_QUEUE_WRITE (08 R247): The fabric appends map addresses to the parcel's map queue. -/
  | mapQueueWrite (p : ParcelNo) (ma0 ma1 : Option (BitVec 40 × Bool))
  /-- CQ_READ (08 R249): The fabric takes the presented CQ word. -/
  | cqRead (p : ParcelNo)
  /-- REGION_IDLE (08 R239): A change of RGN_IDLE gates or ungates a fabric clock region. -/
  | regionIdle (idle : BitVec 16)
  /-- FABRIC_RAM_READ (08 R232): A fabric RAM read is corrected or reported by SECDED. -/
  | fabricRamRead (block : Fin 4608) (portB : Bool) (word : BitVec 9) (flips : List (Fin 80))
  /-- ECC_WRITE_BACK (08 R232): A corrected RAM word is written back at an edge where neither port accesses it. -/
  | eccWriteBack (block : Fin 4608) (word : BitVec 9)
  /-- GSR_RELEASE (10 R309): A load completes, GSR is released and the start-confirm timer starts. -/
  -- `headerBad`: the header as read from the system part fails R291 (10 R307)
  | gsrRelease (badPages : List (Fin 260 × BitVec 13)) (corrected : BitVec 16) (high : BitVec 8) (headerBad : Bool)
  /-- FABRIC_CLOCKS_ENABLE (10 R309): At release + 16 t fabric clocks are enabled. -/
  | fabricClocksEnable
  /-- PARCEL_PORTS_ENABLE (10 R309): At release + 32 t parcel port signals pass. -/
  | parcelPortsEnable
  /-- GPIO_BOOT_EXIT (10 R309): At release + 64 t pins leave the boot state and live channels are set if the image says so. -/
  | gpioBootExit
  /-- CFG_START_OK (10 R310): A write of ok confirms the start of the loaded design. -/
  | cfgStartOk (value : Word)
  /-- START_OK_SIGNAL (10 R310): START_OK from the fabric or a pin is sampled at 1 and confirms the start. -/
  -- the levels of START_OK as net 0 samples them: the fabric signal, and the pad from which the pin function is taken
  | startOkSignal (fabric pad : Bool)
  /-- START_CONFIRM_TIMEOUT (10 R310): The start-confirm timeout expires, the attempt fails and the next source or reversion follows. -/
  | startConfirmTimeout
  /-- CFG_BOOT_POLICY_WRITE (10 R323): Keyed write of CFG_BOOT_POLICY. -/
  | cfgBootPolicyWrite (value : Word)
  /-- CFG_KEY_POLICY_WRITE (10 R323): Keyed write of CFG_KEY_POLICY, ignored while locked. -/
  | cfgKeyPolicyWrite (value : Word)
  /-- CFG_JTAG_CTL_WRITE (10 R323): Keyed write of CFG_JTAG_CTL. -/
  | cfgJtagCtlWrite (value : Word)
  /-- TAMPER (10 R300): TAMPER asserted for 100 ns zeroizes the key RAM. -/
  | tamper (pin : Fin 2)
  /-- VBAT_LOST (10 R300): VBAT falling below its range zeroizes the key RAM. -/
  | vbatLost
  /-- FLASH_OP_START (09 R267): A queued program or erase starts when the active-bank limit allows. -/
  -- `read`: the outcome of reading the page that a copy takes (09 R264, R279, R280)
  | flashOpStart (bank : Fin 260) (read : PageRead)
  /-- PAGE_PROGRAM_DONE (09 R271): A page program passes MARGIN1 and is read at MARGIN3. -/
  | pageProgramDone (bank : Fin 260) (margin3 : Bool)
  /-- PROGRAM_VERIFY_FAILURE (09 R271): A page still failing MARGIN1 after 32 pulses leads to retirement. -/
  | programVerifyFailure (bank : Fin 260)
  /-- SECTOR_ERASE_DONE (09 R272): A sector erase passes MARGIN2 and completes. -/
  | sectorEraseDone (bank : Fin 260)
  /-- ERASE_VERIFY_FAILURE (09 R272): An erase reaching 4.0 ms of erase time without passing leads to retirement. -/
  | eraseVerifyFailure (bank : Fin 260)
  /-- ERASE_WINDOW_RESET (09 R274): When the window erase time reaches 200 us the suspend window count restarts. -/
  | eraseWindowReset (bank : Fin 260)
  /-- NVM_POWER_UP (09 R277): The NVM domain powers up and resolves its interrupted-operation journal. -/
  | nvmPowerUp (pass : List Bool)
  /-- SCRUB_STEP (11 R324): Each step interval the scrubber compares one frame with flash and rewrites it if it differs. -/
  | scrubStep (flips : List (BitVec 12)) (read : PageRead) (mapUnc : Bool) (outvoted : Option (BitVec 2)) (closureBad : Bool) (reloadBad : Bool)
  /-- CONTENTION_SWEEP (11 R331): At each sweep interval frames 135-142 of every column are compared and rewritten. -/
  | contentionSweep (flips : List (Fin 1536 × List (BitVec 12))) (reads : List (Fin 1536 × PageRead))
  /-- SCRUB_WATCHDOG (11 R339): A traverse exceeds twice its nominal time and the scrubber restarts. -/
  | scrubWatchdog (reloadBad : Bool)
  /-- SCRUB_HELD (11 R336): The scrub grant is revoked for longer than the traverse's nominal time. -/
  | scrubHeld
  /-- SCB_CTL_WRITE (11 R341): A write to SCB_CTL stores settings and closure word and enables or disables scrubbing. -/
  | scbCtlWrite (value : Word)
  /-- SCB_RECOVER (11 R340): recover of SCB_CMD clears the restart history and begins a full traverse. -/
  | scbRecover
  /-- SCB_CMD_RESTART (11 R341): restart of SCB_CMD ends the traverse and begins a full traverse. -/
  | scbCmdRestart
  /-- TIM_CMD_SET (13 R372): set of TIM_CMD loads TIM_SETV at the next sync tick. -/
  | timCmdSet (force : Bool)
  /-- TIM_CMD_ADJUST (13 R372): adjust of TIM_CMD adds TIM_ADJ at the next sync tick. -/
  | timCmdAdjust (force : Bool)
  /-- TIM_CMD_ARM (13 R378): arm of TIM_CMD arms the alarm. -/
  | timCmdArm
  /-- TIM_CMD_DISARM (13 R378): disarm of TIM_CMD clears the alarm. -/
  | timCmdDisarm
  /-- TIM_CMD_PTM (13 R375): ptm of TIM_CMD starts one PTM dialog. -/
  | timCmdPtm
  /-- TIM_RATE_WRITE (13 R372): A write to TIM_RATE is pending until the next sync tick. -/
  | timRateWrite (value : Word)
  /-- TIM_NOW_SNAPSHOT (13 R371): A read of TIM_NOW0 snapshots the counter and tick number. -/
  | timNowSnapshot
  /-- SYNC_TICK (13 R372): At a sync tick pending rate, set and adjust changes apply and time messages are sent. -/
  | syncTick
  /-- PTM_INTERVAL (13 R375): Every ptm_int ms a PTM dialog starts. -/
  | ptmInterval
  /-- PTM_RESPONSE (13 R375): A PTM ResponseD is recorded with its dialog's t1. -/
  | ptmResponse (time : Quad) (delay : Word)
  /-- PTM_TIMEOUT (13 R375): No PTM response within 1 ms sets ptm_fail. -/
  | ptmTimeout
  /-- PPS_IN_EDGE (13 R376): A PPS_IN edge is captured in datum time. -/
  -- the polarity of the edge, and for how many nanoseconds the land had stood at the other level
  | ppsInEdge (rise : Bool) (before : BitVec 16)
  /-- PPS_MISSING (13 R376): No PPS_IN capture within 1.1 s sets pps_missing. -/
  | ppsMissing
  /-- PPS_OUT_RISE (13 R377): PPS_OUT rises at each whole second. -/
  | ppsOutRise
  /-- PPS_OUT_FALL (13 R377): PPS_OUT falls pps_width ms after rising. -/
  | ppsOutFall
  /-- TIM_ALARM (13 R378): The armed alarm time is reached, the alarm fires and disarms, waking the device from Sleep. -/
  | timAlarm (also : Byte)
  /-- TIM_FOLLOW_LOST (13 R383): A follower without a good TIME_TICK for four sync intervals loses lock. -/
  | timFollowLost
  /-- PIN_FUNC_WRITE (14 R391): A write to PIN_FUNCn freezes the pad and starts a function switch, or sets electrical fields. -/
  | pinFuncWrite (pin : Fin 96) (value : Word)
  /-- FUNCTION_TAKEOVER (14 R391): At edge +2 the new pin function takes over the pad. -/
  | functionTakeover (pin : Fin 96)
  /-- PIN_LOCK_KEY_WRITE (14 R393): A write to PIN_LOCK_KEY advances or abandons the lock key sequence. -/
  | pinLockKeyWrite (value : Word) (cycles : Word)
  /-- PIN_LOCK_WRITE (14 R394): A write to PIN_LOCKk within the key window locks pins. -/
  | pinLockWrite (k : Fin 3) (value : Word) (cycles : Word)
  /-- PIN_FAILOUT_CLEAR (04 R133): clear of PIN_FAILOUTn deasserts a level-mode FAIL_OUT. -/
  | pinFailoutClear (n : BitVec 2) (value : Word)
  /-- SPI_DATA_WRITE (14 R401): A write to PIN_SPIm_DATA starts an SPI transfer. -/
  | spiDataWrite (m : BitVec 2) (value : Word)
  /-- SPI_TRANSFER_DONE (14 R401): The SPI word has shifted and CS# is released. -/
  | spiTransferDone (m : BitVec 2) (miso : Word)
  /-- RUN_IN_EDGE (14 R400): A RUN_IN edge is recognized, optionally aborting the named site. -/
  | runInEdge (k : BitVec 1) (rise : Bool)
  /-- PIN_BANK_CHANGE (14 R385): A GPIO bank's sensed supply level changes. -/
  | pinBankChange (bank : Fin 3) (level : BitVec 2)
  /-- TWO_WIRE_WRITE (15 R410): A two-wire write sets the status pointer. -/
  | twoWireWrite (addr : BitVec 7) (bytes : List Byte)
  /-- TWO_WIRE_READ (15 R410): A two-wire read returns status bytes. -/
  | twoWireRead (addr : BitVec 7) (count : Byte)
  /-- TWO_WIRE_ADDRESS_MATCH (15 R410): In Sleep or Deep Sleep a matching two-wire address wakes the device. -/
  | twoWireAddressMatch (addr : BitVec 7) (also : Byte)
  /-- WAKE_LAND (15 R409): The WAKE land held high for 100 ns wakes or resumes the device. -/
  | wakeLand (also : Byte)
  /-- LINK_L1_EXIT (15 R409): The host taking the link out of L1 wakes or resumes the device. -/
  | linkL1Exit (also : Byte)
  /-- PERST_DEASSERT (15 R408): PERST# deasserted wakes the device from Deep Sleep or Off. -/
  | perstDeassert (also : Byte)
  /-- OFF_END (15 R413): With supplies held, Off ends 100 us after PWR_GOOD rises and the device starts as after a cold reset. -/
  | offEnd
  /-- COLD_RESET (00 R12): PORST# asserted or VCORE below its reset threshold resets everything but AON and key RAM. -/
  | coldReset (vcore : Bool)
  /-- PORST_RELEASE (16 R434): PORST# released: the control core starts on FIO and the cold start proceeds. -/
  | porstRelease (ma : BitVec 3) (ref10 crystal : Bool)
  /-- FUNCTION_LEVEL_RESET (12 R365): A function-level reset performs a device reset. -/
  | functionLevelReset
  /-- PERST_ASSERT (12 R364): PERST# asserted performs a device reset and the link retrains. -/
  | perstAssert
  /-- HOT_RESET (12 R364): A hot reset performs a device reset. -/
  | hotReset
  /-- DL_DOWN (12 R364): The link entering DL_Down performs a device reset. -/
  | dlDown
  /-- SUPPLY_WARN (15 R423): A monitor crosses its warning threshold and a supply-warning interval begins. -/
  | supplyWarn (rail : Fin 3) (point : Fin 34) (mv : BitVec 16)
  /-- SUPPLY_CLEAR (15 R423): Every monitor stays above clear for 20 us and the interval ends. -/
  | supplyClear
  /-- SUPPLY_FAULT (15 R424): VAUX or VCH crosses its fault threshold and every running site stops. -/
  | supplyFault (vch : Bool) (mv : BitVec 16)
  /-- TELEMETRY_UPDATE (15 R426): Every 10 us the arbiter updates P, revokes or restores one grant step and re-evaluates deferred runs. -/
  | telemetryUpdate (rails : List RailTel) (tj : Byte)
  /-- PLL_LOST (01 R23): The tick PLL loses lock, aborting running sites. -/
  | pllLost
  /-- PLL_LOCK (01 R23): The tick PLL regains lock and runs may start again. -/
  | pllLock
  /-- THERMAL_WARN (16 R449): Tj exceeds the grade maximum and THERMAL_WARN is raised. -/
  | thermalWarn (tj : Byte)
  /-- THERMAL_TRIP (16 R449): Tj at 125 C or the stack at 115 C for 100 us trips the device and stops runs. -/
  | thermalTrip
  /-- THERMAL_TRIP_OFF (16 R449): 10 us after a trip the device powers down to Off. -/
  | thermalTripOff
  /-- IDCODE (10 R321): JTAG instruction selecting the identification register. -/
  | jtagIdcode
  /-- SAMPLE_PRELOAD (10 R321): JTAG boundary-scan sample. -/
  | jtagSample (lands : List Bool)
  /-- EXTEST (10 R321): JTAG boundary-scan drive when permitted. -/
  | jtagExtest (lands : List Bool)
  /-- CFG_IN (10 R322): JTAG shift of an image block into the staging path. -/
  | jtagCfgIn (block : HostBlock)
  /-- RB_OUT (10 R321): JTAG shift-out of capture frames. -/
  | jtagRbOut
  /-- BYPASS (10 R321): JTAG one-bit bypass. -/
  | jtagBypass (tdi : List Bool)
  /-- CFG_CMD_NOP (10 R322): CFG_CMD op 0x00 does nothing; the row also stands for a word whose op is unlisted. -/
  | cfgCmdNop (word : BitVec 64)
  /-- CFG_CMD_STAGE (10 R322): CFG_CMD op 0x01 opens a JTAG staging into a slot. -/
  | cfgCmdStage (operand : BitVec 56)
  /-- CFG_CMD_SWITCH_OVER (10 R322): CFG_CMD op 0x02 performs a switch-over. -/
  | cfgCmdSwitchOver (operand : BitVec 56)
  /-- CFG_CMD_BOOT_RETRY (10 R322): CFG_CMD op 0x03 performs a BOOT_RETRY. -/
  | cfgCmdBootRetry (operand : BitVec 56)
  /-- CFG_CMD_STATUS_READ (10 R322): CFG_CMD op 0x04 returns status without acting. -/
  | cfgCmdStatusRead (operand : BitVec 56)
  /-- RUN_PREP_NO_REPLY (05 R144): The leader holds no READY or REFUSE from a device of the set within 1 ms of RUN_PREP, and the start is refused with cause 0x08. -/
  | runPrepNoReply (site : SiteNo)
  /-- RAIL_SENSE_REACHED (15 R420): The VCORE rail sense reaches 97 % of a raised request, so the waiting level change proceeds to its bias and clock steps and reached is set. -/
  | railSenseReached
  /-- BUS_MASTER_ENABLE (12 R345): A configuration-space write of Bus Master Enable stops, or lets resume, every descriptor fetch, DMA, completion, event and MSI-X write. -/
  -- with the other fields of configuration space that the host programs: the table has one row for a write to it
  | busMasterEnable (on : Bool) (ctl : PciCtl)
  /-- VAON_LOSS (10 R312): VAON is lost, clearing the AON domain, including the boot-attempt counter and the CFG_KEY_POLICY lock bit. -/
  | vaonLoss
  /-- DEEP_SLEEP_SUPPLY_LOSS (15 R416): VCORE or VAUX leaves its operating range during Deep Sleep, and every retained engine-memory bank is lost. -/
  | deepSleepSupplyLoss
deriving DecidableEq, Repr

end Sys2Proof
end

