-- ==== Sys2Proof/Decode.lean ====
section
/-! DEFINITION. The command that a word of the opcode table spells. The table gives none of its rows any bits: its commands
are register accesses, descriptors, messages and events, whose encodings the chapters own. Sequence words, which do have a
binary form (03 R70), are read by the engine's own decoder in Machine/Sequence. -/

namespace Sys2Proof

/-- The command a table word spells: none, because no row of the table has bits. -/
def decodeTableWord (_nbits _w : Nat) : Option Instr := none

end Sys2Proof
end

