-- ==== Sys2Proof/Machine/Bits.lean ====
section
/-! DEFINITION. Bit fields, little-endian byte order (00 R7), saturating and wrapping counts, and CRC-32C (00 R8). -/

namespace Sys2Proof.Machine

/-- The `len`-bit field of `v` whose least significant bit is bit `lo`. -/
def fld (v lo len : Nat) : Nat := v / 2 ^ lo % 2 ^ len

/-- Bit `i` of `v`. -/
def bitOf (v i : Nat) : Bool := v.testBit i

/-- `v` with its `len`-bit field at `lo` replaced by `x` (taken modulo the field's range). -/
def putFld (v lo len x : Nat) : Nat :=
  v - fld v lo len * 2 ^ lo + x % 2 ^ len * 2 ^ lo

/-- A Bool as a one-bit field. -/
def b2n (b : Bool) : Nat := if b then 1 else 0

/-- The `len`-bit two's complement reading of `v`. -/
def signed (len v : Nat) : Int :=
  let u := v % 2 ^ len
  if u < 2 ^ (len - 1) then (u : Int) else (u : Int) - (2 ^ len : Nat)

/-- The `len`-bit two's complement code of an integer. -/
def unsignedOf (len : Nat) (i : Int) : Nat := (i % ((2 ^ len : Nat) : Int)).toNat

/-- A count that saturates at the largest value of a `len`-bit field. -/
def satAdd (len a b : Nat) : Nat := min (a + b) (2 ^ len - 1)

/-- Division rounded up. -/
def ceilDiv (a b : Nat) : Nat := (a + b - 1) / b

/-- The `n` little-endian bytes of `v` (00 R7). -/
def leBytes : Nat → Nat → List Byte
  | 0, _ => []
  | n + 1, v => BitVec.ofNat 8 v :: leBytes n (v / 256)

/-- The number spelled by little-endian bytes (00 R7). -/
def leNat : List Byte → Nat
  | [] => 0
  | b :: bs => b.toNat + 256 * leNat bs

/-- The `n`-byte little-endian field of a byte string at offset `o`; bytes past the end read 0. -/
def leAt (bs : List Byte) (o n : Nat) : Nat := leNat ((bs.drop o).take n)

/-- `n` bytes from offset `o`, padded with 0 to `n` bytes. -/
def sliceAt (bs : List Byte) (o n : Nat) : List Byte :=
  let t := (bs.drop o).take n
  t ++ List.replicate (n - t.length) 0

/-- One bit of the reflected CRC-32C division (polynomial 0x1EDC_6F41, reflected 0x82F6_3B78; 00 R8). -/
def crcBit (c : BitVec 32) : BitVec 32 :=
  if c.getLsbD 0 then (c >>> 1) ^^^ 0x82F63B78#32 else c >>> 1

/-- One byte of the CRC-32C division. -/
def crcByte (c : BitVec 32) (b : Byte) : BitVec 32 :=
  crcBit (crcBit (crcBit (crcBit (crcBit (crcBit (crcBit (crcBit (c ^^^ b.setWidth 32))))))))

/-- CRC-32C: initial value 0xFFFF_FFFF, reflected, final XOR 0xFFFF_FFFF (00 R8). -/
def crc32c (bs : List Byte) : Word := (bs.foldl crcByte 0xFFFFFFFF#32) ^^^ 0xFFFFFFFF#32

/-- The least of a list of numbers, `d` when it is empty. -/
def listMin (d : Nat) : List Nat → Nat
  | [] => d
  | x :: xs => xs.foldl min x

/-- The greatest of a list of numbers, `d` when it is empty. -/
def listMax (d : Nat) : List Nat → Nat
  | [] => d
  | x :: xs => xs.foldl max x

/-- The set bits below `n` of a mask, in rising order. -/
def maskBits (n v : Nat) : List Nat := (List.range n).filter (fun i => v.testBit i)

/-- The mask whose set bits are the listed numbers. -/
def bitsMask (l : List Nat) : Nat := l.foldl (fun m i => m ||| 2 ^ i) 0

end Sys2Proof.Machine
end

