-- ==== Sys2Proof/Machine/RegMap.lean ====
section
/-! DEFINITION. The BAR0 address map (01 R29) and, for each assigned register, its reset value, the bits a write stores
and the bits a write of 1 clears, as the register tables of every chapter give them. Read-only bits are computed from
the state, in RegRead. -/

namespace Sys2Proof.Machine

/-- Which static-register rule guards a write (01 R27 and the owning rules). -/
inductive Guard where
  | free
  | engine (e : Nat)      -- an engine's own static register
  | channel (e : Nat)     -- a calibration register of one channel (07 R217)
  | parcel (p : Nat)      -- static for every site with engines in the parcel
  | lsite (n : Nat)       -- SXL_LINKn_LSITE (05 R168)
deriving DecidableEq, Repr

/-- One assigned register. -/
structure RegInfo where
  reset : Nat := 0
  rw : Nat := 0
  w1c : Nat := 0
  guard : Guard := .free
deriving DecidableEq, Repr

/-- Base of engine e's register block (02 R38). -/
def engBase (e : Nat) : Nat := 0x1000000 + e / 32 * 0x40000 + 0x1000 * (e % 32)

/-- Base of parcel p's registers (01 R29). -/
def parBase (p : Nat) : Nat := 0x1000000 + p * 0x40000

/-- Base of timing set n of engine e (02 R38). -/
def tsBase (e n : Nat) : Nat := engBase e + 0x400 + 0x30 * n

/-- Base of the registers of ring n (12 R347). -/
def ringBase (n : Nat) : Nat := 0x1000 + 0x20 * n

/-- Base of the registers of Sahoux link n (05 R168). -/
def linkBase (n : Nat) : Nat := 0x800100 + 0x40 * n

/-- A register with RW bits only. -/
def rwReg (reset mask : Nat) : Option RegInfo := some { reset := reset, rw := mask }

/-- A read-only, write-only or command register: a write stores nothing. -/
def roReg : Option RegInfo := some {}

/-- Registers of a timing set, by offset in the set (02 R39 to R42). -/
def tsReg (e o : Nat) : Option RegInfo :=
  if o = 0 then some { rw := 0xFFFFFFFF, guard := .engine e }
  else if o = 4 then some { rw := 0x8000001F, guard := .engine e }
  else if o < 0x20 then some { rw := 0xFFFFFFFF, guard := .engine e }
  else if o = 0x20 then some { reset := 0x030C30C3, rw := 0x3FFFFFFF, guard := .engine e }
  else none

/-- The read-only and write-only registers of an engine, by offset in its block: 0x010 to 0x01C and 0x040 (03 R105),
0x10C to 0x11C (04 R134), 0x200 to 0x214 (05 R153), 0x234 to 0x24C (06 R199) and 0x308 (02 R66). -/
def engReadOnly (o : Nat) : Bool :=
  (decide (0x010 ≤ o) && decide (o < 0x020)) || decide (o = 0x040) || (decide (0x10C ≤ o) && decide (o < 0x120)) ||
    (decide (0x200 ≤ o) && decide (o < 0x218)) || (decide (0x234 ≤ o) && decide (o < 0x250)) || decide (o = 0x308)

/-- The registers of a parcel that hold no stored bit, by offset from the parcel base: 0x2_000C to 0x2_0018 (04 R135),
0x2_1000 and 0x2_1004 (05 R137), 0x2_2010 to 0x2_2024 (06 R200), 0x2_4104 to 0x2_410C (07 R218), 0x2_5008 to 0x2_5010
and 0x2_5100 to 0x2_517C (08 R257). -/
def parReadOnly (o : Nat) : Bool :=
  (decide (0x2000C ≤ o) && decide (o < 0x2001C)) || (decide (0x21000 ≤ o) && decide (o < 0x21008)) ||
    (decide (0x22010 ≤ o) && decide (o < 0x22028)) || (decide (0x24104 ≤ o) && decide (o < 0x24110)) ||
    (decide (0x25008 ≤ o) && decide (o < 0x25014)) || (decide (0x25100 ≤ o) && decide (o < 0x25180))

/-- Registers of an engine, by offset in its block (03 R104, R105, 04 R134, 05 R153, 06 R199, 02 R66). A reserved
offset is assigned to no register (00 R11). -/
def engReg (e o : Nat) : Option RegInfo :=
  if 0x400 ≤ o then (if o < 0x1000 then tsReg e ((o - 0x400) % 0x30) else none)
  else if o = 0x000 then some { reset := 0xF, rw := 0x003FFF3F, guard := .engine e }
  else if o = 0x004 then some { rw := 0x1FFF, guard := .engine e }
  else if o = 0x008 then some { reset := 1, rw := 0xFF, guard := .engine e }
  else if 0x020 ≤ o ∧ o < 0x040 then some { rw := 0xFFFFFFFF, guard := .engine e }
  else if o = 0x100 then some { rw := 0x8F, guard := .engine e }
  else if o = 0x104 then some { rw := 0x1FFFFF01, guard := .engine e }
  else if o = 0x108 then some { rw := 0xFFFFFF, guard := .engine e }
  else if o = 0x220 then some { reset := 0x400, rw := 0xFF01, guard := .engine e }
  else if o = 0x224 then some { rw := 0xFFFFF000, guard := .engine e }
  else if o = 0x228 then some { rw := 7, guard := .engine e }
  else if o = 0x22C then some { rw := 0xFFFFFF, guard := .engine e }
  else if o = 0x230 then some { reset := 0x008000C0, rw := 0x3FFF3FFF, guard := .engine e }
  else if o = 0x300 then some { reset := 0x10001, rw := 0x13F03, guard := .engine e }
  else if o = 0x304 then some { reset := 0x6710, rw := 0xFFFF, guard := .engine e }
  else if engReadOnly o then roReg
  else none

/-- Registers of a parcel, by offset from the parcel base, 0x2_0000 and up (04 R135, 05 R137, 06 R200, 07 R217, R218,
08 R257). -/
def parReg (p o : Nat) : Option RegInfo :=
  if o = 0x20000 then some { reset := 0x04000004, rw := 0x073F1F07, guard := .parcel p }
  else if o = 0x20004 then some { rw := 0xFFFFFFFF, guard := .parcel p }
  else if o = 0x20008 then some { rw := 0xFF, guard := .parcel p }
  else if o = 0x22000 then some { rw := 3, guard := .parcel p }
  else if o = 0x22004 then some { rw := 0xFFFFF000, guard := .parcel p }
  else if o = 0x22008 then some { rw := 7, guard := .parcel p }
  else if o = 0x2200C then some { rw := 0xFFFFFF, guard := .parcel p }
  else if 0x23000 ≤ o ∧ o < 0x24000 then
    (if o % 0x20 < 0x18 then some { rw := 0x7FF, guard := .channel (32 * p + (o - 0x23000) % 0x400 / 0x20) } else none)
  else if 0x24000 ≤ o ∧ o < 0x24040 ∧ o % 0x10 = 0 then some { rw := 0x1FFFF, guard := .parcel p }
  else if 0x24000 ≤ o ∧ o < 0x24040 ∧ o % 0x10 = 4 then some { rw := 0xFFFF }
  else if o = 0x24100 then some { reset := 0x000F1801, rw := 0x00FFFF01, guard := .parcel p }
  else if o = 0x25000 then some { reset := 0x2020, rw := 0x7F7F, guard := .parcel p }
  else if o = 0x25004 then some { rw := 0xFFFFFFFF, guard := .parcel p }
  else if parReadOnly o then roReg
  else none

/-- HIF registers (12 R347, R350, R363, R343). -/
def hifReg (o : Nat) : Option RegInfo :=
  if o = 0 then roReg
  else if o % 4 = 0 ∧ (0x404 ≤ o ∧ o ≤ 0x428 ∨ o = 0x440) then rwReg 0 0xF
  else if 0x500 ≤ o ∧ o < 0x580 then rwReg 0 0xF
  else if 0x1000 ≤ o ∧ o < 0x1000 + 0x20 * 144 then
    (let n := (o - 0x1000) / 0x20
     let r := o % 0x20
     if r = 0 then rwReg 0 0xFFFFF000
     else if r = 4 then rwReg 0 0xFFFFFFFF
     else if r = 8 then (if n < 64 then rwReg 0x10000 0x000F3F1F else rwReg 0 0x7F00001F)
     else if r = 0xC then rwReg 1 0xFFFFFFFF
     else if r = 0x10 then rwReg 0 0xFFFFFFF8
     else if r = 0x14 then rwReg 0 0xFFFFFFFF
     else roReg)
  else if 0x8000 ≤ o ∧ o < 0x8000 + 8 * 144 then roReg
  else if 0xA000 ≤ o ∧ o < 0xA800 then
    (if o % 0x10 = 0 then rwReg 0 0xFFFFFFFC
     else if o % 0x10 = 0xC then rwReg 1 1
     else rwReg 0 0xFFFFFFFF)
  else if 0xB000 ≤ o ∧ o < 0xB010 then roReg
  else none

/-- DEV registers (12 R346). -/
def devReg (o : Nat) : Option RegInfo :=
  if o < 0x14 then roReg
  else if o = 0x14 then rwReg 0 0xF00
  else if o = 0x20 then roReg
  else none

/-- PWR registers (15 R430). -/
def pwrReg (o : Nat) : Option RegInfo :=
  if o ≤ 0x08 then roReg
  else if o = 0x0C then roReg
  else if o ≤ 0x18 then roReg
  else if o = 0x20 then rwReg 0xBE 0xFF
  else if o = 0x24 then rwReg 0x82401400 0xFFFFFFFF
  else if o = 0x28 then some { w1c := 0x5000 }
  else if o = 0x2C ∨ o = 0x30 ∨ o = 0x34 then roReg
  else if o = 0x38 then some { w1c := 0x18 }
  else if o = 0x3C ∨ o = 0x40 then roReg
  else if 0x80 ≤ o ∧ o < 0xA0 then rwReg 0 0xFFFF
  else if 0xA0 ≤ o ∧ o < 0xC0 then roReg
  else none

/-- CFG registers and the fabric registers of the block (10 R323, 08 R256). -/
def cfgReg (o : Nat) : Option RegInfo :=
  if o < 0x2C then roReg
  else if 0x40 ≤ o ∧ o < 0x58 then roReg
  else if 0x60 ≤ o ∧ o < 0x80 then roReg
  else if o = 0x8008 then rwReg 0 0xFFFF
  else if 0x8000 ≤ o ∧ o < 0x8014 then roReg
  else none

/-- NVM registers (09 R287). -/
def nvmReg (o : Nat) : Option RegInfo :=
  if o = 0 then roReg
  else if o = 4 then rwReg 0x4001 0x1FF01
  else if o = 8 then rwReg 0 0x1FF
  else if o ≤ 0x18 then roReg
  else none

/-- SCB registers (11 R341); SCB_CTL lies in the scrubber's state. -/
def scbReg (o : Nat) : Option RegInfo := if o < 0x28 then roReg else none

/-- TIM registers (13 R384). -/
def timReg (o : Nat) : Option RegInfo :=
  if o = 0 then rwReg 0x6400 0x00FFFFFF
  else if o = 4 then some { w1c := 0x1B0 }
  else if o = 8 ∨ o = 0xC then roReg
  else if o = 0x10 ∨ o = 0x14 then rwReg 0 0xFFFFFFFF
  else if 0x20 ≤ o ∧ o < 0x2C then rwReg 0 0xFFFFFFFF
  else if 0x30 ≤ o ∧ o < 0x44 then roReg
  else if 0x50 ≤ o ∧ o < 0x5C then roReg
  else if 0x60 ≤ o ∧ o < 0x6C then rwReg 0 0xFFFFFFFF
  else if 0x70 ≤ o ∧ o < 0x8C then roReg
  else none

/-- PIN registers (14 R403, 04 R136). PIN_FUNCn is as shipped at reset; a reset writes the boot table's values. -/
def pinReg (o : Nat) : Option RegInfo :=
  if o < 0x180 then rwReg 0x20 0x3FF
  else if 0x200 ≤ o ∧ o < 0x20C then rwReg 0 0xFFFFFFFF
  else if 0x210 ≤ o ∧ o < 0x21C then rwReg 0 0xFFFFFFFF
  else if 0x220 ≤ o ∧ o < 0x22C then roReg
  else if o = 0x300 then roReg
  else if 0x310 ≤ o ∧ o < 0x31C then rwReg 0 0xFFFFFFFF
  else if 0x320 ≤ o ∧ o < 0x32C then some { w1c := 0xFFFFFFFF }
  else if o = 0x400 then roReg
  else if o = 0x500 ∨ o = 0x504 then rwReg 0 0x3F07
  else if o = 0x510 ∨ o = 0x514 then rwReg 0 0x3F03
  else if 0x600 ≤ o ∧ o < 0x640 ∧ o % 0x10 = 0 then some { reset := 0x1C07, rw := 0xFFFF, w1c := 0x20000 }
  else if 0x600 ≤ o ∧ o < 0x640 ∧ o % 0x10 = 4 then roReg
  else if 0xF00 ≤ o ∧ o < 0xF10 then rwReg 0x08000000 0xFF01FFF7
  else none

/-- SXL registers (05 R168). -/
def sxlReg (o : Nat) : Option RegInfo :=
  if o = 0 then rwReg 0 0xF
  else if 0x100 ≤ o ∧ o < 0x200 then
    (let r := o % 0x40
     if r = 0 then rwReg 8 0xD
     else if r = 4 ∨ r = 8 ∨ r = 0xC then roReg
     else if r = 0x10 then some { rw := 0x00BFBFBF, guard := .lsite ((o - 0x100) / 0x40) }
     else none)
  else none

/-- DVM registers (06 R201, 07 R223). -/
def dvmReg (o : Nat) : Option RegInfo :=
  if o = 4 then rwReg 2 3
  else if o = 0x14 then rwReg 0x1002 0xFF02
  else if o < 0x28 then roReg
  else if 0x100 ≤ o ∧ o < 0x100 + 4 * 65 then rwReg 0 0x07FF07FF
  else none

/-- The register assigned to a 4-byte-aligned BAR0 offset, if any (01 R29). The FAB window is not a register. -/
def regInfo (off : Nat) : Option RegInfo :=
  let o := off % 0x100000
  if off % 4 ≠ 0 then none
  else if 0x1000000 ≤ off then
    (if off < 0x1800000 then
      (let p := (off - 0x1000000) / 0x40000
       let r := off % 0x40000
       if r < 0x20000 then engReg (32 * p + r / 0x1000) (r % 0x1000) else parReg p r)
     else none)
  else if off / 0x100000 = 0 then hifReg o
  else if off / 0x100000 = 1 then devReg o
  else if off / 0x100000 = 2 then pwrReg o
  else if off / 0x100000 = 3 then cfgReg o
  else if off / 0x100000 = 4 then nvmReg o
  else if off / 0x100000 = 5 then scbReg o
  else if off / 0x100000 = 6 then timReg o
  else if off / 0x100000 = 7 then pinReg o
  else if off / 0x100000 = 8 then sxlReg o
  else if off / 0x100000 = 9 then dvmReg o
  else if off = 0xA00000 ∨ off = 0xA00004 then roReg
  else none

/-- The stored bits of a register after reset: what an offset not listed in State.regs holds. -/
def regReset (off : Nat) : Word :=
  match regInfo off with
  | some i => BitVec.ofNat 32 i.reset
  | none => 0

end Sys2Proof.Machine
end

