-- ==== Sys2Proof/Machine/SMap.lean ====
section
/-! DEFINITION. Sparse maps from a number (an address, a register offset, an engine) to a value, as plain data: a list
of pairs with strictly rising keys and no entry equal to what an unlisted key reads as, so that equal maps are equal
lists. Every addressed memory, register file and numbered resource of the block is one of these. What an unlisted key
reads as is the argument `d` of every operation, and is fixed where the map is used. -/

namespace Sys2Proof.Machine

/-- A sparse map: pairs of a key and its value, keys strictly rising. -/
abbrev SMap (α : Type) := List (Nat × α)

/-- What key `k` reads as; an unlisted key reads as `d k`. -/
def SMap.get {α : Type} (d : Nat → α) : SMap α → Nat → α
  | [], k => d k
  | (j, v) :: m, k => if j = k then v else SMap.get d m k

/-- The map without an entry for key `k`. -/
def SMap.erase {α : Type} : SMap α → Nat → SMap α
  | [], _ => []
  | (j, v) :: m, k => if j = k then SMap.erase m k else (j, v) :: SMap.erase m k

/-- The map with the pair of `k` and `v` put in key order, in place of any entry of `k`. -/
def SMap.insert {α : Type} : SMap α → Nat → α → SMap α
  | [], k, v => [(k, v)]
  | (j, w) :: m, k, v =>
    if j < k then (j, w) :: SMap.insert m k v
    else if j = k then (k, v) :: m
    else (k, v) :: (j, w) :: m

/-- Writing `v` at key `k`; writing what an unlisted key reads as removes the entry. -/
def SMap.set {α : Type} [DecidableEq α] (d : Nat → α) (m : SMap α) (k : Nat) (v : α) : SMap α :=
  if v = d k then SMap.erase m k else SMap.insert m k v

/-- The value at `k` changed by `f`. -/
def SMap.modify {α : Type} [DecidableEq α] (d : Nat → α) (m : SMap α) (k : Nat) (f : α → α) : SMap α :=
  SMap.set d m k (f (SMap.get d m k))

/-- Consecutive keys from `k` on written with the listed values, one after another. -/
def SMap.setList {α : Type} [DecidableEq α] (d : Nat → α) : SMap α → Nat → List α → SMap α
  | m, _, [] => m
  | m, k, v :: vs => SMap.setList d (SMap.set d m k v) (k + 1) vs

/-- The values of `n` consecutive keys from `k` on. -/
def SMap.getList {α : Type} (d : Nat → α) (m : SMap α) (k : Nat) : Nat → List α
  | 0 => []
  | n + 1 => SMap.get d m k :: SMap.getList d m (k + 1) n

/-- Every key from `k` to `k + n - 1` made unlisted. -/
def SMap.clearRange {α : Type} (m : SMap α) (k n : Nat) : SMap α :=
  m.filter (fun p => p.1 < k || k + n ≤ p.1)

/-- The keys of a map are strictly rising from `lo` on. -/
def SMap.rising {α : Type} : Nat → SMap α → Bool
  | _, [] => true
  | lo, (j, _) :: m => decide (lo ≤ j) && SMap.rising (j + 1) m

/-- The canonical form: keys strictly rising, and no entry equal to what an unlisted key reads as. -/
def SMap.wf {α : Type} [DecidableEq α] (d : Nat → α) (m : SMap α) : Bool :=
  SMap.rising 0 m && m.all (fun p => decide (p.2 ≠ d p.1))

end Sys2Proof.Machine
end

