-- ==== Sys2Proof/Machine/TypesSite.lean ====
section
/-! DEFINITION. State of sites and runs, of the Sahoux links and of the benchmark (05). Times of a run are VCO cycle
numbers: a datum tick is 4 of them and a tick of a site 4, 5, 8 or 16 (01, clock table), so every tick of either clock
begins at a whole one. -/

namespace Sys2Proof.Machine

/-- A descriptor whose completion is still due. `serial` numbers the descriptors fetched, from 1: a ring enabled again starts its indices
from 0 anew, so ring and index alone do not name one. It is 0 for a row that runs without a fetch (log entry 6). -/
structure DescId where
  ring : Nat
  index : Nat
  tag : Nat
  irq : Bool
  op : Nat
  serial : Nat := 0
deriving DecidableEq, Repr

/-- Where a start or a run stands on the device (05 R142, R143, R145). -/
inductive RunPhase where
  | deferred        -- not admitted by the budget arbiter (15 R428)
  | preroll         -- admitted and checked, the pre-roll conditions not yet met
  | ready           -- this device is ready; the start time is not yet fixed
  | scheduled       -- the start time is fixed
  | committed       -- start committed, at 8 t before the start tick
  | running         -- from the start tick until every engine has stopped
  | draining        -- every engine has stopped; R129 does not yet hold, or devices are still to report DONE
deriving DecidableEq, Repr

/-- A stall of a site (05 R148, R149). -/
structure Stall where
  freeze : Nat                    -- F
  reason : Nat
  eng : Nat
  dev : Nat
  waiting : List (Nat × Nat) := []    -- requests of this device whose resume condition is not met: engine and reason
  devs : List Nat := []           -- other devices whose request is not cleared
  frozen : Bool := false          -- F has been reached
  resume : Option Nat := none     -- R
deriving DecidableEq, Repr

/-- A start or run of a site on this device (05 R142 to R153). -/
structure Run where
  phase : RunPhase
  desc : Option DescId := none    -- the RUN_START, on the device it was posted to
  leader : Nat := 0               -- device number of the leader
  timed : Option Nat := none      -- T, 96 visible bits of datum time
  lateOk : Bool := false
  est : Nat := 0                  -- E, mW (15 R428)
  pAdmit : Nat := 0               -- P at admission, mW
  pMax : Nat := 0                 -- highest P during the run, mW
  lead : Nat := 0                 -- Q, datum ticks (05 R167)
  routes : List Nat := []         -- links of the route at this device
  up : Option Nat := none         -- the link toward the leader
  readies : List Nat := []        -- devices that have replied READY
  dones : List Nat := []          -- devices that have reported DONE
  start : Nat := 0                -- VCO cycle of start tick 0
  div : Nat := 4                  -- VCO cycles of a tick of the site
  startTime : Nat := 0            -- datum value of start tick 0
  flagCal : Bool := false         -- calibration out of load range
  flagUpset : Option Nat := none  -- VCO cycle from which records carry flag 14 (11 R329)
  flagUnver : Bool := false       -- configuration unverified
  flagWarn : Bool := false        -- a supply-warning interval overlapped the run
  flagV1 : Bool := false          -- version 1 route
  stall : Option Stall := none
  stallNext : Option Stall := none   -- a stall requested after the resume of the present one was scheduled (05 R148)
  resumedCyc : Bool := false      -- a resume has occurred in the run
  stop : Option (Nat × Nat) := none  -- the first stop request that is no sequence error: its reason and its tick 0 as a VCO cycle
  err : Option Nat := none        -- tick 0 of the first sequence error, as a VCO cycle (03 R100)
  errSeen : Bool := false         -- the engines that were frozen or at a barrier six ticks later have stopped for it
  stopped : Bool := false         -- the device's engines have all stopped
  cut : Bool := false             -- a stop has taken effect after they had all halted
  doneSent : Bool := false        -- DONE has been sent
  trigger : Option (Nat × Nat) := none  -- the triggering engine of a stop-on-fail and its cycle count
  endAt : Nat := 0                -- VCO cycle at which the last engine stopped
  reason : Nat := 0
  others : List (Nat × Nat) := [] -- STOP_REASONs received: reason and datum value of tick 0
  fails : List (Int × Nat) := []  -- compare fails: sample tick and engine, or 1,024 + l for one that came by link l
  mfails : List (Int × Nat) := [] -- match fails, as fails
  arrived : List (Nat × Nat) := []    -- devices that have sent ARRIVE, with their mask
  releaseAt : List (Nat × Nat) := []  -- barrier masks with a release time fixed by RELEASE, VCO
  aborts : List DescId := []      -- RUN_ABORT descriptors to complete when the stop takes effect
  resets : List DescId := []      -- RUN_RESET descriptors to perform and complete after the stop
deriving DecidableEq, Repr

/-- A state of a site's fail bus that the Sahoux links carry: a fail, match-fail or stop bit (05 R155, R157, R167). -/
structure SideBit where
  site : Nat
  tick : Nat                      -- the datum tick at which the site fail bus holds it
  kind : Nat                      -- 0 fail, 1 match fail, 2 stop
  by_ : Nat                       -- the link it came by; 4 for one of this device
deriving DecidableEq, Repr

/-- A site (05 R138 to R141). -/
structure Site where
  formed : Bool := false
  devset : Nat := 0
  abort : Bool := false           -- stall policy abort
  counts : List Nat := []         -- engines of the site on each device, by device number
  run : Option Run := none
deriving DecidableEq, Repr

/-- An SXL_COPY in progress (12 R357). -/
structure Copy where
  desc : DescId
  left : Nat                      -- packets still to be acknowledged, those that were on their way before it among them
  bad : Option Nat := none        -- the last block sent fails its carried check value at the peer (12 R359)
deriving DecidableEq, Repr

/-- One Sahoux link (05 R154 to R168). -/
structure Link where
  state : Nat := 0                -- SXL_LINKn_STAT.state
  version : Nat := 0
  peer : Nat := 0
  reason : Nat := 0
  devNum : Nat := 0               -- own device number in effect since its last training (05 R164)
  locks : Nat := 0                -- lanes with block lock
  lanes : Nat := 0                -- lanes whose TRAIN lane number has been checked
  samples : List Nat := []        -- one-way latencies measured
  lat : Nat := 0
  doneIn : Bool := false          -- TRAIN_DONE received
  doneOut : Bool := false         -- TRAIN_DONE sent
  badRun : Nat := 0               -- consecutive bad side words
  msg : List Byte := []           -- bytes of the message arriving
  txSeq : Nat := 0                -- next message sequence number sent, 8 bits
  rxSeq : Nat := 0                -- next message sequence number expected
  sent : List (Nat × List Byte) := []   -- messages kept for RESEND, newest first
  credits : Nat := 64             -- bulk credits held
  bulkTx : Nat := 0               -- next bulk seq to send
  unacked : List (Nat × List Nat) := [] -- bulk packets sent and not acknowledged, oldest first
  waitTx : List (List Nat) := []  -- bulk packets waiting for credits
  bulkRx : Nat := 0               -- next bulk seq expected
  nakSent : Bool := false         -- a NAK for it is out
  rxWords : List Nat := []        -- words of the block arriving (12 R357)
  copy : Option Copy := none      -- the SXL_COPY in progress
  replayAt : List Nat := []       -- datum ticks of recent replays
  replays : Nat := 0
  badSide : Nat := 0
  badCtl : Nat := 0
  retrains : Nat := 0
  deferRetrain : Bool := false
  txq : List (Option Byte) := []    -- message bytes that side words still have to carry; none for the word that separates two messages
  btx : List (Bool × Nat) := []     -- blocks that lanes 2 and 3 still have to carry: control block or not, payload (05 R154, R159)
  scr : List Nat := []              -- the lanes' scramblers: the last 58 scrambled bits, the latest least significant
deriving DecidableEq, Repr

/-- One engine's benchmark shadow (05 R169, R171). -/
structure Shadow where
  site : Nat := 0
  member : Bool := false
  running : Bool := false
  cyc : Nat := 0
  vec : Nat := 0
  fails : Nat := 0
  stall : Nat := 0
  cs : List Nat := []
  stalled : Bool := false
  halted : Bool := false
  barrier : Bool := false
  off : Bool := false
deriving DecidableEq, Repr

/-- A benchmark that waits for its strobe, or for its capture once strobed (05 R169, R170). -/
structure Bench where
  id : Nat
  cap : Nat                       -- C, datum tick
  timed : Bool
  ovw : Bool
  time : Nat := 0                 -- T of a timed one, 96 visible bits
  desc : Option DescId := none
deriving DecidableEq, Repr

/-- State of the benchmark block (05 R169 to R171). -/
structure Snp where
  lastId : Nat := 0
  unread : Bool := false
  refused : Nat := 0
  pend : Option Bench := none     -- accepted, its strobe not yet issued
  flight : List Bench := []       -- strobed, the capture 8 t later due, oldest first
  shadows : SMap Shadow := []
  timed : Bool := false
  overwrote : Bool := false
  capTime : Nat := 0              -- datum time of C, 80 bits
  reading : List DescId := []     -- BENCH_READs in progress, oldest first
deriving DecidableEq, Repr

end Sys2Proof.Machine
end

