-- ==== Sys2Proof/Machine/TypesFlash.lean ====
section
/-! DEFINITION. State of the configuration flash (09), of images, keys, staging, loading and boot (10), and of the
scrubber (11). `Flash`, `Fuses` and `KeyRam` survive every reset; `Nvm`, `Cfg` and `Scb` hold what a reset clears. -/

namespace Sys2Proof.Machine

/-- The state of a flash page (09 R259, R268, R277). -/
inductive PageState where
  | erased | programmed | interrupted
deriving DecidableEq, Repr

/-- One flash page of 512 bytes, with its spare area: programmed marker, own bank and page number, and BCH code (09 R259). -/
structure Page where
  state : PageState := .erased
  data : List Byte := []
  addr : Nat := 0               -- bank × 8192 + page of the bank
  code : Nat := 0
deriving DecidableEq, Repr

/-- What the controller keeps of one physical sector (09 R277 to R282). -/
structure Sector where
  erases : Nat := 0
  maxPulses : Nat := 0          -- of its last programming
  m3fail : Bool := false        -- its last programming had a MARGIN3 failure
  eraseUs : Nat := 0            -- of its last erase
  incomplete : Bool := false    -- erase-incomplete
  retired : Bool := false
deriving DecidableEq, Repr

/-- One entry of the interrupted-operation journal (09 R276). -/
inductive JEntry where
  | erase (bank sector : Nat) (user : Bool)
  | program (bank sector page : Nat) (user : Bool)
  | update
  | retire (bank sector repl : Nat)       -- a retirement copy and the sector it goes to (09 R279)
deriving DecidableEq, Repr

/-- One static configuration entry of an image (10 R295). -/
structure StaticEntry where
  parcel : Bool                 -- type 1
  off : Nat
  value : Nat
  first : Nat
  last : Nat
deriving DecidableEq, Repr

/-- One pin boot table entry: state, drive, slew (10 R297). -/
structure PinEntry where
  st : Nat := 0
  drive : Nat := 2
  slew : Nat := 0
deriving DecidableEq, Repr

/-- A valid or invalid slot's entry in the slot table with its system part (10 R288, R290, R296, R297, R307). -/
structure Slot where
  valid : Bool := false
  id : Nat := 0
  version : Nat := 3
  keySel : Nat := 0
  policy : Nat := 0
  timeout : Nat := 1
  statics : List StaticEntry := []
  sig : SMap Nat := []          -- 128-bit significance mask by frame number
  pins : List PinEntry := []
  checks : SMap Nat := []       -- frame check table by bank
deriving DecidableEq, Repr

/-- One record of the boot history (10 R323). -/
structure BootRec where
  source : Nat
  reason : Nat
  seq : Nat
deriving DecidableEq, Repr

/-- Everything the flash array and its system area hold: kept through every reset (00 R12, 09, 10, 11 R341). -/
structure Flash where
  subVendor : Nat := 0x1F3D             -- subsystem vendor ID in the system area, as shipped (12 R343)
  subsystem : Nat := 0                  -- subsystem ID in the system area, as shipped
  pages : SMap Page := []               -- by bank × 8192 + physical page
  sectors : SMap Sector := []           -- by bank × 128 + physical sector
  map : SMap Nat := []                  -- bank map: by bank × 128 + role; shipped as the identity (09 R260)
  free : SMap (List Nat) := []          -- free sectors by bank; default as shipped
  sticky : SMap Nat := []               -- wear report byte 12 by bank (09 R282)
  journal : List JEntry := []
  slots : SMap Slot := []               -- slots A, B, G
  prefSlot : Nat := 0
  extEn : Bool := false
  keyEn : Nat := 0                      -- f0_en, f1_en, kram_en
  pinTable : SMap PinEntry := []        -- pin boot table in force (10 R297, R310); shipped weak pull-down
  scbCtl : Nat := 0x64240403            -- stored copy of SCB_CTL (11 R341)
  closure : Nat := 0                    -- closure word (11 R334, R338)
  boots : List BootRec := []            -- boot history, newest first, at most 8
  bootSeq : Nat := 0                    -- attempts since the system area was initialized
deriving DecidableEq, Repr

/-- One fuse key slot (10 R298, R299). -/
structure FuseKey where
  prog : Bool := false
  revoked : Bool := false
  key : List Byte := []
deriving DecidableEq, Repr

/-- The key fuses and the key RAM, with the sticky bits held beside it on VBAT (10 R298 to R300, R323). -/
structure Keys where
  f0 : FuseKey := {}
  f1 : FuseKey := {}
  ram : Option (List Byte) := none
  tamper : Bool := false
  vbatLost : Bool := false
  eventDue : List Nat := []             -- causes of KEY_ZEROIZED held until CTL is powered: 0 tamper, 1 VBAT
deriving DecidableEq, Repr

/-- Who asked for a flash operation. -/
inductive OpFor where
  | user (desc : DescId)                  -- a user command's descriptor
  | stage                               -- the staging in progress
  | retire                              -- the retirement of a sector of the bank (09 R279)
deriving DecidableEq, Repr

/-- One flash program or erase, waiting, running or suspended (09 R267, R271 to R275). -/
structure FlashOp where
  erase : Bool
  sector : Nat                          -- physical sector
  page : Nat                            -- page within it, for a program
  data : List Byte
  src : Option (Nat × Nat) := none      -- a copy: the physical sector and page that are read as it starts (09 R264, R279)
  who : OpFor
  cls : Nat := 0                        -- staging order of 09 R264: 0 erase free, 1 tail copy, 2 new tail, 4 erase main, 5 frame
  started : Bool := false
  suspended : Bool := false
  order : Nat := 0                      -- order of starts, for R267
  eraseUs : Nat := 0                    -- erase time up to the last 200 µs window of R274, µs
  winTicks : Nat := 0                   -- erase time in the present window, in datum ticks: e of R274
  pulses : Nat := 0                     -- pulses applied to the page
  winSus : Nat := 0
  starved : Bool := false
  suspends : Nat := 0
  byWarn : Bool := false                -- suspended by a supply warning since it started (09 R275)
deriving DecidableEq, Repr

/-- A retirement in progress in a bank: the operation that failed its verify, and the replacement (09 R279). -/
structure Retire where
  op : FlashOp
  repl : Nat
deriving DecidableEq, Repr

/-- A user command that has been accepted and waits for its operations (09 R284, R285). -/
structure NvmJob where
  desc : DescId
  erase : Bool
  bank : Nat
  sector : Nat                          -- role of its user sector in the bank (09 R262)
  left : Nat                            -- operations still to complete
  flags : Nat := 0
  eraseUs : Nat := 0
  suspends : Nat := 0
deriving DecidableEq, Repr

/-- State of the flash controller that a reset clears (09 R287). -/
structure Nvm where
  queue : SMap (List FlashOp) := []     -- by bank, in arrival order
  jobs : List NvmJob := []
  retiring : SMap (Option Retire) := [] -- by bank
  supplyHold : Bool := false
  hostHold : Bool := false
  heldAfter : Bool := false
  journalBusy : Bool := true
  starts : Nat := 0
  eccCorr : Nat := 0
  eccHigh : Nat := 0
  eccUnc : Nat := 0
  jResolved : Nat := 0
  jErase : Nat := 0
  jInt : Nat := 0
deriving DecidableEq, Repr

/-- Where an image being staged comes from (10 R302, R305, R321). -/
inductive StageFrom where
  | host (desc : DescId) (flash : Bool) (golden : Bool)  -- an IMAGE_STAGE descriptor: host memory, or a flash image
  | jtag
  | boot (golden : Bool)                -- a flash source of a boot sequence (10 R311)
deriving DecidableEq, Repr

/-- A staging in progress (10 R302). -/
structure Staging where
  src : StageFrom
  slot : Nat
  blocks : Nat := 0                     -- blocks of the descriptor's data reference
  bytes : List Byte := []               -- image bytes received so far, from the header on
  key : List Byte := []                 -- the key its header names
  handled : Nat := 0                    -- frames of the body already handed to the flash
  tails : SMap Nat := []                -- of them tail frames, by bank
  mains : SMap Nat := []                -- and the others, by bank
  swapped : List Nat := []              -- banks whose new bank map is in force (09 R264, step 3)
  dirLen : Option Nat := none           -- image length of a flash source's directory (10 R305, R306)
  stale : Bool := false                 -- its boot sequence has been given up (10 R315)
  begun : Bool := false                 -- the header has been accepted and the target marked invalid
  octal : Bool := false                 -- a flash source is read in 8D-8D-8D mode, not in 1S-1S-1S (10 R305)
  mhz : Nat := 25                       -- the clock it is read at, in MHz (10 R305)
  arrived : Bool := false               -- every byte has arrived and passed step 4 of R302 but for its flash operations
  ready : Bool := false                 -- those operations are done, and step 5 is passed
deriving DecidableEq, Repr

/-- Why a load runs (10 R311, R315, R316, R322). -/
inductive LoadFor where
  | boot (source : Nat)                 -- a boot attempt, source as in CFG_BOOT_REC
  | switch (desc : DescId) (makePref : Bool)
  | jtag (makePref : Bool)
  | revert                              -- the reload of R316
deriving DecidableEq, Repr

/-- A load or a release in progress (10 R307 to R309). -/
structure Load where
  slot : Nat
  why : LoadFor
  prev : Nat                            -- the slot active before, 3 none
  keyOk : Bool := true                  -- the key_bound check, made as the load began, passed (10 R301, R317)
deriving DecidableEq, Repr

/-- State of the configuration controller that a reset clears (10 R323). -/
structure Cfg where
  active : Nat := 3
  loaded : Bool := false
  confirmed : Bool := false
  live : Bool := false                  -- channels-live
  clearing : List (DescId × List Nat) := []  -- CHANNELS_LIVE clears due, and the sites still to stop (02 R457)
  base : Bool := false
  baseReason : Nat := 0
  load : Option Load := none            -- a load before release
  released : Option Load := none        -- the load released and not yet confirmed: the start-confirm timer runs
  phase : Nat := 0                      -- release phases done: 0 none, 1 GSR, 2 clocks, 3 ports, 4 pins
  source : Nat := 7
  lastReason : Nat := 0
  gStageEn : Bool := false
  fuseProgEn : Bool := false
  jtagCtl : Nat := 7
  stage : Option Staging := none
  stageNext : Option Bool := none       -- a boot sequence's flash source that waits for the staging in progress: the golden image
  stageSlot : Nat := 0
  stageReason : Nat := 0
  rejValid : Bool := false
  rejFrame : Nat := 0
  banksDone : Nat := 0
  booting : Bool := false               -- a boot sequence is in progress
  tried : List Nat := []                -- slots tried in it
  todo : List Nat := []                 -- sources left in it: 0 A, 1 B, 2 G, 3 flash primary, 4 flash golden
  wakeSlot : Nat := 3
  jtagOp : Nat := 0
  jtagStatus : Nat := 0
  jtagReason : Nat := 0
  jtagTag : Nat := 0
  jtagBlocks : Nat := 0
  jtagIr : Nat := 1
deriving DecidableEq, Repr

/-- A scrub traverse in progress (11 R325). -/
structure Traverse where
  sig : Bool                            -- significant traverse
  pos : Nat := 0                        -- place, in the order of frame addresses, from which the next frame is sought
  swept : Bool := false                 -- its opening sweep has been made
  held : Bool := false                  -- SCRUB_HELD raised for it
  tails : List (Nat × Nat) := []        -- banks whose tail has moved since it began, with the sector of the tail then (09 R264)
deriving DecidableEq, Repr

/-- One of the scrubber's three voted copies (11 R337): the settings as SCB_CTL lays them out, the map pointers of the active slot as a
number of one byte each, and the closure check's value. -/
structure ScbCopy where
  ctl : Nat := 0x64240403
  ptrs : Nat := 0
  closure : Nat := 0
deriving DecidableEq, Repr

/-- State of the scrubber that a reset clears (11 R341). -/
structure Scb where
  copies : List ScbCopy := [{}, {}, {}]
  ctl : Nat := 0x64240403               -- SCB_CTL as last written
  trav : Option Traverse := none
  sigLeft : Nat := 0                    -- significant traverses before the next full one
  disabled : Bool := false
  stopping : Bool := false              -- en went to 0; the traverse ends at its next step boundary
  restarting : Bool := false            -- a restart has reloaded the settings and is to begin its traverse (11 R340)
  lentTo : Nat := 0                     -- datum tick up to which the configuration read port is lent (11 R333)
  restarts : List Nat := []             -- datum ticks of restarts
  pos : Nat := 0
  nomFull : Nat := 0
  nomSig : Nat := 0
  count : Nat := 0
  cntSig : Nat := 0
  cntNsig : Nat := 0
  cntCont : Nat := 0
  cntUnc : Nat := 0
  cntTmr : Nat := 0
  cntRestart : Nat := 0
  last : Nat := 0
  sigBad : List Nat := []               -- uncorrectable pages of the active slot's significance map
  equalAt : SMap Nat := []              -- datum time (80 bits) a frame was last found equal, by frame number
  releaseAt : Nat := 0                  -- datum time of the load's release
deriving DecidableEq, Repr


end Sys2Proof.Machine
end

