-- ==== Sys2Proof/Machine/TypesHost.lean ====
section
/-! DEFINITION. State of the host interface (12), the datum counter (13) and the general-purpose pins (14). The value a
field has after reset is its default here; registers that a field does not name lie in State.regs. -/

namespace Sys2Proof.Machine

/-- One write the device issues to the world outside, in the order it is issued (12 R344). The list of them is the
model's own record of the device's outputs; no rule reads it back. -/
inductive Out where
  /-- A posted write of bytes to host memory at a host address. -/
  | host (addr : Nat) (bytes : List Byte)
  /-- An MSI-X message of a vector. -/
  | msix (vector : Nat)
  /-- The data a held host read of the FAB window completes with (01 R30). -/
  | fabRead (value : Nat)
  /-- A message sent in the side words of a Sahoux link (05 R158). -/
  | message (link : Nat) (bytes : List Byte)
  /-- A control block handed to the bulk lanes of a Sahoux link: its 64 payload bits (05 R159 to R162). -/
  | control (link payload : Nat)
  /-- A superframe sent on a Sahoux link: the 66 bits of each lane, the sync header least significant (05 R154). -/
  | superframe (link : Nat) (lanes : List Nat)
  /-- A bulk packet sent on a Sahoux link: sequence number and words (05 R160). -/
  | bulk (link seq : Nat) (words : List Nat)
  /-- A level the device presents to the fabric design or on a land, by name. -/
  | level (signal : String) (index : Nat) (value : Bool)
  /-- An error message to the root complex under the AER masks and severities: 0 correctable, 1 non-fatal, 2 fatal (12 R366). -/
  | aer (kind : Nat)
  /-- Bits shifted out of a JTAG data register, least significant first, as a number of a width (10 R321). -/
  | tdo (width value : Nat)
  /-- Acknowledgements on the two-wire interface, of the address and then of the bytes that follow it (15 R410). -/
  | twoWireAck (acks : List Bool)
  /-- Bytes returned on the two-wire interface (15 R410). -/
  | twoWire (bytes : List Byte)
  /-- A word shifted out of SPI master m (14 R401). -/
  | spi (m value : Nat)
deriving DecidableEq, Repr

/-- A land of the external serial flash port (16 R441, 10 R314). -/
inductive XspiLand where
  | unpowered                -- VAUX absent
  | high                     -- driven high
  | pullDown                 -- high-impedance with a weak pull-down
  | reading                  -- in use by a read of the flash
deriving DecidableEq, Repr

/-- One 32-byte record held for an event ring (12 R362): an event record or a continuation. The CRC is made over the
first 28 bytes when the record is raised, so it is a function of them. -/
structure EvRec where
  cont : Bool           -- true for a continuation record, type 0x11
  more : Bool           -- bit 7 of byte 1: a continuation follows
  dev : Nat             -- device number, SXL_DEV
  code : Nat
  items : List Byte     -- at most 14 item bytes, bytes 4 to 17
  time : Nat            -- datum time in 80 bits, bytes 18 to 27
deriving DecidableEq, Repr

/-- One ring's device side (12 R347 to R352). `idx` is the device's own index (the head of a command ring, the tail of
another ring), `bell` the last doorbell value accepted since the ring was enabled. -/
structure Ring where
  en : Bool := false
  err : Bool := false
  cause : Nat := 0
  idx : Nat := 0
  bell : Nat := 0
  since : Nat := 0              -- entries written since the last message of the ring (12 R352)
  timer : Option Nat := none    -- datum value at the first such entry
deriving DecidableEq, Repr

/-- A descriptor fetched and not started (12 R350, R353, R354). -/
structure FDesc where
  serial : Nat
  ring : Nat
  index : Nat
  tag : Nat
  op : Nat
  fence : Bool
  irq : Bool
  dep : Option (Nat × Bool)     -- serial of the descriptor waited for, need_success
  bytes : List Byte
deriving DecidableEq, Repr

/-- A descriptor in execution (12 R355). -/
structure XDesc where
  ring : Nat
  index : Nat
  tag : Nat
  op : Nat
  serial : Nat := 0
deriving DecidableEq, Repr

/-- What is remembered of a fetched descriptor for dependencies: its completion status once it has completed (12 R354). -/
structure Known where
  serial : Nat
  ring : Nat
  index : Nat
  tag : Nat
  status : Option Nat
deriving DecidableEq, Repr

/-- A completion due and not yet written (12 R358). -/
structure Cpl where
  op : Nat
  ring : Nat
  tag : Nat
  status : Nat
  cause : Nat
  hop : Nat
  flags : Nat
  block : Nat
  index : Nat
  result : List Byte
  irq : Bool
  serial : Nat := 0
deriving DecidableEq, Repr

/-- A held access to the FAB window (01 R30). -/
structure FabAccess where
  off : Nat
  size : Nat
  write : Bool
  value : Nat
  from_ : Option Nat := none    -- datum tick from which it has been presented (01 R30)
  shown : Bool := false         -- the fabric clock in which WIN_REQ presents it has passed (08 R252)
deriving DecidableEq, Repr

/-- A state of the PCI Express link (15 R404). -/
inductive PcieLink where
  | l0
  | l1        -- ASPM L1
  | off       -- L2/L3 Ready has been left for off
deriving DecidableEq, Repr

/-- The configuration space of the function, beside Bus Master Enable and what is fixed (12 R343, R345, R352, R366, 13 R375, 15 R404). The
values after a reset are PRESUMED (log entry 76): those of the PCI Express Base Specification, which the rules refer to. -/
structure Pci where
  mps : Nat := 0                          -- Max_Payload_Size: 0 is 128 bytes, 2 is 512
  mrrs : Nat := 2                         -- Max_Read_Request_Size: 2 is 512 bytes
  tags : Nat := 0                         -- 10-bit and 14-bit tag enables
  ptm : Bool := false                     -- PTM Enable
  msix : Bool := false                    -- MSI-X Enable
  fmask : Bool := false                   -- MSI-X function mask
  aspm : Bool := false                    -- ASPM L1 enabled
  d3 : Bool := false                      -- the function is in D3hot
  uncMask : Nat := 0x00400000             -- AER uncorrectable error mask
  corMask : Nat := 0x0000E000             -- AER correctable error mask
  uncSev : Nat := 0x00462030              -- AER uncorrectable error severity
  uncStatus : Nat := 0                    -- AER uncorrectable error status
  corStatus : Nat := 0                    -- AER correctable error status
  corErrs : Nat := 0                      -- correctable errors counted, 32 bits saturating
deriving DecidableEq, Repr

/-- State of the host interface (12). -/
structure Hif where
  rings : SMap Ring := []                 -- by ring number 0 to 143
  fetched : List FDesc := []
  inExec : List XDesc := []
  known : List Known := []
  serial : Nat := 1                       -- the number of the next descriptor fetched
  rrRing : Nat := 63                      -- the ring that took a shared place of execution last (12 R355)
  rrLeft : Nat := 0                       -- how many more it may take in its turn
  cpls : List Cpl := []
  dropped : Nat := 0                      -- HIF_STAT.dropped, 16 bits saturating
  evBuf : List EvRec := []                -- the shared event buffer, 4,096 records (01 R32)
  lost : Nat := 0                         -- records dropped from it and not yet reported
  lostTime : Nat := 0                     -- datum time of the first of them
  msixPend : SMap Bool := []              -- MSI-X pending bits by vector
  pci : Pci := {}                         -- the rest of configuration space (12 R343)
  busMaster : Bool := false               -- Bus Master Enable of configuration space (12 R345)
  fab : List FabAccess := []              -- FAB window accesses, the one presented first (01 R30)
deriving DecidableEq, Repr

/-- A change of TIM waiting for the next sync tick (13 R372). -/
inductive TimPend where
  | set
  | adjust
deriving DecidableEq, Repr

/-- A stretch of the counter that has ended at datum tick `upto`: the value it had reached there, and how it counted (13 R379). -/
structure TimeSeg where
  upto : Nat
  value : Nat
  rate : Nat
  off : Nat
deriving DecidableEq, Repr

/-- State of the datum counter (13). -/
structure Tim where
  hist : List TimeSeg := []               -- the counter's ended stretches, oldest first: what a late record's stamp needs (13 R379)
  value : Nat := 0                        -- the whole counter in units of 2^-40 ns (13 R367)
  tick : Nat := 0                         -- datum ticks counted since reset; the tick number is `off` more (13 R368)
  off : Nat := 0                          -- what tick number corrections have added, modulo 2^64 (13 R382)
  set : Bool := false
  locked : Bool := false                  -- the tick PLL has locked since reset and holds lock
  degraded : Bool := false                -- lock lost after it was held; counting on SYSCLK (13 R369)
  started : Bool := false                 -- the counter runs: lock has been reached since reset (13 R369)
  rate : Nat := 0                         -- the rate word in force, 32 bits two's complement
  pendRate : Option Nat := none
  pendStep : Option TimPend := none
  pendForce : Bool := false
  snap : Nat := 0                         -- snapshot: 96 visible bits (13 R371)
  snapTick : Nat := 0
  pps : Nat := 0                          -- TIM_PPS0-2, 96 bits
  ppsLast : Option Nat := none            -- datum tick of the last PPS_IN capture
  ppsMissRaised : Bool := false           -- PPS_MISSING raised since the last capture
  ppsOut : Bool := false                  -- level of the PPS_OUT land
  ppsRise : Nat := 0                      -- counter value at its last rise
  armed : Option Nat := none              -- the armed alarm's time, 96 visible bits
  ptm : List Nat := []                    -- outstanding PTM dialogs: their t1, 96 visible bits, oldest first
  ptmT1 : Nat := 0
  ptmTime : Nat := 0
  ptmDelay : Nat := 0
  ptmSeq : Nat := 0
  followLock : Bool := false
  corrected : Bool := false               -- the last TIME_TICK needed a tick number correction (13 R382)
  tickSeen : Bool := false                -- a TIME_TICK has been applied and its TIME_VAL is due
  goodAt : Nat := 0                       -- datum tick of the last good TIME_TICK (13 R383)
  tickB : Nat := 0                        -- the tick number that TIME_TICK carried
deriving DecidableEq, Repr

/-- One general-purpose pin (14 R390 to R392). -/
structure Pin where
  func : Nat := 0                         -- the function that drives the pad now
  hold : Option (Bool × Bool) := none     -- the hold latch: output enable and value, while a switch is in progress
  boot : Bool := true                     -- the pin shows its boot state
  bootState : Nat := 0                    -- its pin boot table entry in force (10 R297)
deriving DecidableEq, Repr

/-- One SPI master (14 R401). -/
structure Spi where
  busy : Bool := false
  start : Nat := 0              -- datum tick at which the transfer began
  send : Nat := 0
  recv : Nat := 0
deriving DecidableEq, Repr

/-- A fail of a site's fail bus on its way to FAIL_OUT, eight ticks later (04 R110, R133). Times are VCO cycles. -/
structure FailDue where
  at_ : Nat                     -- its +12 row
  site : Nat
  eng : Nat                     -- 1,024 or more for a fail of another device
  sampled : Nat                 -- its sample tick
  div : Nat                     -- VCO cycles of a tick of the site
deriving DecidableEq, Repr

/-- State of the general-purpose pins (14). -/
structure Pins where
  pin : SMap Pin := []                    -- by pin number 0 to 95
  unread : Bool := true                   -- a cold start has not read the pin boot table yet (10 R314)
  keyStage : Nat := 0                     -- lock key sequence: 0, 1 after 0x5A1C, 2 after 0xC3E5 (14 R393)
  bank : SMap Nat := []                   -- sensed supply level of banks 0 to 2; 1 (1.8 V) where unlisted
  spi : SMap Spi := []                    -- by master 0 to 3
  tamper : SMap Bool := []                -- func 9 held on VBAT for pins 0 and 1 (14 R397)
  runOut : SMap Bool := []                -- RUN_OUT instances asserted, before inversion (14 R399)
  runOutAt : SMap Nat := []               -- datum value of the instance's last change
  failOut : SMap Bool := []               -- FAIL_OUT instances asserted (04 R133)
  failEnd : SMap Nat := []                -- datum tick at which a pulse of the instance ends
  failDue : List FailDue := []            -- fails on their way to FAIL_OUT, oldest first
deriving DecidableEq, Repr

end Sys2Proof.Machine
end

