-- ==== Sys2Proof/Machine/TypesEngine.lean ====
section
/-! DEFINITION. State of the channel engines (02, 03), of compare and fail capture (04). Times of an engine are fine
steps (1/256 t) counted from the start tick of its run, stall ticks included (02 R36, 03 R80). -/

namespace Sys2Proof.Machine

/-- One vector slot as taken from a source (03 R72, 04 R118). -/
structure VSlot where
  code : Nat := 6                 -- pin state code after compact-code expansion; X until a slot is taken
  src : Nat := 0
  ord : Nat := 0                  -- slots taken in the run before it
  map : Option Nat := none        -- a valid 40-bit map address supplied with it
deriving DecidableEq, Repr

/-- The word that owns the current period (03 R70). -/
structure Own where
  word : Nat                      -- the 32-bit word
  addr : Nat
  left : Nat                      -- periods still to begin
  takes : Bool
  masked : Bool
  double : Bool
deriving DecidableEq, Repr

/-- A match body that runs (03 R83 to R85). -/
structure MatchBody where
  limit : Nat
  iters : Nat := 0
  site : Bool
  body : Nat
  depth : Nat                     -- open loops at the MATCH
  win : Option Nat := none        -- first tick of the iteration's window; none before the body's first period begins
deriving DecidableEq, Repr

/-- An acting strobe on its fail path (04 R106, R110). -/
structure Sample where
  tick : Int                      -- strobe sample tick of the run
  counted : Bool := false         -- the +2 row has been reached
  isCap : Bool                    -- a capture
  fail : Bool
  conflict : Bool
  isMatch : Bool
  code : Nat
  h : Bool
  l : Bool
  slot : VSlot
  ts : Nat
  second : Bool                   -- second period of a double-mode pair
  window : Bool
  cyc : Nat                       -- periods completed before this one
  flag10 : Bool
deriving DecidableEq, Repr

/-- A transition placed at a land: time, DEN (true) or DRV, level (02 R34). -/
structure Edge where
  at_ : Int
  den : Bool
  level : Bool
deriving DecidableEq, Repr

/-- One channel engine (02, 03, 04, 05 R153). -/
structure Engine where
  mem : SMap Byte := []           -- local memory, 64 KiB (03 R67)
  seq : Nat := 0                  -- PCL_SEQ_STAT.state
  pc : Nat := 0                   -- address of the word that owns the current or last period
  next : Nat := 0                 -- address of the next word, once the owner has no period left
  own : Option Own := none
  loops : List (Nat × Nat) := []  -- remaining count, body address; innermost first
  calls : List Nat := []
  z : Bool := false
  mt : Bool := false
  body : Option MatchBody := none
  mtCnt : Nat := 0
  mtRaised : Bool := false
  fromE : Nat := 0                -- first sample tick that can set the engine latch (03 R82)
  fromP : Nat := 0
  fromS : Nat := 0
  live : Nat := 0                 -- first tick of the next BFL's live window
  src : Nat := 0
  srcNext : Option Nat := none    -- SRC executed in the current period (02 R57)
  lptr : Nat := 0                 -- LOCAL pointer, 8-byte units
  lptrNext : Option Nat := none
  lsel : Nat := 0                 -- current local block: selector, slots left, slot index within the word
  lrem : Nat := 0
  lidx : Nat := 0
  cur : VSlot := {}               -- the slot most recently taken
  pair0 : VSlot := {}             -- the pair most recently taken
  pair1 : VSlot := {}
  ts : Nat := 0                   -- timing set in effect
  curTs : Nat := 0                -- timing set of the period in progress, or of the last period
  tsNext : Option Nat := none
  dbl : Bool := false             -- the period in progress or last is in double mode
  second : Bool := false          -- the period in progress is the second of its pair
  inPeriod : Bool := false
  beg : Nat := 0                  -- start of the period in progress
  pos : Nat := 0                  -- its end: the next boundary
  shift : Int := 0                -- applied drift offset, fine steps (02 R58, 07 R211)
  sinceShift : Nat := 64          -- periods since the last drift correction
  den : Bool := false             -- levels commanded at the end of the last placed edge
  drv : Bool := false
  edges : List Edge := []         -- transitions commanded in the period in progress, or since a stop or stall
  late : List Edge := []          -- transitions of a run that is over which still lie ahead, in 1/256 of a VCO cycle of datum time
  safe : Bool := true
  stallCh : Bool := false         -- the channel is in the stall state
  haltHold : Bool := false        -- levels held after a HALT with halt_safe = 0
  cyc : Nat := 0
  vec : Nat := 0
  stall : Nat := 0
  cntWrite : Option (Nat × Nat) := none   -- counter number and result of a CNT in its first period
  samples : List Sample := []     -- strobes that have not reached the +4 row of the fail path, oldest first (04 R110)
  delay : Nat := 0                -- ticks of a stall that ended before the engine reached its boundary b (05 R149)
  afterStall : Nat := 64          -- periods begun since the last resume, at most 64 (04 R119)
  arrive : Option (Nat × Nat) := none     -- at a barrier: mask and arrival in fine steps
  errCode : Nat := 0
  errPc : Nat := 0
  errValid : Bool := false
  badTs : Nat := 0
  badValid : Bool := false
  badCheck : Nat := 0
  ecc : Nat := 0
  failCnt : Nat := 0
  conflicts : Nat := 0
  limitHit : Bool := false
  first : Option Nat := none
  capN : Nat := 0
  capOvf : Bool := false
  logged : Nat := 0               -- records that count toward log_limit
  stopTick : Nat := 0             -- tick at which it halted or stopped
  starved : Bool := false         -- STREAM_STARVED raised in this run (06 R196)
deriving DecidableEq, Repr

/-- A 32-byte record on its way from a fail capture unit to the host (04 R117, R119, R132). -/
abbrev Rec := List Byte

/-- One parcel's fail capture unit and fail memory slice (04 R120 to R132). -/
structure Fm where
  mem : SMap Byte := []           -- capture and map areas, by byte of the slice
  inBuf : List Rec := []          -- at most 64
  log : List Rec := []            -- the log area, oldest first
  drain : List Rec := []          -- records read back from spill, older than those in it
  spillAt : Nat := 0              -- oldest block of the spill partition in use, counted from its base
  spillN : Nat := 0               -- spill blocks in use, older than the log area
  lossPend : Nat := 0             -- records not written since the last RECORD_LOSS
  lossTime : Nat := 0
  lossRaised : Bool := false      -- FAIL_RECORD_LOSS raised in this run
  coal : List (Nat × Nat) := []   -- coalescing buffer: map address and mask, oldest first, at most 256
  diverting : Bool := false
  divSince : Nat := 0             -- records diverted since the matching MAP_OVERRUN_START
  overrun : Bool := false         -- PCL_FM_STAT.overrun
  logLoss : Bool := false         -- PCL_FM_STAT.log_loss
  spillFull : Bool := false
  logStall : Bool := false        -- a stall of reason 3 was asked for and its resume condition is not yet met (04 R124)
  divCnt : Nat := 0
  lossCnt : Nat := 0
  oowCnt : Nat := 0
deriving DecidableEq, Repr

end Sys2Proof.Machine
end

