-- ==== Sys2Proof/Machine/TypesParcel.lean ====
section
/-! DEFINITION. State of the deep vector memory and the stream queues (06), of calibration and training (07) and of the
parcel ports, the fabric RAM and readback (08). -/

namespace Sys2Proof.Machine

/-- One engine ring of a VQ, or a CQ, with its stream (06 R186, R191). A packet is written whole by one command, so no
ring ever holds a packet being written: used equals level, and cm equals wr. -/
structure VRing where
  rd : Nat := 0                   -- first word not yet released, in words of the ring
  q : List Nat := []              -- the committed words from rd on
  inPkt : Bool := false           -- the consumer is inside a packet
  hdrIn : Bool := false           -- its header is not yet released
  sel : Nat := 0
  left : Nat := 0                 -- slots (VQ) or words (CQ) of the packet still to take
  idx : Nat := 0                  -- slot index within the word at the head
  keep : List Nat := []           -- words that flushes have kept, not yet released: one length for each part cut off, oldest first (06 R189)
  exp : Option Nat := none        -- expected sequence number; none: the next commit is exempt
  seqNo : Nat := 0                -- exp_seq: the expected number as last set; no flush changes it
  blocked : Bool := false
  rewinds : Nat := 0
  flushes : Nat := 0
  st : Nat := 0                   -- 0 IDLE, 1 ACTIVE, 2 END, 3 ERROR
  err : Nat := 0
  base : Nat := 0                 -- bound stream base, byte address
  blocks : Nat := 0
  pos : Nat := 0                  -- words fetched
  retries : Nat := 0              -- rewinds of the packet at pos since it was first written
  blockBad : Option Nat := none   -- the block that has failed its check once (06 R193)
  waitRetry : Bool := false       -- a retry is pending (06 R193)
  comTo : Nat := 0                -- VCO cycle at which the parcel's tick of the last commit ends
  comWords : Nat := 0             -- words committed in that tick, at the end of q (06 R187)
deriving DecidableEq, Repr

/-- One slot in a parcel port buffer: raw value, selector, net-0 tick it was written at (08 R245). -/
structure PSlot where
  raw : Nat
  sel : Nat
  at_ : Nat
deriving DecidableEq, Repr

/-- A CQ_PUSH in progress (06 R197). -/
structure Push where
  desc : DescId
  words : List Nat                -- data words not yet written
  retries : Nat := 0
  last : Nat := 0                 -- last seq committed
  bad : Option (Nat × Nat) := none    -- the first block that failed on entry: its index, and the status it gives
deriving DecidableEq, Repr

/-- One engine's queue and port state (06, 08). -/
structure Vq where
  ring : VRing := {}
  buf : List PSlot := []          -- parcel port slot buffer, oldest first, at most 64
  rdy : Bool := true              -- PP_RDY as presented at the last net-0 edge (08 R245)
  mqPos : Nat := 0                -- the next map queue entry of the engine, counted from the parcel's first
  mmRaised : Bool := false        -- PP_LEVEL_MISMATCH raised in this run
  res : Nat := 0                  -- bits 0 to 5 of its lane of PP_RES as last presented
  resNext : Nat := 0              -- results since the net-0 edge that presented it
deriving DecidableEq, Repr

/-- A CAL_MEASURE in progress (07 R205). -/
structure Meas where
  desc : DescId
  out : DataOut
  block : List Byte               -- the result block
  kind : Nat                      -- stimulus: 0 to 3 DRV rising and falling, DEN rising and falling, 4 and 5 reference rising and falling
  launch : Nat                    -- launching engine of a reference stimulus
  mask : Nat                      -- channels measured
  aggr : Nat                      -- aggressor period, ticks
  aggrMask : Nat
  slots : Nat                     -- repetition slots
  spacing : Nat                   -- ticks of a slot
  from_ : Nat                     -- VCO cycle at which the first slot begins
  upto : Nat                      -- and at which the last one ends
deriving DecidableEq, Repr

/-- A CQ word as a port presents it (08 R248, R249). -/
structure CqShow where
  word : Nat
  first : Bool
  last : Bool
deriving DecidableEq, Repr

/-- One parcel's shared queues, port and calibration state (06 R197 to R200, 07, 08). -/
structure Par where
  cq : VRing := {}
  push : Option Push := none
  cqAt : Option Nat := none       -- VCO cycle of the net-0 edge at which a CQ word was last read
  fq : VRing := {}                -- the FQ; seqNo is the sequence number of its next packet (06 R198)
  fqDone : Nat := 0               -- records of the first packet already written to the event ring
  fqDiscard : Nat := 0
  fqLoss : Option (Nat × Nat) := none   -- records discarded by a flush and its datum time, due as a RECORD_LOSS
  mq : List (Nat × Bool) := []    -- map queue entries, oldest first, at most 128
  mqBase : Nat := 0               -- entries released since reset
  mardy : Bool := true            -- 126 entries or fewer at the last net-0 edge (08 R247)
  cqShow : Option CqShow := none  -- the CQ word presented at the next net-0 edge (08 R249)
  cqEndShow : Bool := false       -- PP_CQ_END there
  ppOvf : Nat := 0                -- PCL_PP_OVF
  ppOvfS : Bool := false          -- PCL_PP_STAT.ovf
  mqOvf : Bool := false           -- PCL_PP_STAT.mq_ovf
  ovfRaised : Bool := false       -- PARCEL_PORT_OVERFLOW raised in this run or stretch
  calOut : Bool := false          -- the sample lies in an interval out of calibration load range
  calFrom : Nat := 0              -- datum tick at which the interval began
  calTo : Nat := 0                -- datum tick at which the last one ended
  uncal : Bool := false           -- the run started with an invalid entry (07 R208)
  calRaised : Bool := false
  tempRaised : Bool := false
  limRaised : Bool := false
  statUncal : Bool := false         -- W1C bits of PCL_CAL_STAT
  statTemp : Bool := false
  statLim : Bool := false
  oorCnt : Nat := 0
  sense : Nat := 0                -- PCL_CAL_SENSE
  loadIdx : Nat := 0              -- load index of the last evaluation
  meas : Option Meas := none      -- the measurement in progress
  target : Int := 0               -- target offset of the last evaluation, fine steps
deriving DecidableEq, Repr

/-- State of the deep vector memory (06, 07 R219 to R223). -/
structure Dvm where
  bytes : SMap Byte := []         -- contents; an unlisted byte is 0
  check : SMap Nat := []          -- stored check value by block; unlisted as initialized (06 R179)
  parts : SMap (Nat × Nat) := []  -- partition map in force: base and size in units; unlisted absent
  initDone : Bool := false
  trained : Bool := false
  trainOff : Bool := false        -- training failed; the memory is unavailable
  toCentre : Nat := 0             -- pseudo-channels still to be re-centred after self-refresh (06 R180, 07 R220)
  selfRefresh : Bool := false
  eccCorr : Nat := 0
  eccUnc : Nat := 0
  partErr : Nat := 0
  partBad : Nat := 0
  minMargin : Nat := 0            -- of the last pass
  worstPc : Nat := 0
  trainTag : Nat := 0
  passes : Nat := 0
  forced : Nat := 0
  temp : Nat := 0
  retrainReq : Bool := false
  retraining : Bool := false
  needed : Bool := false          -- retrain_needed
  windowCorr : Nat := 0
  risingAt : Option Nat := none
  marginLow : Bool := false       -- and DVM_MARGIN_LOW raised since the last training
deriving DecidableEq, Repr

/-- A readback capture that waits for its edge (08 R253). -/
structure RbPend where
  desc : DescId
  id : Nat
  net : Nat
  ovw : Bool
  timed : Bool := false
  t : Nat := 0                    -- T of the timed mode, datum time value
  from_ : Nat := 0                -- datum tick at which the descriptor executed
  shot : Option (SMap Bool × Nat) := none   -- the edge E has come: every flip-flop's Q and the datum time, 80 bits
deriving DecidableEq, Repr

/-- An access of a fabric RAM port that another within 1 ns may still meet (08 R231). -/
structure RamAcc where
  word : Nat                      -- 512 × block + word
  portB : Bool
  net : Nat
  at_ : Nat                       -- VCO cycle
  write : Bool
  before : Nat                    -- the word before it, and the number of its wrong bits
  wrong : Nat
  width : Nat                     -- the port's width, and the first bit of its view
  place : Nat
  mask : Nat                      -- lanes written, and their data in place
  data : Nat
deriving DecidableEq, Repr

/-- State of the fabric (08). -/
structure Fab where
  sram : SMap (List Byte) := []   -- configuration frames held, by frame number
  ram : SMap Nat := []            -- fabric RAM words of 72 bits by block × 512 + word; initial contents by load
  ramFlip : SMap Nat := []        -- the wrong ones of a word's 72 data and 8 check bits (08 R232)
  ramBack : List Nat := []        -- words corrected at a read and not yet written back (08 R232)
  ramOut : SMap Nat := []         -- read data of a port by 2 × block + port: 72 bits, SBE, DBE (08 R230, R232)
  ramReg : SMap Nat := []         -- the output register of a port (08 R230)
  recent : List RamAcc := []      -- accesses of the last 1 ns
  ff : SMap Bool := []            -- flip-flops at 1, by cell (08 R227, R228)
  seg : SMap Bool := []           -- long-line segments whose bus keeper holds 1 (08 R234)
  fio : SMap Nat := []            -- FIO_O (1) and FIO_OE (2) as the design drives them, by pin (14 R386)
  fallAt : Option Nat := none     -- net 0 is high: the VCO cycle at which it falls (08 R237, R240)
  edges : Nat := 0                -- net-0 edges since fabric clocks were enabled: the number k of the next (08 R238)
  gate : List Nat := []           -- regions idle and permitted to be gated, at the last three net-0 edges, newest first (08 R239)
  pauseTo : Nat := 0              -- datum tick up to which a level change pauses the nets (08 R240)
  gsr : Bool := true
  clocks : Bool := false
  ports : Bool := false
  eccCorr : Nat := 0
  eccUnc : Nat := 0
  idle : Nat := 0                 -- RGN_IDLE as last sampled
  rbId : Nat := 0
  rbUnread : Bool := false
  rbHeld : Bool := false          -- captured shadows have not been discarded
  rbPend : Option RbPend := none
  rbFf : SMap Bool := []          -- the shadows at 1, by cell (08 R253)
deriving DecidableEq, Repr

end Sys2Proof.Machine
end

