-- ==== Sys2Proof/Netlist.lean ====
section
/-! DEFINITION. A user design as its configuration frames set it up (08 R224, R227 to R230, R234, R238): cells, clusters, RAM blocks,
long-line segments and clock nets. Near and far lines have one driver each, a multiplexer, so a wire of them is named by the output
that it carries. -/

namespace Sys2Proof

/-- Where a wire of the fabric gets its value. Cells are numbered 16 × (384 × column + row) + k, RAM blocks 72 × column + block. -/
inductive Src where
  | const (v : Bool)
  /-- The LUT output of a cell: in carry mode its sum. -/
  | lut (cell : Nat)
  /-- The carry output of a cell. -/
  | carry (cell : Nat)
  /-- The flip-flop output of a cell. -/
  | ff (cell : Nat)
  /-- A read data bit of port A or B of a RAM block; bit 72 is SBE, bit 73 DBE. -/
  | ram (block : Nat) (portB : Bool) (bit : Nat)
  | seg (n : Nat)
  /-- An outbound signal of a parcel port: 0 PP_RES, 1 PP_RDY, 2 PP_MARDY, 3 PP_CQ_D, 4 PP_CQ_V, 5 PP_CQ_FIRST, 6 PP_CQ_LAST, 7
  PP_CQ_END. -/
  | port (p kind bit : Nat)
  /-- A signal of the host window: 0 WIN_REQ, 1 WIN_WE, 2 WIN_ADDR, 3 WIN_BE, 4 WIN_WDATA. -/
  | win (kind bit : Nat)
  /-- A general-purpose pin's input. -/
  | pin (n : Nat)
deriving DecidableEq, Repr

/-- A logic cell (08, Cell options). -/
structure Cell where
  lut : Nat := 0                  -- 16 bits
  carry : Bool := false
  a : Src := .const false
  b : Src := .const false
  c : Src := .const false
  d : Src := .const false
  bypass : Option Src := none     -- the flip-flop's D is the bypass input, and not the LUT output
  clk1 : Bool := false            -- cluster clock 1
  falling : Bool := false
  ce : Nat := 0                   -- 0 always, 1 cluster CE 0, 2 cluster CE 1
  sr : Nat := 0                   -- 0 none, 1 cluster SR 0, 2 cluster SR 1
  srSet : Bool := false
  srAsync : Bool := false
  init : Bool := false
  used : Bool := false            -- the design uses the flip-flop's output
deriving DecidableEq, Repr

/-- The carry input of a cluster's cell 0 (08 R229). -/
inductive Cin where
  | const (v : Bool)
  | input (s : Src)
  | below                         -- cell 15 of the cluster one row to the south
deriving DecidableEq, Repr

/-- What the cells of a cluster share. -/
structure Cluster where
  clk0 : Nat := 0                 -- global nets
  clk1 : Nat := 0
  ce0 : Src := .const false
  ce1 : Src := .const false
  sr0 : Src := .const false
  sr1 : Src := .const false
  cin : Cin := .const false
deriving DecidableEq, Repr

/-- Write modes of a RAM port (08 R230). -/
inductive WriteMode where
  | writeFirst | readFirst | noChange
deriving DecidableEq, Repr

/-- A port of a RAM block (08 R230). -/
structure RamPort where
  net : Nat := 0
  width : Nat := 72               -- 1, 2, 4, 9, 18, 36 or 72
  mode : WriteMode := .writeFirst
  outReg : Bool := false
  en : Src := .const false
  addr : List Src := []           -- least significant first
  we : List Src := []             -- one for each 9-bit lane
  din : List Src := []
deriving DecidableEq, Repr

/-- The source of a global net from 1 on (08 R238). -/
inductive NetSrc where
  | off
  | divided (n p : Nat)
  /-- A user clock from a clock entry cell. -/
  | entry
  /-- A user clock from a GPIO clock function: CLKIN k, pin 8 k (14 R386). -/
  | clkin (k : Nat)
deriving DecidableEq, Repr

/-- A driver-enable or joint bit that is 1: the frame it lies in, and the segment that its tap or joint drives (08 R226, R234). Taps and
joints are numbered over the device. -/
structure TapBit where
  frame : Nat                     -- frame address
  seg : Nat
  tap : Nat
deriving DecidableEq, Repr

/-- A design: what its frames set, by number. An unlisted cell is not used, an unlisted segment has no driver, and an unlisted net is
off. -/
structure Design where
  cells : List (Nat × Cell) := []
  clusters : List (Nat × Cluster) := []
  rams : List (Nat × RamPort × RamPort) := []
  taps : List (Nat × Src) := []               -- what each tap would drive, and each joint: the segment it comes from
  segs : List (Nat × List Src) := []          -- the drivers of each segment: those whose bit is 1 (08 R234)
  nets : List (Nat × NetSrc) := []
  regions : List (Nat × Nat) := []            -- the nets that the image enables for a region, as a mask
  fio : List (Nat × Src × Src) := []          -- FIO_O and FIO_OE of a general-purpose pin (14 R386)
deriving DecidableEq, Repr, Inhabited

/-- The entry of a list for a number. -/
def entryOf {α : Type} (l : List (Nat × α)) (n : Nat) : Option α := (l.find? (fun p => p.1 = n)).map (·.2)

def Design.cell (d : Design) (n : Nat) : Cell := (entryOf d.cells n).getD {}
def Design.cluster (d : Design) (n : Nat) : Cluster := (entryOf d.clusters (n / 16)).getD {}
def Design.drivers (d : Design) (n : Nat) : List Src := (entryOf d.segs n).getD []
def Design.net (d : Design) (n : Nat) : NetSrc := (entryOf d.nets n).getD .off

/-- The clock region of a cluster column and row (08 R224). -/
def regionOf (col row : Nat) : Nat := 4 * (row / 96) + col / 48

/-- The segments of a design with the drivers that tap bits enable (08 R234). -/
def Design.withTaps (d : Design) (bits : List TapBit) : Design :=
  { d with segs := (bits.map (·.seg)).dedup.map fun n =>
      (n, (bits.filter (fun x => x.seg == n)).map fun x => (entryOf d.taps x.tap).getD (.const false)) }

/-- The region of a cell, and of a RAM block, whose column k lies east of logic column 3k + 2 (08 R224). -/
def cellRegion (n : Nat) : Nat := regionOf (n / 6144) (n / 16 % 384)
def ramRegion (b : Nat) : Nat := 4 * (b % 72 / 18) + b / 72 / 16

/-- The columns along which a parcel's port lies, and whether at the north edge (08 R224). -/
def portColumns (p : Nat) : List Nat := (List.range 12).map (· + 12 * (p % 16))
def portNorth (p : Nat) : Bool := decide (16 ≤ p)

/-- A region receives a net: the image enables it there (08 R239). -/
def Design.receives (d : Design) (region net : Nat) : Bool := ((entryOf d.regions region).getD 0).testBit net

/-- The global net that clocks a cell's flip-flop. -/
def Design.clockOf (d : Design) (n : Nat) : Nat := if (d.cell n).clk1 then (d.cluster n).clk1 else (d.cluster n).clk0

/-- The carry into a cell: the carry of the cell before it in the cluster, or the cluster's choice for cell 0 (08 R229). -/
def Design.cinOf (d : Design) (n : Nat) : Src :=
  if n % 16 ≠ 0 then .carry (n - 1)
  else match (d.cluster n).cin with
    | .const v => .const v
    | .input s => s
    | .below => if n / 16 % 384 = 0 then .const false else .carry (n - 1)

/-- Words of a RAM view, and where view word i lies: its physical word, the bit it starts at (08 R230). -/
def viewPlace (w i : Nat) : Nat × Nat := if w ≤ 4 then (i * w / 64 % 512, i * w % 64) else (i * w / 72 % 512, i * w % 72)

/-- The bits of a physical word that a port's write enables select: 9-bit lanes, or the whole view word at widths below 18 (08 R230). -/
def laneMask (w at_ : Nat) (we : List Bool) : Nat :=
  if w < 18 then (if we.headD false then (2 ^ w - 1) * 2 ^ at_ else 0)
  else ((we.take (w / 9)).mapIdx fun i on => if on then 511 * 2 ^ (9 * i + at_) else 0).sum

end Sys2Proof
end

