-- ==== Sys2Proof/Config.lean ====
section
/-! DEFINITION. What one part of stepping B0 fixes and the manual leaves to the part: fuses, the firmware release, and
the free values. Each opaque constant has no body: nothing can be proved of its value. -/

namespace Sys2Proof.Config

/-- The speed-grade fuse (00 R2, 12 DEV_REV [8]): true on a -12 part. Free: every statement holds for both grades. -/
opaque speed12 : Bool

/-- The temperature-grade fuse (00 R2, 12 DEV_REV [9]): true on grade X. -/
opaque gradeX : Bool

/-- Minor version and build of the firmware release, bits [15:0] of DEV_FW (12 R456). The manual holds for every
release that reports major version 1. -/
opaque fwMinorBuild : BitVec 16

/-- Selects the fused unique number (12 R456). -/
opaque uidSeed : Nat

/-- The 64-bit unique number of DEV_UID_LO and DEV_UID_HI: any value but 0 (12 R456). -/
def uid : Nat := uidSeed % (2 ^ 64 - 1) + 1

/-- The part of a site's control lead that lies beyond the device's own links, in datum ticks (05 R167): it depends on links
of other devices. -/
opaque farLead : Nat → Nat

/-- A link of a site's route that joins two other devices uses version 1: by site (05 R163). -/
opaque farV1 : Nat → Bool

/-- A REFUSE with cause 0x02 from a device that has not replied READY tells of a run reset or an abort there, and not of a run that is
active there (05 R144, R147): by site and datum tick. The message has one code for both. -/
opaque refuseIsReset : Nat → Nat → Bool

/-- The cycle count, at its boundary b, of a requesting engine of another device: by site and engine (05 R150). The STALL
message does not carry it. -/
opaque farCycle : Nat → Nat → Nat

/-- What a lane's scrambler holds before its first block, by lane (05 R154). -/
opaque scrambler : Nat → Nat

/-- Where the median of 64 latencies lies when the two middle ones differ (05 R162): the manual names no choice. -/
opaque medianTie : Nat → Nat → Nat

/-- The level of a pad, or of a signal inside the part, that the manual does not give: by number of the signal and datum tick.
Pads 0 to 95 as driven from outside; 288 + n what a serial output of pin n carries (14 R386, R401, R402). -/
opaque padFree : Nat → Nat → Bool

/-- FIO cycles between two datum ticks: FIO runs at 200 MHz ±5 % (01, Clock sources; 14 R401). -/
opaque fioCycles : Nat → Nat → Nat

/-- What a byte of an interrupted or uncorrectable flash page reads as: by page and byte (09 R277, R285: the data as read). -/
opaque flashRaw : Nat → Nat → BitVec 8

/-- The driver-enable and joint bits that are 1 in frames 135 to 142, by frame number, in frame-address order: their places within the
frames are not described (08 R226). -/
opaque tapBits : List (Nat × List (BitVec 8)) → List TapBit

/-- The first bit that makes the second driver of a segment; `seen` lists the segments driven by the bits before (08 R235). -/
def secondDriver : List TapBit → List Nat → Option TapBit
  | [], _ => none
  | x :: xs, seen => if seen.contains x.seg then some x else secondDriver xs (x.seg :: seen)

/-- The long-line rule on frames 135 to 142: the frame address of the bit that makes the second driver of the first violating segment, if
the frames, by frame number, break the rule (08 R235). -/
def longLine (frames : List (Nat × List (BitVec 8))) : Option Nat := (secondDriver (tapBits frames) []).map (·.frame)

/-- The first segment with a second driver, for frames as `longLine` takes them (11 R332). -/
def segment (frames : List (Nat × List (BitVec 8))) : Nat := ((secondDriver (tapBits frames) []).map (·.seg)).getD 0

/-- The design that configuration frames set up, by frame number, but for the bits of `tapBits`: the bit layout within frames is not
described (08 R226). -/
opaque netlist : List (Nat × List (BitVec 8)) → Design

/-- The value of a wire in a combinational loop, and of a long-line segment whose drivers differ: by its number and datum tick (08
R236). -/
opaque unsettled : Nat → Nat → Bool

/-- A user clock rises, or falls, within a datum tick: by net and tick (08 R238). -/
opaque userRises : Nat → Nat → Bool
opaque userFalls : Nat → Nat → Bool

/-- What a judgement of an engine's source assumes of a BFL or ENDM whose decision is still to come: that it branches, or that its match
is met; by engine, word address and datum tick (05 R148, R458). -/
opaque branchAhead : Nat → Nat → Nat → Bool

/-- A readback capture takes the old value of a flip-flop that a user clock clocks within 1 t of its edge, and not the new one: by cell and
datum tick (08 R253). -/
opaque rbOld : Nat → Nat → Bool

/-- Of two accesses to a RAM word by ports on different nets within 1 ns, the later one in time takes effect first: by word and datum
tick (08 R231). -/
opaque ramSwap : Nat → Nat → Bool

/-- The datum ticks for which the fabric's nets pause at a change of its level, at most 40 µs: by datum tick (08 R240, 15 R420). -/
opaque levelPause : Nat → Nat

/-- A mean of a measurement that is no whole number of its unit is rounded up: by sum and count (07 R206, R209). -/
opaque meanUp : Int → Nat → Bool

/-- A field of a CAL_MEASURE result that has no value in its format: the mean and spread of no transition, a spread or a count past 16
bits; by channel and byte offset (07 R206). -/
opaque calOpen : Nat → Nat → Nat

/-- When a channel that CAL_MEASURE stimulates returns to its level before the launch, in ticks after the 64 t in which the transition
may be seen: by engine and repetition slot (07 R205). -/
opaque calReturn : Nat → Nat → Nat

/-- The running flash operation of a bank gains in a datum tick: a tick of erase time in which a pulse is applied, or a program pulse
completed; by bank and tick (09 R271, R272: verifies, ramps and resumes lie between pulses, and no pulse has a stated length). -/
opaque flashPulse : Nat → Nat → Bool

/-- The page of a slot's system part, 0 to 2,559, that holds a page of its significance map: their layout is not given (09 R262, 11
R330). -/
opaque sigPlace : Nat → Nat

/-- The BCH code of a flash page's data and address: its polynomial is not given (09 R259). -/
opaque pageCode : List (BitVec 8) → Nat → Nat

/-- The pages of a slot's system part, as made from an image's header and plaintext body: their layout is not given (09 R262, 10 R302). -/
opaque systemPages : List (BitVec 8) → List (List (BitVec 8))

/-- The frame address reported with a rejection of reason 0x0A that concerns no frame (10 R320). -/
opaque rejFrame : Nat → BitVec 32

/-- The rail that POWER_OVER_BUDGET names when no rail exceeds its own limit (15 R427): by datum tick. -/
opaque overRail : Nat → BitVec 8

/-- Control-clock cycles between two writes of a pin lock sequence that are spelled as plain register writes, which carry no time
(14 R393): by datum tick. -/
opaque lockCycles : Nat → Nat

end Sys2Proof.Config
end

