-- ==== Sys2Proof/Machine/TypesPower.lean ====
section
/-! DEFINITION. State of the power controller, the budget arbiter, the supply monitors and the AON domain (15, 16). The
value a field has after reset is its default here. -/

namespace Sys2Proof.Machine

/-- The five power states (15 R404). -/
inductive PState where
  | run | idle | sleep | deepSleep | off
deriving DecidableEq, Repr

/-- The code of a power state in descriptors, registers and events (15 R405, R430). -/
def PState.code : PState → Nat
  | .run => 0 | .idle => 1 | .sleep => 2 | .deepSleep => 3 | .off => 4

/-- The grade's highest performance level (00 R2, 15 R418). -/
def topLevel : Nat := if Config.speed12 then 2 else 3

/-- The VCORE target of a performance level in mV (15 R418). -/
def levelMv (l : Nat) : Nat :=
  if l = 3 then 850 else if l = 2 then 780 else if l = 1 then 720 else 650

/-- The VCO cycles of one tick at a performance level (01, clock table). -/
def levelDiv (l : Nat) : Nat :=
  if l = 3 then 4 else if l = 2 then 5 else if l = 1 then 8 else 16

/-- One PWR_LEVEL in progress (15 R419, R420). -/
structure LevelJob where
  desc : DescId
  fabric : Bool                 -- the fabric is still to change
  mask : Nat                    -- parcels still to change
  level : Nat
  waited : Bool                 -- a change was deferred
  railWait : Bool               -- step 1 of R420: the raised request waits for the rail sense
deriving DecidableEq, Repr

/-- One admitted run's estimate and its start commit (15 R428). -/
structure Admitted where
  site : Nat
  est : Nat                     -- mW
  commit : Nat                  -- datum tick of its start commit, the greatest number while not fixed
deriving DecidableEq, Repr

/-- State of the power controller outside AON (15 R430). Powers are in mW. -/
structure Pwr where
  state : PState := .run
  entering : Option PState := none        -- Deep Sleep or Off entry waiting for PME_Turn_Off (15 R408)
  entryWait : Option (DescId × PState × Nat) := none   -- an entry whose command's completion is not written yet (15 R407, R408)
  mask : Nat := 0                         -- its retention mask, 256 bits (15 R406)
  wakeDue : Option Nat := none            -- a wake that arrived during the entry (15 R407)
  coreClk : Bool := false
  pllOn : Bool := false                   -- the tick PLL has been started and not stopped
  sleepAt : Nat := 0                      -- datum tick of the last entry to Sleep
  fromSleep : Bool := false               -- woken from Sleep and not yet restarted by CLK_SWITCH (15 R412, R414)
  clkWait : Option DescId := none         -- a CLK_SWITCH waiting for lock (15 R414)
  fabLevel : Nat := topLevel
  pclLevel : SMap Nat := []               -- levels that differ from the grade's highest, by parcel
  pclOn : Nat := 0xFFFFFFFF
  jobs : List LevelJob := []
  railReq : Nat := levelMv topLevel
  reached : Bool := false
  reverseBias : Bool := false             -- Idle and Sleep body bias (15 R421)
  twiPtr : Nat := 0
  budget : Nat := 190                     -- B in force, W
  grantNvm : Nat := 0x40
  grantScrub : Bool := true
  grantRefresh : Bool := true
  overNow : Bool := false                 -- the device was over budget at the last update (15 R426)
  overB : Bool := false
  overRaised : Bool := false              -- POWER_OVER_BUDGET raised in this over-budget interval
  telP : List Nat := []                   -- the last ten package powers, newest first, mW
  peak : Nat := 0
  railMa : SMap Nat := []
  railMv : SMap Nat := []
  warn : Bool := false                    -- supply-warning interval in force (15 R423)
  warnFrom : Nat := 0                     -- datum tick at which it began
  warnTo : Nat := 0                       -- datum tick at which the last one ended
  warnCount : Nat := 0                    -- intervals begun since reset
  vcoreWarn : Bool := false
  vauxWarn : Bool := false
  vchWarn : Bool := false
  vauxFault : Bool := false               -- the fault holds (15 R424)
  vchFault : Bool := false
  firstPoint : Nat := 0
  deferred : Nat := 0
  admitA : Nat := 0
  admitC : Nat := 0
  admitted : List Admitted := []
  lastSite : Nat := 0
  lastEst : Nat := 0
  lastMeas : Nat := 0
  lastLow : Bool := false
  tempWarn : Bool := false                -- THERMAL_WARN raised and not yet re-armed (16 R449)
  tripped : Bool := false
  tj : Nat := 0                           -- highest parcel Tj as last measured, signed byte
  ref10 : Bool := false                   -- the running tick PLL took REF10_IN (16 R444)
deriving DecidableEq, Repr

/-- State of the AON domain and of what VBAT, flash and fuses hold: kept by every reset while VAON and VBAT hold
(00 R12, 10 R312, R323, 15 R430). -/
structure Aon where
  wakeSrc : Nat := 0
  wakeFrom : Nat := 0
  wakeCount : Nat := 0
  wakeEn : Nat := 7                       -- PWR_WAKE_EN, shipped 7
  lastCold : Nat := 0
  bootCount : Nat := 0                    -- boot-attempt counter (10 R312)
  loadFlag : Bool := false                -- AON load-interrupt flag (10 R312)
  loadSource : Nat := 7                   -- source of the load that the flag marks
  cutBySupply : Bool := false             -- the reset that cut it was a supply reset (10 R312)
  keyLock : Bool := false                 -- CFG_KEY_POLICY lock (10 R323)
  wakePend : Bool := false                -- a PWR_STATE_CHANGED held until an event ring is set up (15 R411)
  pwrGood : Bool := true                  -- the PWR_GOOD land
  ma : Nat := 0                           -- MA[2:0] as sampled at the last release of cold reset (15 R410, 16 R440)
  slowXtal : Bool := false                -- the slow clock runs from the crystal, not from the internal oscillator (16 R445)
  hot : Bool := false                     -- a thermal trip took the device to Off, and Tj has not been seen below 95 °C since (16 R449)
  portHeld : Bool := true                 -- the last cold reset has not been released yet
deriving DecidableEq, Repr

end Sys2Proof.Machine
end

