-- ==== Sys2Proof/Machine/State.lean ====
section
/-! DEFINITION. The state of the T1024, the state after reset, and the reasons a step can stop. -/

namespace Sys2Proof.Machine

/-- Why a command ends in a fault. -/
inductive Fault where
  /-- Raised by the meaning of a command that carries blocks, frames or words of host data whose lengths no transfer of
  that command can have (a block that is not 4,096 bytes): such a command does not exist. Safe: the machine stops. -/
  | illFormed
deriving DecidableEq, Repr

/-- Why a command is refused by the model. -/
inductive Refusal where
  /-- Raised by exec for a command that has no meaning in the model, by its mnemonic. Safe: the machine stops. -/
  | notModelled (mnemonic : String)
deriving DecidableEq, Repr

/-- The whole device. A field's value after reset is the default its structure gives it; every map is empty after reset,
so each of its entries has the value an unlisted key reads as. -/
structure State where
  /-- Commands that wait, first in, first out (the model's own field). -/
  pending : List Instr := []
  /-- Stored bits (RW and write-one-to-clear) of the BAR0 registers that no other field holds, by offset. -/
  regs : SMap Word := []
  /-- Host interface (12). -/
  hif : Hif := {}
  /-- Datum counter (13). -/
  tim : Tim := {}
  /-- General-purpose pins (14). -/
  pins : Pins := {}
  /-- Power controller and arbiter (15). -/
  pwr : Pwr := {}
  /-- The always-on domain (00 R12, 15). -/
  aon : Aon := {}
  /-- Configuration flash and system area (09, 10). -/
  flash : Flash := {}
  /-- Key fuses and key RAM (10). -/
  keys : Keys := {}
  /-- Flash controller (09). -/
  nvm : Nvm := {}
  /-- Configuration controller (10). -/
  cfg : Cfg := {}
  /-- Scrubber (11). -/
  scb : Scb := {}
  /-- Fabric (08). -/
  fab : Fab := {}
  /-- Deep vector memory (06, 07). -/
  dvm : Dvm := {}
  /-- Site membership by engine (05 R139). -/
  member : SMap (Option Nat) := []
  /-- Sites (05). -/
  sites : SMap Site := []
  /-- Sahoux links (05). -/
  links : SMap Link := []
  /-- Fail, match-fail and stop bits that the side words of the links still have to carry (05 R155, R157). -/
  bus : List SideBit := []
  /-- Benchmark (05). -/
  snp : Snp := {}
  /-- Channel engines (02, 03). -/
  eng : SMap Engine := []
  /-- Engine rings and port buffers (06, 08). -/
  vq : SMap Vq := []
  /-- Fail capture units (04). -/
  fm : SMap Fm := []
  /-- Parcels' shared queues, ports and calibration (06, 07, 08). -/
  par : SMap Par := []
  /-- Everything the device has put out, oldest first (the model's own record). -/
  out : List Out := []
deriving DecidableEq, Repr

/-- The machine right after a cold reset: nothing waits, and every field has its reset value. -/
def State.reset : State := {}

end Sys2Proof.Machine
end

