-- ==== Sys2Proof/Machine/Access.lean ====
section
/-! DEFINITION. Reading and changing one entry of each map of the state, and the named fields of stored registers. Every
other definition reaches engines, parcels, sites, links, rings and registers through these. -/

namespace Sys2Proof.Machine

/-- The answer of a command whose effect is `t`. -/
def answer (t : State) : Host.Outcome State Fault Refusal := .next t

/-- The value every unlisted engine number reads as: an engine after reset. -/
def engReset (_ : Nat) : Engine := {}
/-- As engReset, for queue state. -/
def vqReset (_ : Nat) : Vq := {}
/-- As engReset, for fail capture units. -/
def fmReset (_ : Nat) : Fm := {}
/-- As engReset, for parcels. -/
def parReset (_ : Nat) : Par := {}
/-- As engReset, for sites: not formed. -/
def siteReset (_ : Nat) : Site := {}
/-- As engReset, for links. -/
def linkReset (_ : Nat) : Link := {}
/-- As engReset, for rings. -/
def ringReset (_ : Nat) : Ring := {}
/-- As engReset, for pins. -/
def pinReset (_ : Nat) : Pin := {}
/-- No engine belongs to a site after reset (01 R16). -/
def memberReset (_ : Nat) : Option Nat := none
/-- An unlisted byte of a memory is 0. -/
def zeroByte (_ : Nat) : Byte := 0
/-- An unlisted number is 0. -/
def zeroNat (_ : Nat) : Nat := 0
/-- An unlisted flag is false. -/
def noFlag (_ : Nat) : Bool := false

def State.e (s : State) (n : Nat) : Engine := s.eng.get engReset n
def State.setE (s : State) (n : Nat) (x : Engine) : State := { s with eng := s.eng.set engReset n x }
def State.modE (s : State) (n : Nat) (f : Engine → Engine) : State := s.setE n (f (s.e n))
def State.v (s : State) (n : Nat) : Vq := s.vq.get vqReset n
def State.setV (s : State) (n : Nat) (x : Vq) : State := { s with vq := s.vq.set vqReset n x }
def State.modV (s : State) (n : Nat) (f : Vq → Vq) : State := s.setV n (f (s.v n))
def State.f (s : State) (p : Nat) : Fm := s.fm.get fmReset p
def State.setF (s : State) (p : Nat) (x : Fm) : State := { s with fm := s.fm.set fmReset p x }
def State.modF (s : State) (p : Nat) (g : Fm → Fm) : State := s.setF p (g (s.f p))
def State.p (s : State) (p : Nat) : Par := s.par.get parReset p
def State.setP (s : State) (p : Nat) (x : Par) : State := { s with par := s.par.set parReset p x }
def State.modP (s : State) (p : Nat) (g : Par → Par) : State := s.setP p (g (s.p p))
def State.site (s : State) (n : Nat) : Site := s.sites.get siteReset n
def State.setSite (s : State) (n : Nat) (x : Site) : State := { s with sites := s.sites.set siteReset n x }
def State.link (s : State) (n : Nat) : Link := s.links.get linkReset n
def State.setLink (s : State) (n : Nat) (x : Link) : State := { s with links := s.links.set linkReset n x }
def State.ring (s : State) (n : Nat) : Ring := s.hif.rings.get ringReset n
def State.setRing (s : State) (n : Nat) (x : Ring) : State :=
  { s with hif := { s.hif with rings := s.hif.rings.set ringReset n x } }
def State.pin (s : State) (n : Nat) : Pin := s.pins.pin.get pinReset n
def State.setPin (s : State) (n : Nat) (x : Pin) : State :=
  { s with pins := { s.pins with pin := s.pins.pin.set pinReset n x } }

/-- The stored bits of the register at a BAR0 offset. -/
def State.reg (s : State) (off : Nat) : Nat := (s.regs.get regReset off).toNat

/-- The stored bits of the register at a BAR0 offset replaced. -/
def State.setReg (s : State) (off v : Nat) : State :=
  { s with regs := s.regs.set regReset off (BitVec.ofNat 32 v) }

/-- The `len`-bit field at bit `lo` of the register at a BAR0 offset. -/
def State.regF (s : State) (off lo len : Nat) : Nat := fld (s.reg off) lo len

/-- The run of a site, if one is active or its start pending. -/
def State.run (s : State) (n : Nat) : Option Run := (s.site n).run

/-- The run of a site replaced. -/
def State.setRun (s : State) (n : Nat) (r : Option Run) : State := s.setSite n { s.site n with run := r }

/-- The run of a site changed by `f`; nothing where it has none. -/
def State.modRun (s : State) (n : Nat) (f : Run → Run) : State :=
  match s.run n with
  | some r => s.setRun n (some (f r))
  | none => s

/-- The site an engine belongs to (01 R16). -/
def State.siteOf (s : State) (e : Nat) : Option Nat := s.member.get memberReset e

/-- The engines of a site on the device, in number order. -/
def State.engines (s : State) (n : Nat) : List Nat :=
  s.member.filterMap (fun p => if p.2 = some n then some p.1 else none)

/-- The parcels that hold engines of a site, in number order. -/
def State.parcels (s : State) (n : Nat) : List Nat := ((s.engines n).map (· / 32)).dedup

/-- The sites that have engines in a parcel, in number order (05 R137). -/
def State.sitesOf (s : State) (p : Nat) : List Nat :=
  ((s.member.filterMap (fun q => if q.1 / 32 = p then q.2 else none)).dedup).mergeSort (· ≤ ·)

/-- A site has a run active: from the acceptance of its start until the run ends or the start is cancelled or refused
(01 R27). -/
def State.active (s : State) (n : Nat) : Bool := (s.run n).isSome

/-- An engine's site has a run active. -/
def State.engActive (s : State) (e : Nat) : Bool :=
  match s.siteOf e with
  | some n => s.active n
  | none => false

/-- A site with engines in the parcel has a run active. -/
def State.parActive (s : State) (p : Nat) : Bool := (s.sitesOf p).any (fun n => s.active n)

/-- The sites with a run active, in number order. -/
def State.activeSites (s : State) : List Nat :=
  s.sites.filterMap (fun p => if p.2.run.isSome then some p.1 else none)

/-- The parcels' tick clocks may run: in Run, but not between a wake from Sleep and CLK_SWITCH (15 R404, R412). -/
def State.parcelsClocked (s : State) : Bool := decide (s.pwr.state = .run) && !s.pwr.fromSleep

/-- The device number (05 R164). -/
def State.devNum (s : State) : Nat := s.regF 0x800000 0 4

/-- The performance level of a parcel (15 R418, R419). -/
def State.pclLevel (s : State) (p : Nat) : Nat := s.pwr.pclLevel.get (fun _ => topLevel) p

/-- A parcel's domain is on (15 R417). -/
def State.parcelOn (s : State) (p : Nat) : Bool := s.pwr.pclOn.testBit p

/-- Append to the record of outputs. -/
def State.put (s : State) (o : Out) : State := { s with out := s.out ++ [o] }

/-- Apply `f` for each number of a list, in order. -/
def State.each (s : State) (l : List Nat) (f : State → Nat → State) : State := l.foldl f s

end Sys2Proof.Machine
end

