-- ==== Sys2Proof/Machine/Time.lean ====
section
/-! DEFINITION. Datum time (13): the counter and its visible form, its advance over datum ticks, stamps, and the conversion
between datum ticks, VCO cycles and the ticks of a site. -/

namespace Sys2Proof.Machine

/-- Units of 2^-40 ns in one second. -/
def unitsPerSec : Nat := 1000000000 * 2 ^ 40

/-- The counter wraps after 2^48 seconds (13 R367). -/
def counterRange : Nat := 2 ^ 48 * unitsPerSec

/-- The 96 visible bits of a counter value: fraction, nanoseconds, seconds (13 R367). -/
def visible (v : Nat) : Nat :=
  v / 2 ^ 24 % 2 ^ 16 + v / 2 ^ 40 % 1000000000 * 2 ^ 16 + v / unitsPerSec % 2 ^ 48 * 2 ^ 48

/-- The counter value that 96 visible bits name, with the 24 lower bits 0 (13 R372). -/
def ofVisible (t : Nat) : Nat :=
  (fld t 48 48 * unitsPerSec + fld t 16 32 * 2 ^ 40 + fld t 0 16 * 2 ^ 24) % counterRange

/-- The 80 bits of a datum time that a record carries: the high 16 bits of the seconds dropped (13 R379). -/
def stamp80 (v : Nat) : Nat := visible v % 2 ^ 80

/-- A counter value plus a signed number of units, wrapped to the counter's range. -/
def advance (v : Nat) (d : Int) : Nat := (((v : Int) + d) % (counterRange : Int)).toNat

/-- The nominal increment of the tick with number n (13 R368). -/
def nominal (n : Nat) : Nat := if n % 3 = 2 then 0xAAAAAAAAAA else 0xAAAAAAAAAB

/-- The nominal increments of the first n ticks together. -/
def nominalSum (n : Nat) : Nat := n / 3 * 2 ^ 41 + n % 3 * 0xAAAAAAAAAB

/-- The 64-bit datum tick number of the k-th tick since reset (13 R368, R382). -/
def State.tickNoAt (s : State) (k : Nat) : Nat := (k + s.tim.off) % 2 ^ 64

/-- The datum tick number now. -/
def State.tickNo (s : State) : Nat := s.tickNoAt s.tim.tick

/-- The nominal increments of the ticks from a tick of a number up to tick k; for an earlier k, less what they added (13 R368). -/
def nominalFrom (no tick k : Nat) : Int := (nominalSum (no % 3 + 2 * tick + k) : Int) - nominalSum (no % 3 + 3 * tick)

/-- The nominal increments of the ticks from now up to tick k (13 R368). -/
def State.nominalTo (s : State) (k : Nat) : Int := nominalFrom s.tickNo s.tim.tick k

/-- The rate word in force as a signed number (13 R368). -/
def State.rateWord (s : State) : Int := signed 32 s.tim.rate

/-- The counter's value at datum tick n, by the increments and the rate in force then: a stretch of it that a step, a new rate or a new tick
number has ended still gives the values of its ticks (13 R368, R379). -/
def State.valueAt (s : State) (n : Nat) : Nat :=
  match s.tim.hist.find? (fun h => decide (n < h.upto)) with
  | some h => advance h.value (nominalFrom ((h.upto + h.off) % 2 ^ 64) h.upto n + signed 32 h.rate * ((n : Int) - h.upto))
  | none => advance s.tim.value (s.nominalTo n + s.rateWord * ((n : Int) - s.tim.tick))

/-- What the counter has counted so far is kept, since it is about to step, or to count otherwise (13 R379). -/
def State.keepTime (s : State) : State :=
  { s with tim := { s.tim with
      hist := s.tim.hist ++ [{ upto := s.tim.tick, value := s.tim.value, rate := s.tim.rate, off := s.tim.off }] } }

/-- The units the counter gains in three ticks. -/
def State.threeTicks (s : State) : Int := 2 ^ 41 + 3 * s.rateWord

/-- The first datum tick, from now on, whose value is at or after a counter value (13 R378, 05 R143). -/
def State.tickOf (s : State) (v : Nat) : Nat :=
  let d : Int := (v : Int) - s.tim.value
  if d ≤ 0 then s.tim.tick
  else
    let n := s.tim.tick + 3 * (d / s.threeTicks).toNat
    let reached (k : Nat) : Bool :=
      decide (d ≤ s.nominalTo k + s.rateWord * ((k : Int) - s.tim.tick))
    if reached n then n else if reached (n + 1) then n + 1 else if reached (n + 2) then n + 2 else n + 3

/-- The VCO cycle at which the present datum tick begins. -/
def State.vco (s : State) : Nat := 4 * s.tim.tick

/-- The VCO cycle of the net-0 edge that begins now or comes next: one in two ticks of the fabric, at PL3 the ones whose datum tick
number is even; none during the pause of a level change (08 R237, R240). DESIGN CHOICE (log entry 65): below PL3 an edge begins with VCO
cycle 0. -/
def State.netEdge (s : State) : Nat :=
  let per := 2 * levelDiv s.pwr.fabLevel
  let phase := if per = 8 then 4 * (s.tim.off % 2) else 0
  (ceilDiv (max s.vco (4 * s.fab.pauseTo) + per - phase) per - 1) * per + phase

/-- Signals cross the port of a parcel: ports enabled, GSR released, the domain on and clocked (08 R242, 15 R404). -/
def State.portsOpen (s : State) (p : Nat) : Bool := s.fab.ports && !s.fab.gsr && s.parcelOn p && s.parcelsClocked

/-- The datum time, in 80 bits, of the datum tick that contains VCO cycle c (13 R379). -/
def State.stampVco (s : State) (c : Nat) : Nat := stamp80 (s.valueAt (c / 4))

/-- The datum time now, in 80 bits. -/
def State.stampNow (s : State) : Nat := stamp80 s.tim.value

/-- Datum ticks of a number of microseconds (1.5 GHz). -/
def usTicks (us : Nat) : Nat := 1500 * us

/-- The first datum tick of superframe k: a superframe lasts 99/32 ticks, so it covers 3 or 4 (05 R154, R155). DESIGN CHOICE (log entry
65): superframe 0 begins with datum tick 0. -/
def frameTick (k : Nat) : Nat := 99 * k / 32

/-- The superframe in which the present datum tick lies. -/
def State.frameNow (s : State) : Nat := (32 * s.tim.tick + 31) / 99

/-- The tick PLL drives the datum counter: started, locked, and not in Sleep (13 R369). -/
def State.pllCounts (s : State) : Bool := s.tim.started && s.tim.locked && decide (s.pwr.state ≠ .sleep)

/-- One passage of time with no command: a datum tick while the tick PLL is locked, a SYSCLK cycle in Sleep and after a PLL
loss, nothing before lock and in Deep Sleep and Off (13 R368, R369). DESIGN CHOICE (log entry 2): SYSCLK cycles too in Run with the tick
PLL stopped, after a wake from Sleep until CLK_SWITCH, for which R369's table has no row. -/
def idleTick (s : State) : State :=
  let t := s.tim
  if !t.started || decide (s.pwr.state = .deepSleep) || decide (s.pwr.state = .off) then s
  else if s.pllCounts then
    { s with tim := { t with value := advance t.value (nominal s.tickNo + s.rateWord), tick := t.tick + 1 } }
  else
    { s with tim := { t with value := advance t.value (10 * 2 ^ 40 + 15 * s.rateWord),
                             tick := t.tick + 15 } }

end Sys2Proof.Machine
end

