-- ==== Sys2Proof/Machine/Events.lean ====
section
/-! DEFINITION. Event records (12 R362, R363, R455), the shared event buffer (01 R32), completions (12 R358) and MSI-X messages
(12 R352): the operations every meaning uses to report. -/

namespace Sys2Proof.Machine

/-- An event item: its width in bytes and its value (12 R455). -/
abbrev Item := Nat × Nat

/-- Engine number item (12 R455). -/
def itEng (e : Nat) : Item := (2, e)
/-- One-byte item: site, parcel, link, ring, cause, flags, temperature and the like (12 R455). -/
def it1 (v : Nat) : Item := (1, v)
/-- Two-byte item: bank, packet seq, identifiers, voltage, power in 10 mW units (12 R455). -/
def it2 (v : Nat) : Item := (2, v)
/-- Four-byte item: BAR0 offset, masks, tick counts, counts (12 R455). -/
def it4 (v : Nat) : Item := (4, v)
/-- Eight-byte item: cycle count, DVM address, image ID (12 R455). -/
def it8 (v : Nat) : Item := (8, v)
/-- Datum time item, 80 bits (12 R455). -/
def itTime (t : Nat) : Item := (10, t)

/-- Items placed in records in order: an item that does not fit in the 14 bytes of one goes whole into the next (12 R362).
`cur` holds the bytes of the record being filled. -/
def packItems : List Byte → List Item → List (List Byte)
  | cur, [] => [cur]
  | cur, (w, v) :: is =>
    if cur.length + w ≤ 14 then packItems (cur ++ leBytes w v) is
    else cur :: packItems (leBytes w v) is

/-- The event ring a code's records go to now (12 R363). -/
def State.evRing (s : State) (code : Nat) : Nat := s.regF (0x400 + 4 * (code / 256)) 0 4

/-- The records of one event: the first, then its continuations. -/
def evRecords (dev code time : Nat) : Bool → List (List Byte) → List EvRec
  | _, [] => []
  | cont, b :: bs =>
    { cont := cont, more := !bs.isEmpty, dev := dev, code := code, items := b, time := time } :: evRecords dev code time true bs

/-- The event buffer holds 4,096 records (01 R32). -/
def evBufSize : Nat := 4096

/-- A difference of two free-running 32-bit indices (12 R351). -/
def idxDiff (a b : Nat) : Nat := (a + 2 ^ 32 - b) % 2 ^ 32

/-- The number of entries of a ring (12 R347). -/
def State.ringSize (s : State) (n : Nat) : Nat := 2 ^ s.regF (ringBase n + 8) 0 5

/-- Free slots of a completion or event ring. -/
def State.ringFree (s : State) (n : Nat) : Nat := s.ringSize n - idxDiff (s.ring n).idx (s.ring n).bell

/-- The device issues requests to host memory, and messages: Bus Master Enable is 1 and the function is in D0 (12 R345; PRESUMED, log entry
76, for D3hot). -/
def State.requests (s : State) : Bool := s.hif.busMaster && !s.hif.pci.d3

/-- Event records can be written now: to host memory, in Run, or in Idle, which a record to deliver ends (12 R345, 15 R409). -/
def State.recordsGo (s : State) : Bool := s.requests && (decide (s.pwr.state = .run) || decide (s.pwr.state = .idle))

/-- Records of a list that their rings cannot take now, all rings together: those are what the event buffer holds (01 R32, 12 R345, R363). -/
def State.heldRecs (s : State) (l : List EvRec) : Nat :=
  ((List.range 16).map fun k =>
    (l.filter (fun r => s.evRing r.code == k)).length -
      (if (s.ring (128 + k)).en && s.recordsGo then s.ringFree (128 + k) else 0)).sum

/-- Records find a place behind those that wait: their ring has room for them, or the event buffer has (01 R32). -/
def State.evFits (s : State) (recs : List EvRec) : Bool :=
  let held := s.heldRecs (s.hif.evBuf ++ recs)
  decide (held ≤ evBufSize) || decide (held = s.heldRecs s.hif.evBuf)

/-- When records were dropped and there is space again, one EVENT_LOST record enters the buffer, ahead of any later record of its ring (01
R32). -/
def State.reportLost (s : State) : State :=
  let recs := evRecords s.devNum 0x0104 s.stampNow false
    (packItems [] [it4 s.hif.lost, itTime s.hif.lostTime])
  if s.hif.lost ≠ 0 ∧ (s.hif.evBuf.length < evBufSize ∨ s.evFits recs = true) then
    { s with hif := { s.hif with lost := 0, evBuf := s.hif.evBuf ++ recs } }
  else s

/-- Records are dropped and counted, with the time of the first (01 R32). -/
def State.dropRecs (s : State) (n time : Nat) : State :=
  { s with hif := { s.hif with lost := satAdd 32 s.hif.lost n, lostTime := if s.hif.lost = 0 then time else s.hif.lostTime } }

/-- An event with the datum time of its occurrence: its records enter the event buffer together, or are dropped and counted
where they do not fit, or would come ahead of an EVENT_LOST that is due on their ring (01 R32). -/
def State.raiseAt (s : State) (code : Nat) (items : List Item) (time : Nat) : State :=
  let recs := evRecords s.devNum code time false (packItems [] items)
  if s.hif.evBuf.length + recs.length ≤ evBufSize then
    { s with hif := { s.hif with evBuf := s.hif.evBuf ++ recs } }
  else
    let t := s.reportLost
    if t.evFits recs && (decide (t.hif.lost = 0) || decide (s.evRing code ≠ s.evRing 0x0104)) then
      { t with hif := { t.hif with evBuf := t.hif.evBuf ++ recs } }
    else (t.dropRecs recs.length time).reportLost

/-- An event that occurs now. -/
def State.raise (s : State) (code : Nat) (items : List Item) : State := s.raiseAt code items s.stampNow

/-- ACCESS_ERROR (12, host interface events): BAR0 offset and cause. -/
def State.accessError (s : State) (off cause : Nat) : State := s.raise 0x0101 [it4 off, it1 cause]

/-- An error on the link, with its AER status words, uncorrectable and correctable: AER records it, counts a correctable one, and signals it
under the masks and severities; one with an uncorrectable part also raises PCIE_ERROR (12 R366). -/
def State.pcieError (s : State) (u c : Word) : State :=
  let p := s.hif.pci
  let s := { s with hif := { s.hif with pci := { p with
    uncStatus := p.uncStatus ||| u.toNat, corStatus := p.corStatus ||| c.toNat,
    corErrs := if c = 0 then p.corErrs else satAdd 32 p.corErrs 1 } } }
  let open_ := u.toNat - (u.toNat &&& p.uncMask)
  let s := if c.toNat - (c.toNat &&& p.corMask) = 0 then s else s.put (.aer 0)
  let s := if open_ = 0 then s else s.put (.aer (if open_ &&& p.uncSev = 0 then 1 else 2))
  if u = 0 then s else s.raise 0x0105 [it4 u.toNat, it4 c.toNat]

/-- The 28 bytes of an event record before its check value (12 R362). -/
def EvRec.head (r : EvRec) : List Byte :=
  leBytes 1 (if r.cont then 0x11 else 0x10) ++ leBytes 1 (r.dev + if r.more then 128 else 0) ++ leBytes 2 r.code ++
    sliceAt r.items 0 14 ++ leBytes 10 r.time

/-- A 32-byte record with its CRC-32C over the first 28 bytes. -/
def sealRecord (h : List Byte) : List Byte := h ++ leBytes 4 (crc32c h).toNat

/-- The 32 bytes of an event record. -/
def EvRec.bytes (r : EvRec) : List Byte := sealRecord r.head

/-- The vector of a completion or event ring: HIF_RINGn_CFG.vector (12 R347). -/
def State.ringVector (s : State) (n : Nat) : Nat := s.regF (ringBase n + 8) 24 7

/-- Sending a message restarts the count and the timer of every ring that shares the vector (12 R352). -/
def State.ringsSent (s : State) (v : Nat) : State :=
  s.each ((List.range 80).map (· + 64)) fun s n =>
    if s.ringVector n = v then s.setRing n { s.ring n with since := 0, timer := none } else s

/-- The message of a vector may be sent: MSI-X is enabled, neither the function nor the vector is masked, and the device may issue it
(12 R345, R352). -/
def State.vectorOpen (s : State) (v : Nat) : Bool :=
  s.requests && s.hif.pci.msix && !s.hif.pci.fmask && !(s.reg (0xA000 + 16 * v + 12)).testBit 0

/-- The MSI-X message of a vector: sent, or held in its pending bit while it may not be (12 R345, R352). -/
def State.sendVector (s : State) (v : Nat) : State :=
  let s := s.ringsSent v
  if s.vectorOpen v then s.put (.msix v)
  else { s with hif := { s.hif with msixPend := s.hif.msixPend.set noFlag v true } }

/-- Messages that were held are sent once they may be (12 R352). -/
def State.sendPending (s : State) : State :=
  s.each (s.hif.msixPend.map (·.1)) fun s v =>
    if s.vectorOpen v then { s with hif := { s.hif with msixPend := s.hif.msixPend.set noFlag v false } }.put (.msix v) else s

/-- The host address of a ring's base (12 R347). -/
def State.ringAddr (s : State) (n : Nat) : Nat := s.reg (ringBase n) + 2 ^ 32 * s.reg (ringBase n + 4)

/-- The write-back of a ring's device index, where its address is not 0 (12 R348). -/
def State.writeBack (s : State) (n : Nat) : State :=
  let a := s.reg (ringBase n + 16) + 2 ^ 32 * s.reg (ringBase n + 20)
  if a = 0 then s else s.put (.host a (leBytes 8 (s.ring n).idx))

/-- A completion or event ring has a free slot (12 R350). -/
def State.ringSpace (s : State) (n : Nat) : Bool :=
  decide (((s.ring n).idx + 2 ^ 32 - (s.ring n).bell) % 2 ^ 32 < s.ringSize n)

/-- Entries written to a completion or event ring at its tail, in order, then the write-back, then a message if one is due by
count or at once (12 R348, R352). -/
def State.ringWrite (s : State) (n : Nat) (entries : List (List Byte)) (now : Bool) : State :=
  let s := entries.foldl (fun s (b : List Byte) =>
    let r := s.ring n
    (s.put (.host (s.ringAddr n + 32 * (r.idx % s.ringSize n)) b)).setRing n
      { r with idx := (r.idx + 1) % 2 ^ 32, since := r.since + 1, timer := some (r.timer.getD s.tim.value) }) s
  let s := s.writeBack n
  if now || decide (max 1 (s.regF (ringBase n + 12) 0 16) ≤ (s.ring n).since) then s.sendVector (s.ringVector n) else s

/-- The completion ring of a command ring: 64 + cpl (12 R347). -/
def State.cplRing (s : State) (r : Nat) : Nat := 64 + s.regF (ringBase r + 8) 8 6

/-- The result of a descriptor: what its completion carries beside the descriptor's own identity (12 R358). -/
structure Done where
  status : Nat := 0
  cause : Nat := 0
  hop : Nat := 0
  flags : Nat := 0
  block : Nat := 0xFFFFFFFF
  result : List Byte := []
deriving DecidableEq, Repr

/-- The identity of a descriptor that a row names, with its opcode. -/
def descId (d : DescRef) (op : Nat) : DescId :=
  { ring := d.ring.toNat, index := d.index.toNat, tag := d.tag.toNat, irq := d.irq, op := op }

/-- A descriptor whose completion has been written, or dropped, leaves execution, and dependants and fences see its status (12 R354,
R355). -/
def State.left (s : State) (c : Cpl) : State :=
  { s with hif := { s.hif with
      inExec := s.hif.inExec.filter (fun x => !(x.ring == c.ring && x.index == c.index && x.serial == c.serial)),
      known := s.hif.known.map (fun k => if k.serial = c.serial then { k with status := some c.status } else k) } }

/-- A completion due to a completion ring that is not enabled is dropped, counted and reported (12 R349). -/
def State.dropCpl (s : State) (c : Cpl) : State :=
  let s := { s with hif := { s.hif with dropped := satAdd 16 s.hif.dropped 1 } }
  (s.left c).raise 0x0106 [it1 c.ring, it2 c.tag]

/-- A descriptor completes: its completion falls due, and waits for room on its completion ring (12 R358). -/
def State.finish (s : State) (i : DescId) (d : Done) : State :=
  let c : Cpl := { op := i.op, ring := i.ring, tag := i.tag, status := d.status, cause := d.cause, hop := d.hop,
                   flags := d.flags, block := d.block, index := i.index, result := d.result, irq := i.irq, serial := i.serial }
  if (s.ring (s.cplRing i.ring)).en then { s with hif := { s.hif with cpls := s.hif.cpls ++ [c] } }
  else s.dropCpl c

/-- The 32 bytes of a completion; under generation 1 the last four are 0 (12 R358). -/
def Cpl.bytes (gen : Nat) (c : Cpl) : List Byte :=
  let h := leBytes 1 c.op ++ leBytes 1 c.ring ++ leBytes 2 c.tag ++ leBytes 1 c.status ++ leBytes 1 c.cause ++
    leBytes 1 c.hop ++ leBytes 1 c.flags ++ leBytes 4 c.block ++ leBytes 4 c.index ++ sliceAt c.result 0 12
  if gen = 1 then h ++ leBytes 4 0 else sealRecord h

/-- The interface generation selected: the highest in both host and supported (12 R346). -/
def State.gen (s : State) : Nat :=
  let h := s.regF 0x100014 8 4
  if h.testBit 3 then 3 else if h.testBit 2 then 2 else if h.testBit 1 then 1 else 0

end Sys2Proof.Machine
end

