-- ==== Sys2Proof/Machine/Stop.lean ====
section
/-! DEFINITION. What the commands of a running site share: the site's clock, messages on its route (05 R158), stop requests
(05 R145, R146, 04 R115), stall requests (05 R148) and the channel states of 02 R61 to R64. -/

namespace Sys2Proof.Machine

/-- The 24 bytes of a message (05, Message layout). -/
def messageBytes (ty site dev seq arg target : Nat) : List Byte :=
  let h := leBytes 1 ty ++ leBytes 1 site ++ leBytes 1 dev ++ leBytes 1 seq ++ leBytes 2 arg ++ leBytes 2 0 ++
    leBytes 12 target
  h ++ leBytes 4 (crc32c h).toNat

/-- Messages kept for RESEND: the sequence number has 8 bits, so at most 256 are named (05 R158). -/
def sentKept : Nat := 256

/-- The bytes of a message go out, one in a superframe, with a word without one behind them (05 R158). -/
def State.sayMessage (s : State) (link : Nat) (b : List Byte) : State :=
  (s.put (.message link b)).setLink link { s.link link with txq := (s.link link).txq ++ b.map some ++ [none] }

/-- A message of a device sent on a link that is up, with the link's next sequence number (05 R158). -/
def State.sendFrom (s : State) (link ty site dev arg target : Nat) : State :=
  let l := s.link link
  if l.state ≠ 5 then s
  else
    let b := messageBytes ty site dev l.txSeq arg target
    (s.setLink link { l with txSeq := (l.txSeq + 1) % 256, sent := ((l.txSeq, b) :: l.sent).take sentKept }).sayMessage link b

/-- A message of this device, under the number that the link's last training put into effect (05 R164). -/
def State.sendOn (s : State) (link ty site arg target : Nat) : State := s.sendFrom link ty site (s.link link).devNum arg target

/-- A message sent on every link of a site's route at this device, except the one it came by (05 R142, R166). -/
def State.sendRoute (s : State) (site : Nat) (but : Option Nat) (ty arg target : Nat) : State :=
  match s.run site with
  | none => s
  | some r => s.each (r.routes.filter (fun l => decide (some l ≠ but))) fun s l => s.sendOn l ty site arg target

/-- A message sent toward the leader of a site's run (05 R142, R145). -/
def State.sendUp (s : State) (site ty arg target : Nat) : State :=
  match s.run site with
  | some r => (match r.up with | some l => s.sendOn l ty site arg target | none => s)
  | none => s

/-- A VCO cycle rounded up to a tick of a site. -/
def tickUp (div c : Nat) : Nat := ceilDiv c div * div

/-- The tick of a run, counted from its start tick, that contains a VCO cycle. -/
def Run.tickAt (r : Run) (c : Nat) : Nat := (c - r.start) / r.div

/-- The VCO cycle at which a tick of a run begins. -/
def Run.vcoAt (r : Run) (k : Nat) : Nat := r.start + k * r.div

/-- The VCO cycle at which a tick of a run begins; a strobe moved by its deskew may lie before the start tick (07 R203). -/
def Run.vcoOf (r : Run) (k : Int) : Nat := ((r.start : Int) + k * r.div).toNat

/-- The tick of a run, fine steps of its engines, at the present datum tick. -/
def State.runFine (s : State) (r : Run) : Int := ((s.vco : Int) - r.start) * 256 / r.div

/-- The present tick of a run as a VCO cycle: the first tick of the site that begins now or later. -/
def State.siteTick (s : State) (r : Run) : Nat := tickUp r.div s.vco

/-- Link-site slot j of link l: its site, if the slot is in use (05 R168). -/
def State.slotSite (s : State) (l j : Nat) : Option Nat :=
  let v := s.regF (linkBase l + 0x10) (8 * j) 8
  if v.testBit 7 then some (v % 64) else none

/-- A site holds a slot on a link (05 R166). -/
def State.holdsSlot (s : State) (l n : Nat) : Bool := [0, 1, 2].any (fun j => s.slotSite l j == some n)

/-- The links of a site's route at this device (05 R166). -/
def State.routeLinks (s : State) (n : Nat) : List Nat := [0, 1, 2, 3].filter (fun l => s.holdsSlot l n)

/-- A state of the site fail bus goes into the side words of the site's links, except the one it came by; `c` is the VCO cycle at
which the bus holds it (05 R157, R167). -/
def State.stamp (s : State) (n kind c by_ : Nat) : State :=
  if ((s.routeLinks n).filter (fun l => decide (l ≠ by_))).isEmpty then s
  else { s with bus := s.bus ++ [{ site := n, tick := ceilDiv c 4, kind := kind, by_ := by_ }] }

/-- A stop takes effect in every engine of the site six ticks after its tick 0 (04 R115, 05 R146). -/
def Run.stopAt (r : Run) : Option Nat := r.stop.map (fun p => p.2 + 6 * r.div)

/-- A sequence error stops the other engines from six ticks after its tick 0 on (03 R100). -/
def Run.errAt (r : Run) : Option Nat := r.err.map (· + 6 * r.div)

/-- The request that a run ends for, with its reason and tick 0: the earliest; a sequence error where both share tick 0 (04 R116). -/
def Run.request (r : Run) : Option (Nat × Nat) :=
  match r.stop, r.err with
  | some p, some t => if t ≤ p.2 then some (4, t) else some p
  | some p, none => some p
  | none, some t => some (4, t)
  | none, none => none

/-- The run goes on as far as this device knows: its engines here run, or have all halted while those of other devices may run, and no stop
has taken effect since (05 R145, R146). -/
def Run.going (r : Run) : Bool :=
  decide (r.phase = .running) || (decide (r.phase = .draining) && decide (r.reason = 1) && !r.cut)

/-- A run in which a stop can take effect: its start has committed, and it goes on. -/
def Run.stoppable (r : Run) : Bool := decide (r.phase = .committed) || r.going

/-- A stop request of a run, beside those it has; a sequence error is kept apart from the others, which take effect at a tick and
not at a boundary. One that comes first in place of a trigger leaves that one only its flag (03 R100, 04 R115, R116). -/
def Run.addStop (reason tick0 : Nat) (r : Run) : Run :=
  if reason = 4 then { r with err := some (match r.err with | some t => min t tick0 | none => tick0) }
  else match r.stop with
    | some o => if tick0 < o.2 then { r with stop := some (reason, tick0), trigger := none } else r
    | none => { r with stop := some (reason, tick0) }

/-- A stop request of this device, with its reason and its tick 0 as a VCO cycle; four ticks later it is on the site fail bus and in
the side words (04 R115, 05 R145, R146). -/
def State.requestStop (s : State) (n reason tick0 : Nat) : State :=
  match s.run n with
  | some r =>
    if r.stoppable then (s.setRun n (some (r.addStop reason tick0))).stamp n 2 (tick0 + 4 * r.div) 4 else s
  | none => s

/-- A stop request that a control of this device makes now, as an abort does (05 R146). -/
def State.abortNow (s : State) (n reason : Nat) : State :=
  match s.run n with
  | some r => s.requestStop n reason (s.siteTick r)
  | none => s

/-- Every site with a run active is asked to stop as by an abort. -/
def State.abortAll (s : State) (reason : Nat) : State := s.each s.activeSites fun s n => s.abortNow n reason

/-- A stall request of an engine of this device: it starts a stall, joins the one in force, or starts the next one after a
resume that is already scheduled (05 R148). STALL goes out with the device's first request in a stall, so that the leader waits for its
CLEAR (05 R149). -/
def State.requestStall (s : State) (n reason eng : Nat) : State :=
  match s.run n with
  | none => s
  | some r =>
    if r.phase ≠ .running then s
    else
      let f := s.siteTick r + 8 * r.div + 4 * r.lead
      let new : Stall := { freeze := f, reason := reason, eng := eng, dev := s.devNum, waiting := [(eng, reason)] }
      match r.stall with
      | none =>
        (s.setRun n (some { r with stall := some new })).sendRoute n none 6 reason (visible (s.valueAt (f / 4)))
      | some st =>
        match st.resume with
        | none =>
          if st.waiting.contains (eng, reason) then s
          else
            let t := s.setRun n (some { r with stall := some { st with waiting := st.waiting ++ [(eng, reason)] } })
            if st.waiting.isEmpty then t.sendRoute n none 6 reason (visible (s.valueAt (f / 4))) else t
        | some rs =>
          let new := { new with freeze := max f rs }
          (match r.stallNext with
           | none =>
             (s.setRun n (some { r with stallNext := some new })).sendRoute n none 6 reason
               (visible (s.valueAt (new.freeze / 4)))
           | some st2 =>
             if st2.waiting.contains (eng, reason) then s
             else s.setRun n (some { r with stallNext := some { st2 with waiting := st2.waiting ++ [(eng, reason)] } }))

/-- Stall ticks of an engine before a VCO cycle, those of a stall in force included (05 R149, R153, R169). -/
def State.stallBy (s : State) (r : Run) (e v : Nat) : Nat :=
  match r.stall with
  | some st => if st.freeze ≤ v then satAdd 32 (s.e e).stall ((v - st.freeze) / r.div) else (s.e e).stall
  | none => (s.e e).stall

/-- The PCL_ENG_TCTL fields of an engine (02 R66). -/
def State.stallState (s : State) (e : Nat) : Nat :=
  let v := s.regF (engBase e + 0x300) 0 2
  if v = 3 then 1 else v
def State.startTs (s : State) (e : Nat) : Nat := s.regF (engBase e + 0x300) 8 6
def State.haltSafe (s : State) (e : Nat) : Bool := (s.reg (engBase e + 0x300)).testBit 16

/-- A signed deskew value of an engine, in fine steps, by the entry of its parcel's level; 0 for a parcel that runs with an invalid
entry (07 R202, R208, R217). -/
def State.deskew (s : State) (e j : Nat) : Int :=
  if (s.p (e / 32)).uncal then 0
  else signed 11 (s.reg (parBase (e / 32) + 0x23000 + 0x400 * s.pclLevel (e / 32) + 0x20 * (e % 32) + 4 * j))

/-- A transition as it appears at the land: moved by the drift offset applied and by its type's deskew, DRV rising 0, DRV falling 1,
DEN rising 2, DEN falling 3 (07 R202, R203). -/
def State.atLand (s : State) (e : Nat) (shift : Int) (g : Edge) : Edge :=
  { g with at_ := g.at_ + shift + s.deskew e ((if g.den then 2 else 0) + (if g.level then 0 else 1)) }

/-- The transitions of the stall state from its tick 0, the time `t` of the run: drive-off lets DEN fall at tick 0; drive-low
sets DRV to 0 at tick 0 and lets DEN rise at tick +2 (02 R62). -/
def Engine.stallEdges (st : Nat) (t : Int) (x : Engine) : List Edge :=
  if st = 1 then (if x.den then [{ at_ := t, den := true, level := false }] else [])
  else if st = 2 then
    (if x.drv then [{ at_ := t, den := false, level := false }] else []) ++
      (if x.den then [] else [{ at_ := t + 512, den := true, level := true }])
  else []

/-- The channel of engine e enters its stall state at a time of the run: hold, drive-off or drive-low (02 R62); the transitions lie
at the land as R203 of chapter 7 moves them. -/
def State.toStall (s : State) (e : Nat) (t : Int) (x : Engine) : Engine :=
  let st := s.stallState e
  { x with stallCh := true, safe := false, haltHold := false, edges := x.edges ++ (x.stallEdges st t).map (s.atLand e x.shift),
           den := if st = 1 then false else if st = 2 then true else x.den,
           drv := if st = 2 then false else x.drv }

/-- The channel is in the safe state: DEN 0 and DRV 0 (02 R61). -/
def Engine.toSafe (x : Engine) : Engine :=
  { x with safe := true, stallCh := false, haltHold := false, den := false, drv := false, edges := [] }

/-- The fine step of a run's time that begins at a VCO cycle; before its start tick it is negative. -/
def Run.fineAt (r : Run) (c : Nat) : Int := ((c : Int) - r.start) * 256 / r.div

/-- The level of an output at a time of the run: the level before the first transition that is not earlier, or the level that
the period leaves. -/
def Engine.levelAt (x : Engine) (den : Bool) (at_ : Int) : Bool :=
  match x.edges.find? (fun g => g.den == den && decide (at_ ≤ g.at_)) with
  | some g => !g.level
  | none => if den then x.den else x.drv

/-- The channel of engine e enters the safe state from a run, at a time of it in fine steps: every transition from then on is
cancelled, DEN falls one tick later and DRV three ticks later (02 R64, 07 R203). -/
def State.toSafeAt (s : State) (e : Nat) (t : Int) (x : Engine) : Engine :=
  { x.toSafe with
    edges := x.edges.filter (fun g => decide (g.at_ < t)) ++
      (((if x.levelAt true t then [{ at_ := t + 256, den := true, level := false }] else []) ++
        (if x.levelAt false t then [{ at_ := t + 768, den := false, level := false }] else []) : List Edge)).map (s.atLand e x.shift) }

/-- A run reset's effect on an engine: sequencer state and run counters back to their reset values, the channel safe, with the
transitions of a stop that are still to come; counters C0 to C7, static registers and local memory stay (05 R147, 02 R64). DESIGN
CHOICE (log entry 63): PCL_SEQ_STAT.state returns to 0 with the rest of the sequencer state. -/
def Engine.runReset (x : Engine) : Engine :=
  { ({} : Engine) with mem := x.mem, ecc := x.ecc, shift := x.shift, curTs := x.curTs, dbl := x.dbl, badTs := x.badTs,
                       badValid := x.badValid, badCheck := x.badCheck, edges := if x.safe then x.edges else [], late := x.late }

/-- A condition that requires the safe state holds for a channel; it overrides every other (02 R61). -/
def State.channelSafe (s : State) (e : Nat) : Bool := !s.cfg.live || (s.siteOf e).isNone || (s.e e).safe

/-- The level of an output while no run places transitions: before those of an earlier run that still lie ahead, or the level that they
leave. -/
def State.lateLevel (s : State) (x : Engine) (den : Bool) : Bool :=
  match x.late.find? (fun g => g.den == den && decide ((256 * s.vco : Int) < g.at_)) with
  | some g => !g.level
  | none => if den then x.den else x.drv

/-- The engines of a run that is over on the device keep the transitions that still lie ahead (02 R64). -/
def State.keepEdges (s : State) (n : Nat) (r : Run) : State :=
  s.each (s.engines n) fun s e => s.modE e fun x =>
    { x with edges := [], late := x.edges.map fun g => { g with at_ := 256 * (r.start : Int) + g.at_ * r.div } }

/-- The levels that an engine commands now, DEN and DRV: those of its present transitions while its site's run has begun, otherwise those
of an earlier run (02 R34, R61, R64). -/
def State.commanded (s : State) (e : Nat) : Bool × Bool :=
  let x := s.e e
  match (s.siteOf e).bind s.run with
  | some r =>
    if r.phase = .running ∨ r.phase = .draining then (x.levelAt true (s.runFine r + 1), x.levelAt false (s.runFine r + 1))
    else (s.lateLevel x true, s.lateLevel x false)
  | none => (s.lateLevel x true, s.lateLevel x false)

/-- DEN and DRV of channel i of a parcel k ticks into a measurement, for a stimulated channel, which holds the level before the launch in
between, and for an aggressor; `dsk` is the deskew of the transition launched, `back` the ticks after which it is withdrawn (07
R205). DESIGN CHOICE (log entry 67): own channels take their slots in turn from the lowest number; aggressors start with DRV at 0. -/
def Meas.levels (x : Meas) (i k : Nat) (dsk : Int) (back : Nat → Nat) : Option (Bool × Bool) :=
  let ref := decide (4 ≤ x.kind)
  if x.aggrMask.testBit i then some (false, decide (k / x.aggr % 2 = 1))
  else if (if ref then decide (i ≠ x.launch) else !x.mask.testBit i) then none
  else
    let y : Int := 256 * k - dsk
    let slot := (y / (256 * x.spacing)).toNat
    let turn := ref || decide (slot % (maskBits 32 x.mask).length = (maskBits i x.mask).length)
    let on := decide (0 ≤ y) && turn && decide (slot < x.slots) &&
      decide (y % (256 * x.spacing) < 256 * (64 + back slot % (x.spacing - 64)))
    let v := if x.kind % 2 = 0 then on else !on
    some (if x.kind = 2 ∨ x.kind = 3 then (v, true) else (true, v))

/-- DEN and DRV that a measurement in progress gives a channel of its parcel, with the drift offset held at 0 (07 R205). DEDUCED (log
entry 67): this holds for an engine in no site too, since the measurement is refused only where channels are not live. -/
def State.calLevels (s : State) (e : Nat) : Option (Bool × Bool) :=
  match (s.p (e / 32)).meas with
  | none => none
  | some x =>
    if !s.tim.locked || s.parActive (e / 32) || decide (s.vco < x.from_) then none
    else
      x.levels (e % 32) ((s.vco - x.from_) / levelDiv (s.pclLevel (e / 32))) (s.deskew e (if x.kind < 4 then x.kind else x.kind - 4)) (Config.calReturn e)

/-- The levels a channel presents at its lands, DEN and DRV: those its engine commands, or a measurement; 0 and 0 while channels are not
live, the engine is in no site, or its domain or its clock is off (02 R61, 01 R24, 07 R205, 15 R404, R412). -/
def State.landLevels (s : State) (e : Nat) : Bool × Bool :=
  if s.cfg.live && s.parcelOn (e / 32) && s.parcelsClocked then
    (s.calLevels e).getD (if (s.siteOf e).isSome then s.commanded e else (false, false))
  else (false, false)

/-- The channel lands as the board sees them: none in Deep Sleep and Off, where they are unpowered and high-impedance and nothing
holds DEN low (01 R25, 15 R404). -/
def State.chanLands (s : State) (e : Nat) : Option (Bool × Bool) :=
  if s.pwr.state = .deepSleep ∨ s.pwr.state = .off then none else some (s.landLevels e)

/-- A site spans devices: its device set has more than one member (05 R142). -/
def State.spans (s : State) (n : Nat) : Bool := decide (1 < (maskBits 16 (s.site n).devset).length)

end Sys2Proof.Machine
end

