-- ==== Sys2Proof/Machine/Arbiter.lean ====
section
/-! DEFINITION. The budget arbiter's sums (15 R426 to R428): package power, grants and their charges, admission of a run. Powers
are in mW. -/

namespace Sys2Proof.Machine

/-- P: the package power averaged over the last ten updates (15 R426). -/
def State.powerP (s : State) : Nat := s.pwr.telP.sum / max 1 s.pwr.telP.length

/-- The declared budget in W: PWR_BUDGET, clamped to 40 to 190 (15 R430). -/
def State.budgetW (s : State) : Nat := min 190 (max 40 (s.regF 0x200020 0 8))

/-- nvm_max: the highest pump grant (15 R430). -/
def State.nvmMax (s : State) : Nat := min 260 (max 1 (s.regF 0x200024 16 9))

/-- Banks with a program or erase running (09 R267). -/
def State.activeBanks (s : State) : Nat :=
  (s.nvm.queue.filter (fun q => q.2.any (fun o => o.started && !o.suspended))).length

/-- The refresh margin in force, in steps of 12.5 % (06 R201). -/
def State.marginSteps (s : State) : Nat :=
  let m := s.regF 0x900004 0 2
  if s.pwr.grantRefresh then (if m = 3 then 4 else m) else 0

/-- G: the charge of the grants in use (15 R427). -/
def State.chargeG (s : State) : Nat :=
  150 * s.activeBanks + (if s.scb.trav.isSome && s.pwr.grantScrub then 800 else 0) + 200 * s.marginSteps

/-- C: the estimates of runs admitted whose start commit lies in the future or less than 100 µs in the past (15 R428). -/
def State.sumC (s : State) : Nat :=
  ((s.pwr.admitted.filter (fun a => decide (s.tim.tick < a.commit + usTicks 100))).map (fun a => a.est)).sum

/-- N: the fabric regions gated at the evaluation (15 R428, 08 R239). -/
def State.gatedN (s : State) : Nat := (maskBits 16 (s.fab.idle &&& s.reg 0x308008)).length

/-- A of an evaluation with estimate e (15 R428). -/
def State.admitSum (s : State) (e : Nat) : Nat :=
  s.powerP + s.sumC + s.gatedN * (s.regF 0x200024 8 8 * 100) + e - s.chargeG

/-- E on this device for a site (15 R428). -/
def State.estimate (s : State) (n est : Nat) (leader : Bool) : Nat :=
  let here := (s.engines n).length
  if est = 0 ∨ leader = false then s.regF 0x200024 25 7 * here
  else
    let all := (s.site n).counts.sum
    est * here / max 1 all

/-- A run's admission is evaluated: admitted when A ≤ B (15 R428). -/
def State.evaluate (s : State) (n e : Nat) : Bool × State :=
  let a := s.admitSum e
  let s := { s with pwr := { s.pwr with admitA := a, admitC := s.sumC } }
  if a ≤ s.pwr.budget * 1000 then
    let others := s.pwr.admitted.filter (fun x => x.site ≠ n)
    (true, { s with pwr := { s.pwr with admitted := others ++ [{ site := n, est := e, commit := 2 ^ 64 }] } })
  else (false, s)

/-- A deferred start's admission is evaluated, the first time with RUN_DEFERRED (15 R428). -/
def State.admitRun (s : State) (n : Nat) (first : Bool) : State :=
  match s.run n with
  | none => s
  | some r =>
    match s.evaluate n r.est with
    | (true, t) => t.setRun n (some { r with phase := .preroll, pAdmit := s.powerP, pMax := s.powerP })
    | (false, t) =>
      if first then
        let t := { t with pwr := { t.pwr with deferred := satAdd 16 t.pwr.deferred 1 } }
        (t.setRun n (some { r with phase := .deferred })).raise 0x0204
          [it1 n, it2 (t.pwr.admitA / 10), it2 (t.pwr.budget * 100)]
      else t

end Sys2Proof.Machine
end

