-- ==== Sys2Proof/Machine/Dvm.lean ====
section
/-! DEFINITION. Contents of the deep vector memory (06 R173 to R179): blocks with their check values, partitions, and what a reading of
its lines reports. -/

namespace Sys2Proof.Machine

/-- The check value of a block as initialized: the complement of the CRC-32C of a zero block (06 R179). -/
def initCheck : Nat := 0x6706BE76

/-- What an unlisted block's check value reads as. -/
def checkReset (_ : Nat) : Nat := initCheck

/-- The 4,096 bytes of a block of the deep vector memory. -/
def Dvm.block (d : Dvm) (b : Nat) : List Byte := d.bytes.getList zeroByte (4096 * b) 4096

/-- A block of bytes stored with its check value as one unit (06 R178). -/
def Dvm.store (d : Dvm) (b : Nat) (data : List Byte) (check : Nat) : Dvm :=
  { d with bytes := d.bytes.setList zeroByte (4096 * b) data, check := d.check.set checkReset b check }

/-- A block passes its check at a reading hop (06 R178). -/
def Dvm.blockOk (d : Dvm) (b : Nat) : Bool := (crc32c (d.block b)).toNat == d.check.get checkReset b

/-- The 64-bit word at a word address. -/
def Dvm.word (d : Dvm) (w : Nat) : Nat := leNat (d.bytes.getList zeroByte (8 * w) 8)

/-- A partition in force: base and size in bytes (06 R173). -/
def Dvm.part (d : Dvm) (n : Nat) : Nat × Nat :=
  let p := d.parts.get (fun _ => (0, 0)) n
  (p.1 * 2 ^ 24, p.2 * 2 ^ 24)

/-- A byte range lies wholly within a partition (06 R175). -/
def Dvm.within (d : Dvm) (n addr len : Nat) : Bool :=
  let p := d.part n
  decide (p.1 ≤ addr) && decide (addr + len ≤ p.1 + p.2) && decide (p.2 ≠ 0)

/-- The memory takes reads and writes: trained, initialized, not in self-refresh or training, every pseudo-channel re-centred since
(06 R179, R180, 07 R220, R221). -/
def Dvm.ready (d : Dvm) : Bool :=
  d.initDone && d.trained && !d.selfRefresh && decide (d.toCentre = 0) && !d.retraining && !d.trainOff

/-- The outcome of reading lines: corrections counted, every uncorrectable line counted and reported (06 R177). -/
def State.dvmEcc (s : State) (x : Ecc) : State :=
  x.bad.foldl (fun s a => { s with dvm := { s.dvm with eccUnc := satAdd 16 s.dvm.eccUnc 1 } }.raise 0x0902 [it8 (a.toNat / 64 * 64)])
    { s with dvm := { s.dvm with eccCorr := satAdd 32 s.dvm.eccCorr x.corr.toNat,
                                 windowCorr := s.dvm.windowCorr + x.corr.toNat } }

/-- A block holds an uncorrectable line (06 R177). -/
def lineIn (x : Ecc) (b : Nat) : Bool := x.bad.any (fun a => decide (a.toNat / 4096 = b))

/-- A block fails at a reading hop: its check value, or an uncorrectable line (06 R177, R178). -/
def Dvm.blockFails (d : Dvm) (x : Ecc) (b : Nat) : Bool := !d.blockOk b || lineIn x b

end Sys2Proof.Machine
end

