-- ==== Sys2Proof/Machine/Desc.lean ====
section
/-! DEFINITION. Descriptors: the identity of a descriptor row, the checks of its 64 bytes at the fetch (12 R353, R354, R358),
and the gate through which every descriptor row starts (12 R354, R355, 10 R319, 15 R415). -/

namespace Sys2Proof.Machine

/-- Opcodes that carry a data reference in bytes 16 to 39, and whether at least one block is required (12 R356). -/
def opData (op : Nat) (cmd : Nat) : Option Bool :=
  if op ∈ [0x01, 0x02, 0x04, 0x10, 0x11, 0x12, 0x19, 0x1A, 0x1C, 0x1D, 0x23, 0x25, 0x28] then some true
  else if op = 0x20 then some false
  else if op = 0x30 ∧ cmd ∈ [1, 2, 5, 8] then some true
  else none

/-- Opcodes of the descriptor table (12 R356). -/
def opKnown (op : Nat) : Bool :=
  decide (op ∈ [0x01, 0x02, 0x03, 0x04, 0x10, 0x11, 0x12, 0x13, 0x14, 0x15, 0x16, 0x17, 0x18, 0x19, 0x1A, 0x1B, 0x1C, 0x1D,
    0x20, 0x21, 0x22, 0x23, 0x24, 0x25, 0x26, 0x27, 0x28, 0x30, 0x40, 0x41, 0x42, 0x43])

/-- The operand fields of an opcode in the descriptor table: first byte, number of bytes, and the bits used of each byte
(12 R353, R356). Bytes 16 to 35 of a data reference are added by `opFieldsOf`. -/
def opFields (op : Nat) : List (Nat × Nat × Nat) :=
  if op = 0x01 ∨ op = 0x02 then [(40, 8, 0xFF)]
  else if op = 0x03 then [(16, 21, 0xFF)]
  else if op = 0x04 ∨ op = 0x12 ∨ op = 0x1D ∨ op = 0x23 ∨ op = 0x25 then [(40, 1, 0xFF)]
  else if op = 0x10 then [(40, 1, 0xFF), (44, 12, 0xFF)]
  else if op = 0x11 then [(40, 2, 0xFF), (48, 8, 0xFF)]
  else if op ∈ [0x13, 0x15, 0x16, 0x24] then [(16, 1, 0xFF)]
  else if op = 0x14 then [(16, 1, 0xFF), (17, 1, 3), (18, 18, 0xFF)]
  else if op = 0x17 ∨ op = 0x42 then [(16, 1, 1)]
  else if op = 0x18 then [(16, 2, 0xFF), (18, 1, 7), (24, 12, 0xFF)]
  else if op = 0x19 then [(40, 7, 0xFF), (47, 1, 1)]
  else if op = 0x1A then [(40, 2, 0xFF), (44, 4, 0xFF)]
  else if op = 0x1B then [(16, 2, 0xFF), (20, 8, 0xFF)]
  else if op = 0x1C then [(40, 1, 0xFF), (41, 1, 0xF), (42, 16, 0xFF)]
  else if op = 0x20 then [(40, 2, 0xFF)]
  else if op = 0x21 then [(16, 1, 0xFF), (17, 1, 1)]
  else if op = 0x27 then [(16, 3, 0xFF), (19, 1, 3), (24, 12, 0xFF)]
  else if op = 0x28 then [(40, 2, 0xFF), (44, 6, 0xFF), (50, 1, 1)]
  else if op = 0x30 then [(40, 2, 0xFF), (44, 5, 0xFF)]
  else if op = 0x40 then [(16, 1, 0xFF), (24, 32, 0xFF)]
  else if op = 0x41 then [(16, 1, 3), (20, 5, 0xFF)]
  else if op = 0x43 then [(16, 4, 0xFF), (20, 1, 1)]
  else []

/-- The operand fields with those of the data reference. -/
def opFieldsOf (op cmd : Nat) : List (Nat × Nat × Nat) :=
  if (opData op cmd).isSome then (16, 20, 0xFF) :: opFields op else opFields op

/-- The bits of byte i that the descriptor table names. -/
def namedBits (fs : List (Nat × Nat × Nat)) (i : Nat) : Nat :=
  fs.foldl (fun m f => if f.1 ≤ i ∧ i < f.1 + f.2.1 then m ||| f.2.2 else m) 0

/-- Malformed cause 2: a reserved byte or bit of the header or the operands is not 0, under the generation selected
(12 R353, R354). -/
def reservedSet (gen : Nat) (b : List Byte) : Bool :=
  let op := leAt b 0 1
  let f1 := leAt b 1 1
  let fs := opFieldsOf op (leAt b 40 1)
  decide (f1 / 8 ≠ 0) || decide (leAt b 8 8 ≠ 0) ||
  (decide (gen = 3) && (if f1.testBit 2 then decide (leAt b 4 2 / 128 ≠ 0) else decide (leAt b 4 4 ≠ 0))) ||
  ((List.range 44).any fun i => decide (leAt b (16 + i) 1 &&& (0xFF ^^^ namedBits fs (16 + i)) ≠ 0))

/-- Offset and length of a LOCAL_LOAD or LOCAL_READ within their limits (03 R102, R103). -/
def localRangeOk (off len blocks : Nat) : Bool :=
  decide (off % 8 = 0) && decide (len % 8 = 0) && decide (8 ≤ len) && decide (len ≤ blocks * 4096) &&
    decide (off + len ≤ 65536)

/-- Malformed cause 3: an operand lies outside its range (12 R358; 03 R102, R103, 07 R205, 12 R356). -/
def operandBad (b : List Byte) : Bool :=
  let op := leAt b 0 1
  let n (o k : Nat) := leAt b o k
  let blocks := n 32 4
  if op = 0x03 then decide (4 ≤ n 36 1) || decide (n 16 8 % 4096 ≠ 0) || decide (n 24 8 % 4096 ≠ 0)
  else if op = 0x04 then decide (32 ≤ n 40 1)
  else if op = 0x10 then decide (32 ≤ n 40 1) || decide (n 44 4 = 0) || !localRangeOk (n 48 4) (n 52 4) blocks
  else if op = 0x11 then decide (1024 ≤ n 40 2) || !localRangeOk (n 48 4) (n 52 4) blocks
  else if op = 0x12 then decide (64 ≤ n 40 1) || decide (1 < blocks)
  else if op ∈ [0x13, 0x15, 0x16] then decide (64 ≤ n 16 1)
  else if op = 0x14 then decide (64 ≤ n 16 1) || decide (n 18 2 = 0)
  else if op = 0x19 then decide (1024 < n 42 2 + n 44 2) || decide (8 ≤ n 46 1)
  else if op = 0x1A then decide (32 ≤ n 40 1) || decide (2 ≤ n 41 1) || decide (n 44 4 % 4096 ≠ 0)
  else if op = 0x1B then decide (32 ≤ n 16 1) || decide (2 ≤ n 17 1) || decide (n 20 4 % 4096 ≠ 0) || decide (n 24 4 % 4096 ≠ 0)
  else if op = 0x1C then
    decide (32 ≤ n 40 1) || decide (6 ≤ n 41 1 / 2) || decide (32 ≤ n 42 1) || decide (n 43 1 = 0) ||
      decide (n 52 4 = 0) || decide (65536 < n 52 4) || decide (n 56 2 < 128) || decide (1 < blocks)
  else if op = 0x1D then decide (32 ≤ n 40 1) || decide (1 < blocks)
  else if op = 0x20 then decide (3 ≤ n 40 1) || decide (3 ≤ n 41 1) || (decide (n 41 1 ≠ 0) && decide (blocks ≠ 0))
  else if op = 0x21 then decide (3 ≤ n 16 1)
  else if op = 0x23 ∨ op = 0x25 then decide (2 ≤ n 40 1) || decide (1 < blocks)
  else if op = 0x24 then decide (2 ≤ n 16 1)
  else if op = 0x27 then decide (32 ≤ n 18 1)
  else if op = 0x28 then
    decide (n 48 2 = 0) || decide (384 < n 48 2) || decide (384 < n 44 4 + n 48 2) ||
      (decide (blocks ≠ 0) && decide (blocks ≠ ceilDiv (n 48 2) 8))
  else if op = 0x30 then decide (n 40 1 = 0) || decide (8 < n 40 1)
  else if op = 0x40 then decide (4 < n 16 1)
  else if op = 0x41 then decide (3 < n 24 1)
  else false

/-- Malformed cause 4: the data reference is misaligned, or has no block where blocks are required (12 R356). -/
def dataRefBad (b : List Byte) : Bool :=
  let op := leAt b 0 1
  match opData op (leAt b 40 1) with
  | none => false
  | some req =>
    let blocks := leAt b 32 4
    let need := req || (decide (op = 0x20) && decide (leAt b 41 1 = 0))
    (need && decide (blocks = 0)) || decide (leAt b 16 8 % 4096 ≠ 0) || decide (leAt b 24 8 % 4 ≠ 0)

/-- The most recent descriptor fetched from a ring with a tag (12 R354). -/
def State.latest (s : State) (ring tag : Nat) : Option Known :=
  (s.hif.known.filter (fun k => k.ring == ring && k.tag == tag)).getLast?

/-- The malformed cause of a fetched descriptor, judged in the order 5, 1, 6, 2, 3, 4, 7; none if it is well formed
(12 R358). -/
def State.malformed (s : State) (b : List Byte) : Option Nat :=
  let gen := s.gen
  let f1 := leAt b 1 1
  let dep := decide (gen = 3) && f1.testBit 2
  if gen ≠ 1 ∧ leAt b 60 4 ≠ (crc32c (b.take 60)).toNat then some 5
  else if !opKnown (leAt b 0 1) then some 1
  else if gen ≠ 3 ∧ (f1.testBit 2 = true ∨ leAt b 4 4 ≠ 0) then some 6
  else if reservedSet gen b then some 2
  else if operandBad b then some 3
  else if dataRefBad b then some 4
  else if dep && (s.latest (leAt b 4 1 % 64) (leAt b 6 2)).isNone then some 7
  else none

/-- The dependency of a fetched descriptor: the serial of the descriptor it names and need_success (12 R354). -/
def State.depOf (s : State) (b : List Byte) : Option (Nat × Bool) :=
  if s.gen = 3 ∧ (leAt b 1 1).testBit 2 = true then
    (s.latest (leAt b 4 1 % 64) (leAt b 6 2)).map (fun k => (k.serial, (leAt b 4 1).testBit 6))
  else none

/-- One descriptor fetched: it joins the descriptors that wait to start, or completes as malformed (12 R354, R358). -/
def State.fetchOne (s : State) (ring : Nat) (b : List Byte) : State :=
  let index := (s.ring ring).idx
  let tag := leAt b 2 2
  let op := leAt b 0 1
  let bad := s.malformed b
  let dep := s.depOf b
  let k : Known := { serial := s.hif.serial, ring := ring, index := index, tag := tag, status := none }
  let s1 := (s.setRing ring { s.ring ring with idx := (index + 1) % 2 ^ 32 })
  let s1 := { s1 with hif := { s1.hif with serial := s.hif.serial + 1, known := s.hif.known ++ [k] } }
  let id : DescId := { ring := ring, index := index, tag := tag, irq := (leAt b 1 1).testBit 1, op := op, serial := s.hif.serial }
  match bad with
  | some c => s1.finish id { status := 0x09, cause := c, hop := if c = 5 then 7 else 0 }
  | none =>
    let f : FDesc := { serial := s.hif.serial, ring := ring, index := index, tag := tag, op := op,
                       fence := (leAt b 1 1).testBit 0, irq := id.irq, dep := dep, bytes := b }
    { s1 with hif := { s1.hif with fetched := s1.hif.fetched ++ [f] } }

/-- The identity of a fetched descriptor. -/
def FDesc.id (f : FDesc) : DescId := { ring := f.ring, index := f.index, tag := f.tag, irq := f.irq, op := f.op, serial := f.serial }

/-- Descriptors fetched from a ring and not started complete with status 0x0D (12 R349). -/
def State.flushFetched (s : State) (ring : Nat) : State :=
  let l := s.hif.fetched.filter (fun f => f.ring == ring)
  let s := { s with hif := { s.hif with fetched := s.hif.fetched.filter (fun f => !(f.ring == ring)) } }
  l.foldl (fun s f => s.finish f.id { status := 0x0D }) s

/-- The places that a ring's descriptors in execution take. -/
def State.placesOf (s : State) (ring : Nat) : Nat := (s.hif.inExec.filter (fun x => x.ring == ring)).length

/-- A place reserved for the ring is free: four are, for each enabled command ring (12 R355). -/
def State.ownPlace (s : State) (ring : Nat) : Bool := (s.ring ring).en && decide (s.placesOf ring < 4)

/-- A shared place is free: of the 1,024, those that are not reserved; descriptors of a ring no longer enabled, and those of an enabled one
beyond its four, hold shared places (12 R355). -/
def State.sharedPlace (s : State) : Bool :=
  let rings := List.range 64
  decide ((rings.map fun r => if (s.ring r).en then s.placesOf r - 4 else s.placesOf r).sum +
    4 * (rings.filter fun r => (s.ring r).en).length < 1024)

/-- A place of execution is free for a ring (12 R355). -/
def State.placeFor (s : State) (ring : Nat) : Bool :=
  decide (s.hif.inExec.length < 1024) && (s.ownPlace ring || s.sharedPlace)

/-- Descriptors that wait while the tick PLL is stopped (15 R415). -/
def needsPll (op : Nat) : Bool := decide (op ∈ [0x14, 0x18, 0x27, 0x01, 0x02, 0x03, 0x04, 0x1C])

/-- The tick PLL is stopped, or has been started and has not locked yet; a lock lost later is not this (15 R415, 01 R23). -/
def State.pllStopped (s : State) : Bool := !s.tim.locked && !s.tim.degraded

/-- A descriptor fetched and waiting is the first of its ring that waits, and its fence and its dependency are met (12 R354). -/
def State.mayStart (s : State) (f : FDesc) : Bool :=
  (s.hif.fetched.all (fun g => !(g.ring == f.ring) || decide (f.serial ≤ g.serial))) &&
  (!f.fence || s.hif.known.all (fun k => !(k.ring == f.ring) || decide (f.serial ≤ k.serial) || k.status.isSome)) &&
  (match f.dep with
   | none => true
   | some (n, _) => s.hif.known.any (fun k => k.serial == n && k.status.isSome))

/-- The descriptor's dependency needed success and did not have it (12 R354). -/
def State.depFailed (s : State) (f : FDesc) : Bool :=
  match f.dep with
  | some (n, true) => s.hif.known.any (fun k => k.serial == n && k.status.isSome && decide (k.status ≠ some 0))
  | _ => false

/-- A level change of one of a site's parcels, or of the fabric, is in progress: it waits for the rail (15 R420). -/
def State.levelChanging (s : State) (n : Nat) : Bool :=
  s.pwr.jobs.any (fun j => j.railWait && (j.fabric || (s.parcels n).any (fun p => j.mask.testBit p)))

/-- The deep vector memory answers descriptors: it is trained and initialized, or has failed its training (06 R179, R219). -/
def Dvm.answers (d : Dvm) : Bool := d.ready || d.trainOff

/-- A descriptor's operands name host data: bytes 32 to 35 hold a block count, but for SXL_COPY (12 R356). -/
def namesHostData (op blocks : Nat) : Bool := decide (op ≠ 0x03) && decide (blocks ≠ 0)

/-- A waiting descriptor that waits for something other than a place, so that it stands in no other ring's way (12 R345, R355, 15 R415,
R420, 06 R179). -/
def State.opWaits (s : State) (f : FDesc) : Bool :=
  let b (o n : Nat) := leAt f.bytes o n
  (needsPll f.op && s.pllStopped) || (!s.requests && namesHostData f.op (b 32 4)) ||
  (decide (f.op = 0x14) && s.levelChanging (b 16 1)) || (decide (f.op ∈ [0x01, 0x02, 0x03]) && !s.dvm.answers) ||
  (decide (f.op = 0x03) && (s.link (b 36 1)).copy.isSome) || (decide (f.op = 0x1C) && (s.p (b 40 1)).meas.isSome) ||
  (decide (f.op = 0x04) && (s.p (b 40 1)).push.isSome) || (decide (f.op = 0x42) && s.pwr.clkWait.isSome) || decide (f.op = 0x30)

/-- A ring's first waiting descriptor could start if it had a shared place. -/
def State.wantsPlace (s : State) (ring : Nat) : Bool :=
  !s.ownPlace ring && s.hif.fetched.any (fun f => f.ring == ring && s.mayStart f && !s.opWaits f)

/-- It is a ring's turn to take a shared place: no ring before it in the weighted round robin could take one (12 R355). DESIGN CHOICE (log
entry 75): the round begins with ring 0, and a ring that could not start a descriptor is passed over. -/
def State.sharedTurn (s : State) (ring : Nat) : Bool :=
  let order := (if s.hif.rrLeft = 0 then [] else [s.hif.rrRing]) ++ (List.range 64).map (fun k => (s.hif.rrRing + 1 + k) % 64)
  (order.takeWhile (fun r => r ≠ ring)).all (fun r => !s.wantsPlace r)

/-- The share of descriptor starts of a command ring, 0 treated as 1 (12 R347, R355). -/
def State.ringWeight (s : State) (ring : Nat) : Nat := max 1 (s.regF (ringBase ring + 8) 16 4)

/-- The descriptor is in execution from now on; a shared place counts against its ring's share (12 R355). -/
def State.enter (s : State) (i : DescId) : State :=
  { s with hif := { s.hif with
      inExec := s.hif.inExec ++ [{ ring := i.ring, index := i.index, tag := i.tag, op := i.op, serial := i.serial }],
      rrRing := if s.ownPlace i.ring then s.hif.rrRing else i.ring,
      rrLeft := if s.ownPlace i.ring then s.hif.rrLeft
        else if i.ring = s.hif.rrRing ∧ s.hif.rrLeft ≠ 0 then s.hif.rrLeft - 1 else s.ringWeight i.ring - 1 } }

/-- The fetched descriptor that a row names. -/
def State.fetchedAs (s : State) (i : DescId) : Option FDesc :=
  s.hif.fetched.find? (fun f => f.ring == i.ring && f.index == i.index)

/-- The identity of the descriptor that a row names, with its number where it was fetched. -/
def State.named (s : State) (i : DescId) : DescId :=
  match s.fetchedAs i with
  | some f => { i with serial := f.serial }
  | none => i

/-- The descriptor that a row names was fetched with other bytes: the row gives its opcode, tag, irq flag and operands otherwise
(12 R353). -/
def State.otherBytes (s : State) (i : DescId) (fs : List (Nat × Nat × Nat)) : Bool :=
  match s.fetchedAs i with
  | some f => !(f.op == i.op && f.tag == i.tag && f.irq == i.irq && fs.all fun x => leAt f.bytes x.1 x.2.1 == x.2.2)
  | none => false

/-- The fetched descriptor that a row names leaves the waiting ones. -/
def State.unfetch (s : State) (i : DescId) : State :=
  { s with hif := { s.hif with fetched := s.hif.fetched.filter (fun f => !(f.ring == i.ring && f.index == i.index)) } }

/-- The operand bytes of a descriptor as its row gives them: first byte, number of bytes, value (12 R356, 09 R283). An input row gives the
blocks that its data reference names, so it fixes their number and not their address. -/
def rowFields : Instr → List (Nat × Nat × Nat)
  | .load _ dvm bs => [(32, 4, bs.length), (40, 8, dvm.toNat)]
  | .dvmRead _ dvm o _ => outFields o ++ [(40, 8, dvm.toNat)]
  | .sxlCopy _ src dst n l _ _ _ => [(16, 8, src.toNat), (24, 8, dst.toNat), (32, 4, n.toNat), (36, 1, l.toNat)]
  | .cqPush _ p bs => [(32, 4, bs.length), (40, 1, p.toNat)]
  | .localLoad _ p mask off len bs => [(32, 4, bs.length), (40, 1, p.toNat), (44, 4, mask.toNat), (48, 4, off.toNat), (52, 4, len.toNat)]
  | .localRead _ e off len o => outFields o ++ [(40, 2, e.toNat), (48, 4, off.toNat), (52, 4, len.toNat)]
  | .siteForm _ n _ => [(32, 4, 1), (40, 1, n.toNat)]
  | .siteDissolve _ n => [(16, 1, n.toNat)]
  | .runStart _ n timed late tmo est t =>
    [(16, 1, n.toNat), (17, 1, b2n timed + 2 * b2n late), (18, 2, tmo.toNat), (20, 4, est.toNat), (24, 12, t.toNat)]
  | .runAbort _ n => [(16, 1, n.toNat)]
  | .runReset _ n => [(16, 1, n.toNat)]
  | .channelsLiveSet _ => [(16, 1, 1)]
  | .channelsLiveClear _ => [(16, 1, 0)]
  | .benchTake _ id timed ovw fwd t => [(16, 2, id.toNat), (18, 1, b2n timed + 2 * b2n ovw + 4 * b2n fwd), (24, 12, t.toNat)]
  | .benchRead _ id first count parts rel o _ =>
    outFields o ++ [(40, 2, id.toNat), (42, 2, first.toNat), (44, 2, count.toNat), (46, 1, parts.toNat), (47, 1, b2n rel)]
  | .failMemRead _ p area off o => outFields o ++ [(40, 1, p.toNat), (41, 1, area.toNat), (44, 4, off.toNat)]
  | .failMemClear _ p area off len => [(16, 1, p.toNat), (17, 1, area.toNat), (20, 4, off.toNat), (24, 4, len.toNat)]
  | .calMeasure _ p sel launch aggr mask aggrMask reps spacing o _ =>
    outFields o ++ [(40, 1, p.toNat), (41, 1, sel.toNat), (42, 1, launch.toNat), (43, 1, aggr.toNat), (44, 4, mask.toNat),
      (48, 4, aggrMask.toNat), (52, 4, reps.toNat), (56, 2, spacing.toNat)]
  | .calLoad _ p _ => [(32, 4, 1), (40, 1, p.toNat)]
  | .imageStage _ slot source n => [(32, 4, n.toNat), (40, 1, slot.toNat), (41, 1, source.toNat)]
  | .switchOver _ slot pref => [(16, 1, slot.toNat), (17, 1, b2n pref)]
  | .keyFuseProgram _ slot _ _ => [(32, 4, 1), (40, 1, slot.toNat)]
  | .keyFuseRevoke _ slot => [(16, 1, slot.toNat)]
  | .keyRamLoad _ slot _ => [(32, 4, 1), (40, 1, slot.toNat)]
  | .readbackCapture _ id net timed ovw t =>
    [(16, 2, id.toNat), (18, 1, net.toNat), (19, 1, b2n timed + 2 * b2n ovw), (24, 12, t.toNat)]
  | .readbackRead _ id first count rel o =>
    outFields o ++ [(40, 2, id.toNat), (44, 4, first.toNat), (48, 2, count.toNat), (50, 1, b2n rel)]
  | .nvmRead _ off pages o _ => outFields o ++ [(40, 1, 1), (44, 4, off.toNat), (48, 1, pages.toNat)]
  | .nvmProgram _ off pages bs => [(32, 4, bs.length), (40, 1, 2), (44, 4, off.toNat), (48, 1, pages.toNat)]
  | .nvmErase _ off => [(40, 1, 3), (44, 4, off.toNat)]
  | .marginCheck _ off pages level _ _ => [(40, 1, 4), (41, 1, level.toNat), (44, 4, off.toNat), (48, 1, pages.toNat)]
  | .slotScan _ slot _ o _ => outFields o ++ [(40, 1, 5), (41, 1, slot.toNat)]
  | .nvmSuspend _ => [(40, 1, 6)]
  | .nvmResume _ => [(40, 1, 7)]
  | .wearReport _ o => outFields o ++ [(40, 1, 8)]
  | .pwrStateRun _ => [(16, 1, 0)]
  | .pwrStateIdle _ => [(16, 1, 1)]
  | .pwrStateSleep _ => [(16, 1, 2)]
  | .pwrStateDeepSleep _ mask => [(16, 1, 3), (24, 32, mask.toNat)]
  | .pwrStateOff _ => [(16, 1, 4)]
  | .pwrLevel _ sel mask level => [(16, 1, sel.toNat), (20, 4, mask.toNat), (24, 1, level.toNat)]
  | .clkSwitchPll _ _ => [(16, 1, 1)]
  | .clkSwitchFio _ => [(16, 1, 0)]
  | .pclPowerOn _ mask => [(16, 4, mask.toNat), (20, 1, 1)]
  | .pclPowerOff _ mask => [(16, 4, mask.toNat), (20, 1, 0)]
  | _ => []
where
  outFields (o : DataOut) : List (Nat × Nat × Nat) := [(16, 8, o.addr.toNat), (24, 8, o.checks.toNat), (32, 4, o.blocks.toNat)]

/-- The blocks of host data that the operand bytes name (12 R356). -/
def hostBlocks (fs : List (Nat × Nat × Nat)) : Nat := (fs.find? (fun x => x.1 == 32)).elim 0 (fun x => x.2.2)

/-- The gate of every descriptor row; `fs` are the operand bytes of the descriptor it names. The row describes nothing that occurs where
that descriptor was fetched with other bytes. The descriptor waits (no change) while it may not start; it completes without starting when
its dependency failed or base mode refuses it; otherwise it starts and `body` is its effect (12 R345, R354, R355, 10 R319, 15 R407, R415). -/
def State.runDesc (s : State) (i : DescId) (fs : List (Nat × Nat × Nat)) (baseOk : Bool) (body : DescId → State → State) : State :=
  let f := s.fetchedAs i
  let k := s.named i
  if s.pwr.state ≠ .run ∨ s.pwr.entryWait.isSome = true ∨ s.otherBytes i fs = true then s
  else if (match f with | some f => !s.mayStart f | none => false) then s
  else if (match f with | some f => s.depFailed f | none => false) then (s.unfetch i).finish k { status := 0x0C }
  else if s.cfg.base && !baseOk then (s.unfetch i).finish k { status := 0x0A }
  else if needsPll i.op && s.pllStopped then s
  else if !s.requests && namesHostData i.op (hostBlocks fs) then s
  else if !s.placeFor i.ring || !(s.ownPlace i.ring || f.isNone || s.sharedTurn i.ring) then s
  else body k ((s.unfetch i).enter k)

/-- The malformed cause of the operands and the data reference of a descriptor row, in the order of R358: a reserved bit, an
operand outside its range, a data reference that is misaligned or empty (12 R356, R358). -/
def malformedCause (reserved range dataRef : Bool) : Option Nat :=
  if reserved then some 2 else if range then some 3 else if dataRef then some 4 else none

/-- A data reference that is misaligned or has no block (12 R356). -/
def outBad (o : DataOut) : Bool :=
  decide (o.addr.toNat % 4096 ≠ 0) || decide (o.checks.toNat % 4 ≠ 0) || decide (o.blocks = 0)

/-- The gate of a descriptor row whose operands can be malformed: a malformed one completes and does nothing (12 R358); a
well-formed one may have to wait (`waits`), and else starts through `runDesc`. -/
def State.runChecked (s : State) (i : DescId) (fs : List (Nat × Nat × Nat)) (baseOk : Bool) (cause : Option Nat) (waits : Bool)
    (body : DescId → State → State) : State :=
  match cause with
  | some c =>
    if s.pwr.state ≠ .run ∨ s.otherBytes i fs = true then s
    else (s.unfetch i).finish (s.named i) { status := 0x09, cause := c }
  | none => if waits then s else s.runDesc i fs baseOk body

end Sys2Proof.Machine
end

