-- ==== Sys2Proof/Machine/Queue.lean ====
section
/-! DEFINITION. Stream packets (06 R183, R184) and the rings that carry them (06 R185 to R190, R194, R195): the producer's commit
or rewind, the consumer's release, the flush, and the counts that readiness and stalls are judged by. -/

namespace Sys2Proof.Machine

/-- Fields of a packet header word (06 R183). -/
def hdrLen (h : Nat) : Nat := fld h 0 13
def hdrType (h : Nat) : Nat := fld h 16 6
def hdrSel (h : Nat) : Nat := fld h 22 2
def hdrEng (h : Nat) : Nat := fld h 24 5
def hdrSeq (h : Nat) : Nat := fld h 32 16
def hdrPad (h : Nat) : Nat := fld h 48 5

/-- Slot width in bits and slots of a word for a code selector (06 R184). -/
def slotWidth (sel : Nat) : Nat := if sel = 0 then 4 else 2
def slotsPerWord (sel : Nat) : Nat := 64 / slotWidth sel

/-- Which queue a packet is for: an engine ring by engine index, the CQ, the FQ or a bulk channel (06 R183). -/
inductive QueueKind where
  | vq (engine : Nat)
  | cq
  | fq
  | bulk
deriving DecidableEq, Repr

/-- The bytes of words, little-endian (06 R183). -/
def wordBytes (ws : List Nat) : List Byte := ws.flatMap (leBytes 8)

/-- The CRC-32C a packet's trailer must carry (06 R183). -/
def packetCrc (ws : List Nat) : Nat := (crc32c (wordBytes (ws.dropLast))).toNat

/-- Check 5 of R184: the engine, length and pad of a packet for its queue. -/
def packetShape (k : QueueKind) (h : Nat) : Bool :=
  match k with
  | .vq e => decide (hdrEng h = e) &&
      (if hdrType h = 1 then decide (1 ≤ hdrLen h) && decide (hdrPad h < slotsPerWord (hdrSel h))
       else decide (hdrLen h = 0) && decide (hdrSel h = 0) && decide (hdrPad h = 0))
  | _ => decide (hdrEng h = 0) && decide (hdrPad h = 0) && decide (hdrSel h = 0)

/-- Check 3 of R184: the packet's type is one that the queue accepts. -/
def packetType (k : QueueKind) (h : Nat) : Bool :=
  match k with
  | .vq _ => hdrType h == 1 || hdrType h == 2
  | .cq => hdrType h == 0x10 || (hdrType h == 2 && hdrLen h == 0)
  | .fq => hdrType h == 0x20
  | .bulk => hdrType h == 0x30

/-- Check 4 of R184: reserved bits and pad slots are 0. -/
def packetZeros (ws : List Nat) : Bool :=
  let h := ws.headD 0
  let t := ws.getLastD 0
  decide (fld h 13 3 = 0) && decide (fld h 29 3 = 0) && decide (fld h 53 11 = 0) && decide (fld t 48 16 = 0) &&
    (hdrType h != 1 || decide (hdrLen h = 0) ||
      decide (ws.getD (hdrLen h) 0 / 2 ^ (64 - slotWidth (hdrSel h) * hdrPad h) = 0))

/-- A packet of header, payload and trailer is good in its queue, given the expected sequence number (06 R184). -/
def packetGood (k : QueueKind) (exp : Option Nat) (ws : List Nat) : Bool :=
  let h := ws.headD 0
  let t := ws.getLastD 0
  decide (ws.length = hdrLen h + 2) && decide (hdrLen h ≤ 4096) && decide (fld t 0 32 = packetCrc ws) &&
    decide (fld t 32 16 = hdrSeq h) && packetType k h && packetZeros ws && packetShape k h &&
    (match exp with | none => true | some n => decide (hdrSeq h = n))

/-- The slots a VEC packet holds (06 R184). -/
def packetSlots (h : Nat) : Nat := hdrLen h * slotsPerWord (hdrSel h) - hdrPad h

/-- Words released at the consumer: the read position moves. The first part that a flush has kept shrinks; with its last word the
rest of the packet it was cut from is skipped (06 R186, R189). -/
def VRing.release (n k : Nat) (r : VRing) : VRing :=
  match r.keep with
  | [] => { r with rd := (r.rd + k) % max n 1, q := r.q.drop k }
  | m :: ms =>
    if m ≤ k then { r with rd := (r.rd + m) % max n 1, q := r.q.drop m, keep := ms, inPkt := false, left := 0 }
    else { r with rd := (r.rd + k) % max n 1, q := r.q.drop k, keep := (m - k) :: ms }

/-- Words at the end of a ring that were committed in the parcel's tick of VCO cycle `now`: no consumer reads them in it (06 R187). -/
def VRing.fresh (now : Nat) (r : VRing) : Nat := if now < r.comTo then r.comWords else 0

/-- The consumer finds a packet that begins at the read position, or is inside one (06 R187). -/
def VRing.seen (now : Nat) (r : VRing) : Bool := r.inPkt || decide (r.fresh now < r.q.length)

/-- The VCO cycle at which the present tick of a parcel ends. -/
def State.tickEnd (s : State) (p : Nat) : Nat := (s.vco / levelDiv (s.pclLevel p) + 1) * levelDiv (s.pclLevel p)

/-- The slots of the packet that begins at the read position: of one that a flush has cut, those in the words kept (06 R184, R189). -/
def VRing.entrySlots (h : Nat) (r : VRing) : Nat :=
  match r.keep with
  | [] => packetSlots h
  | m :: _ => min (packetSlots h) (min (hdrLen h) (m - 1) * slotsPerWord (hdrSel h))

/-- The engine takes the next slot of its ring: its raw value and selector, with the ring after it; none where the ring holds
no untaken slot, or only ones committed in this tick (06 R186, R187, R194). `n` is the ring's size in words. -/
def VRing.takeSlot (now n : Nat) (r0 : VRing) : Option (Nat × Nat × VRing) :=
  let r := if r0.inPkt || !r0.seen now then r0
    else match r0.q with
      | h :: _ => if hdrType h = 1 then
          { r0 with inPkt := true, hdrIn := true, sel := hdrSel h, left := r0.entrySlots h, idx := 0 } else r0
      | [] => r0
  if !r.inPkt || decide (r.left = 0) then none
  else
    let w := r.q.getD (if r.hdrIn then 1 else 0) 0
    let raw := fld w (slotWidth r.sel * r.idx) (slotWidth r.sel)
    let last := decide (r.left = 1)
    let r1 := { r with left := r.left - 1, idx := r.idx + 1 }
    if last || decide (r.idx + 1 = slotsPerWord r.sel) then
      let k := (if r.hdrIn then 2 else 1) + (if last then 1 else 0)
      let r2 := (r1.release n k)
      some (raw, r.sel, { r2 with idx := 0, hdrIn := false, inPkt := r2.inPkt && !last })
    else some (raw, r.sel, r1)

/-- Untaken slots of the packets in a list of words that begins at a header; of a packet that a flush has cut, only the slots
in the words that are left. `fuel` bounds the packets. -/
def slotsAhead : Nat → List Nat → Nat
  | 0, _ => 0
  | _, [] => 0
  | fuel + 1, h :: ws =>
    if hdrType h = 1 then
      min (packetSlots h) (min (hdrLen h) ws.length * slotsPerWord (hdrSel h)) +
        slotsAhead fuel (ws.drop (hdrLen h + 1))
    else 0

/-- Untaken slots of the words from the read position on, of which none or some belong to a packet in progress. -/
def VRing.untakenIn (r : VRing) (ws : List Nat) : Nat :=
  if r.inPkt then
    r.left + slotsAhead ws.length
      (ws.drop ((if r.hdrIn then 1 else 0) + ceilDiv (r.left + r.idx) (slotsPerWord r.sel) + 1))
  else slotsAhead ws.length ws

/-- A list cut into parts of given lengths and the rest. -/
def cutParts : List Nat → List Nat → List (List Nat)
  | [], ws => [ws]
  | m :: ms, ws => ws.take m :: cutParts ms (ws.drop m)

/-- The parts of a ring that flushes have cut off, each by itself, and the words committed after them (06 R189). -/
def VRing.parts (r : VRing) : List (List Nat) := cutParts r.keep r.q

/-- Untaken slots of a ring; parts kept by flushes are counted apart from the words committed after them (06 R189, R190). -/
def VRing.untaken (r : VRing) : Nat :=
  match r.parts with
  | [] => 0
  | w :: ws => r.untakenIn w + (ws.map (fun w => slotsAhead w.length w)).sum

/-- Committed unreleased words (06 R186). -/
def VRing.level (r : VRing) : Nat := r.q.length

/-- The readiness condition with threshold t (06 R195). -/
def VRing.isReady (t : Nat) (r : VRing) : Bool :=
  decide (t ≤ r.level) || (decide (r.st = 1) && r.blocked && decide (1 ≤ r.level)) ||
    (decide (r.st = 2) && decide (1 ≤ r.untaken))

/-- The producer's whole packet written and judged at a VCO cycle, in a tick that ends at `upto`: committed, or rewound and counted (06
R186). -/
def VRing.write (now upto : Nat) (k : QueueKind) (ws : List Nat) (r : VRing) : Bool × VRing :=
  if packetGood k r.exp ws then
    let e := (hdrSeq (ws.headD 0) + 1) % 2 ^ 16
    (true, { r with q := r.q ++ ws, exp := some e, seqNo := e, blocked := false,
                    comTo := upto, comWords := r.fresh now + ws.length })
  else (false, { r with rewinds := satAdd 16 r.rewinds 1, blocked := false })

/-- Words up to and including the one that holds slot number `n` (from 1) of those untaken, in a ring whose first word of
payload is at position `at_` of the list; used by the flush (06 R189). -/
def keptWords : Nat → Nat → List Nat → Nat
  | 0, _, _ => 0
  | _, _, [] => 0
  | fuel + 1, n, h :: ws =>
    if n = 0 ∨ hdrType h ≠ 1 then 0
    else if n ≤ packetSlots h then 1 + ceilDiv n (slotsPerWord (hdrSel h))
    else hdrLen h + 2 + keptWords fuel (n - packetSlots h) (ws.drop (hdrLen h + 1))

/-- The words that hold `n` slots from the read position on, in a part that begins there (06 R189). -/
def VRing.keptIn (n : Nat) (ws : List Nat) (r : VRing) : Nat :=
  if n = 0 then 0
  else if r.inPkt then
    let hd := if r.hdrIn then 1 else 0
    if n ≤ r.left then hd + ceilDiv (n + r.idx) (slotsPerWord r.sel)
    else
      let words := hd + ceilDiv (r.left + r.idx) (slotsPerWord r.sel) + 1
      words + keptWords ws.length (n - r.left) (ws.drop words)
  else keptWords ws.length n ws

/-- The lengths of the parts a flush keeps for `n` reserved slots, given the parts after the first: whole ones while slots are still to be
found, and the beginning of the one that holds the last (06 R189). -/
def keptParts (n : Nat) : List (List Nat) → List Nat
  | [] => []
  | w :: ws =>
    if n = 0 then []
    else
      let have_ := slotsAhead w.length w
      if have_ < n ∧ ws ≠ [] then w.length :: keptParts (n - have_) ws else [min w.length (keptWords w.length n w)]

/-- The lengths of the parts a flush keeps when `n` slots are reserved (06 R189). -/
def VRing.keptFor (n : Nat) (r : VRing) : List Nat :=
  match r.parts with
  | [] => []
  | w :: ws =>
    if n = 0 then []
    else
      let have_ := r.untakenIn w
      if have_ < n ∧ ws ≠ [] then w.length :: keptParts (n - have_) ws else [min w.length (r.keptIn n w)]

/-- Slots of the packet in progress that lie in the kept words. -/
def VRing.keptLeft (kept : Nat) (r : VRing) : Nat :=
  let hd := if r.hdrIn then 1 else 0
  min r.left ((kept - hd) * slotsPerWord r.sel - r.idx)

/-- The flush of a ring that keeps the words of `n` reserved slots: every later committed word goes, the producer starts a
new packet, and the next commit is exempt from the sequence check (06 R184, R189). The packet that was to be written again
is abandoned; `skipWords` is its length. -/
def VRing.flush (n skipWords : Nat) (r : VRing) : VRing :=
  let ks := (r.keptFor n).filter (fun m => decide (m ≠ 0))
  let k := ks.headD 0
  { r with q := r.q.take ks.sum, exp := none, blocked := false, waitRetry := false, retries := 0, blockBad := none,
           pos := if r.waitRetry then r.pos + skipWords else r.pos,
           keep := ks, comWords := r.comWords - (r.q.length - ks.sum),
           inPkt := r.inPkt && decide (k ≠ 0), hdrIn := r.hdrIn && decide (k ≠ 0),
           left := if k = 0 then 0 else if r.inPkt then r.keptLeft k else r.left,
           idx := if k = 0 then 0 else r.idx }

end Sys2Proof.Machine
end

