-- ==== Sys2Proof/WellFormed.lean ====
section
/-! DEFINITION. Which commands can exist at all: the lengths of the payloads a command carries. -/

namespace Sys2Proof

/-- A block of host data is 4 KiB (12 R356). -/
def HostBlock.wellFormed (b : HostBlock) : Bool := b.data.length == 4096

/-- Every descriptor a fetch reads is 64 bytes long (12, Rings). -/
def Fetch.wellFormed (f : Fetch) : Bool := f.descs.all (fun d => d.length == 64)

/-- The blocks of host data a command carries. -/
def Instr.hostBlocks : Instr → List HostBlock
  | .load _ _ bs => bs
  | .cqPush _ _ bs => bs
  | .localLoad _ _ _ _ _ bs => bs
  | .siteForm _ _ b => [b]
  | .calLoad _ _ b => [b]
  | .stageBlock b _ _ => [b]
  | .keyFuseProgram _ _ b _ => [b]
  | .keyRamLoad _ _ b => [b]
  | .nvmProgram _ _ _ bs => bs
  | .jtagCfgIn b => [b]
  | _ => []

/-- The payload of a command can exist: blocks of 4 KiB, descriptors of 64 bytes, a bulk packet of at most 256 words
(05 R160), an access of a size that its value fits. -/
def Instr.wellFormed (i : Instr) : Bool :=
  i.hostBlocks.all HostBlock.wellFormed &&
  match i with
  | .descriptorFetch _ f => f.wellFormed
  | .bulkPacket _ ws => decide (ws.length ≤ 256)
  | .registerWrite w => decide (w.value.toNat < 2 ^ (8 * w.size.toNat))
  | .fabWindowAccess _ size _ v => decide (v.toNat < 2 ^ (8 * size.toNat))
  | _ => true

end Sys2Proof
end

