-- ==== Sys2Proof/Machine/Host.lean ====
section
/-! DEFINITION. The host interface's own commands (12): rings, doorbells, fetches, completions, event records, interrupts,
generation negotiation and the FAB window (01 R30, 08 R252); and resuming from Idle and waking from Sleep (15 R409 to R412),
which every host access does first. -/

namespace Sys2Proof.Machine

/-- A resume from Idle or a wake from Sleep: the source and the state left are recorded, the device is in Run, and
PWR_STATE_CHANGED is raised. After Sleep the tick PLL stays stopped, and parcels, fabric and deep vector memory stay as in Sleep, until
CLK_SWITCH (15 R404, R411, R412, R414). -/
def State.resume (s : State) (src : Nat) : State :=
  let left := s.pwr.state
  let s := { s with
    aon := { s.aon with wakeSrc := src, wakeFrom := left.code, wakeCount := satAdd 8 s.aon.wakeCount 1 },
    pwr := { s.pwr with state := .run, reverseBias := decide (left = PState.sleep), coreClk := s.pwr.coreClk && decide (left = PState.idle) } }
  s.raise 0x0207 [it1 src, it1 left.code, it1 s.aon.wakeCount]

/-- A host access reaches the device: in Idle and Sleep it resumes or wakes the device first, in Deep Sleep and Off it has no
effect (15 R409). -/
def State.hostAccess (s : State) (f : State → State) : State :=
  match s.pwr.state with
  | .run => f s
  | .idle => f (s.resume 3)
  | .sleep => f (s.resume 3)
  | .deepSleep => s
  | .off => s

/-- A register write that reaches a parcel whose domain is off is dropped with ACCESS_ERROR cause 7 (15 R417). -/
def State.toParcel (s : State) (p off : Nat) (f : State → State) : State :=
  if s.parcelOn p then f s else s.accessError off 7

/-- The sources that resume or wake the device from a state, by code (15 R409). -/
def State.wakesFrom (s : State) (st : PState) (k : Nat) : Bool :=
  match st with
  | .run => false
  | .idle => decide (k ∈ [1, 3, 4, 7])
  | .sleep => decide (k = 1 ∨ k = 3) || (decide (k = 2) && s.aon.wakeEn.testBit 0) || (decide (k = 5) && s.aon.wakeEn.testBit 1) ||
      (decide (k = 4) && s.aon.wakeEn.testBit 2)
  | .deepSleep => decide (k = 1 ∨ k = 6) || (decide (k = 2) && s.aon.wakeEn.testBit 0)
  | .off => decide (k = 1 ∨ k = 6)

/-- The source that a wake or resume records: the lowest code of those that act in the same cycle of the slow clock, which `also` gives as
a mask of codes beside the row's own (15 R411). -/
def State.lowestSource (s : State) (src : Nat) (also : Byte) : Nat :=
  ((List.range 8).find? fun k => (k == src || also.toNat.testBit k) && s.wakesFrom s.pwr.state k).getD src

/-- A source of the present state's wakes or resumes acts on a state that keeps the core: the device is in Run (15 R409, R411). -/
def State.resumeBy (s : State) (src : Nat) (also : Byte) : State :=
  if s.wakesFrom s.pwr.state src && decide (s.pwr.state = .idle ∨ s.pwr.state = .sleep) then s.resume (s.lowestSource src also) else s

/-- BAR0_ACCESS_WAKE: any access in Idle or Sleep, reads included (15 R409). -/
def execBar0AccessWake (also : Byte) (s : State) : Host.Outcome State Fault Refusal := answer (s.resumeBy 3 also)

/-- A ring stops with an error: as a write of en = 0 does, with err and its cause set, and RING_ERROR raised (12 R351). -/
def State.ringError (s : State) (n cause value : Nat) : State :=
  (s.setRing n { s.ring n with err := true, cause := cause }).raise 0x0103 [it1 n, it1 cause, it4 value]

/-- The completions due to a completion ring are dropped (12 R349). -/
def State.dropDue (s : State) (n : Nat) : State :=
  let due := s.hif.cpls.filter (fun c => s.cplRing c.ring == n)
  let s := { s with hif := { s.hif with cpls := s.hif.cpls.filter (fun c => !(s.cplRing c.ring == n)) } }
  due.foldl (fun s c => s.dropCpl c) s

/-- A ring is disabled: a command ring's waiting descriptors are flushed, a completion ring's due completions dropped, an
event ring's records wait (12 R349). -/
def State.disableRing (s : State) (n : Nat) : State :=
  let s := (s.setRing n { s.ring n with en := false }).setReg (ringBase n + 8) (s.reg (ringBase n + 8) % 2 ^ 31)
  if n < 64 then s.flushFetched n else if n < 128 then s.dropDue n else s

/-- The bits of HIF_RINGn_CFG below en that a write stores (12 R347). -/
def ringCfgMask (n : Nat) : Nat := if n < 64 then 0x000F3F1F else 0x7F00001F

/-- RING_ENABLE: a write of HIF_RINGn_CFG with en = 1 (12 R347, R349). -/
def ringEnable (n v : Nat) (s : State) : State :=
  let off := ringBase n + 8
  let cfg := v &&& ringCfgMask n
  if (s.ring n).en then
    (if cfg = s.reg off &&& ringCfgMask n then s else s.accessError off 3)
  else if s.gen ≠ 0 ∧ 4 ≤ fld v 0 5 ∧ fld v 0 5 ≤ 16 ∧ (64 ≤ n ∨ (s.ring (64 + fld v 8 6)).en = true) then
    (s.setReg off (cfg + 2 ^ 31)).setRing n { en := true }
  else (s.setRing n { s.ring n with cause := 5 }).raise 0x0103 [it1 n, it1 5, it4 v]

def execRingEnable (ring : Fin 144) (value : Word) (s : State) : Host.Outcome State Fault Refusal :=
  answer (s.hostAccess (ringEnable ring.val value.toNat))

/-- A completion ring is named by an enabled command ring (12 R349). -/
def State.namedByCommand (s : State) (n : Nat) : Bool :=
  (List.range 64).any (fun c => (s.ring c).en && s.cplRing c == n)

/-- RING_DISABLE: a write of HIF_RINGn_CFG with en = 0. While the ring is enabled only en is written; while it is disabled
the other fields are (12 R347, R349). -/
def ringDisable (n v : Nat) (s : State) : State :=
  let off := ringBase n + 8
  let cfg := v &&& ringCfgMask n
  if (s.ring n).en then
    (if 64 ≤ n ∧ n < 128 ∧ s.namedByCommand n = true then s.accessError off 3
     else
       let t := s.disableRing n
       if cfg = s.reg off &&& ringCfgMask n then t else t.accessError off 3)
  else s.setReg off cfg

def execRingDisable (ring : Fin 144) (value : Word) (s : State) : Host.Outcome State Fault Refusal :=
  answer (s.hostAccess (ringDisable ring.val value.toNat))

/-- DEV_GEN_WRITE: host is stored and sel follows it, unless a ring is enabled (12 R346). -/
def devGenWrite (v : Nat) (s : State) : State :=
  if (List.range 144).any (fun n => (s.ring n).en) then s.accessError 0x100014 5
  else s.setReg 0x100014 (v &&& 0xF00)

def execDevGenWrite (value : Word) (s : State) : Host.Outcome State Fault Refusal :=
  answer (s.hostAccess (devGenWrite value.toNat))

/-- The BAR0 offset of ring n's doorbell (12 R350). -/
def bellOff (n : Nat) : Nat := 0x8000 + 8 * n

/-- A doorbell write is checked for size, upper bits and an enabled ring before its value is judged (12 R350). -/
def doorbell (n size value : Nat) (ok : Nat → Bool) (badCause : Nat) (s : State) : State :=
  if size ≠ 8 then s.accessError (bellOff n) 1
  else if value / 2 ^ 32 ≠ 0 then s.accessError (bellOff n) 4
  else if !(s.ring n).en then s.accessError (bellOff n) 6
  else if ok value then s.setRing n { s.ring n with bell := value }
  else (s.disableRing n).ringError n badCause value

/-- COMMAND_DOORBELL: the new tail, within the window of R351. -/
def commandDoorbell (n size value : Nat) (s : State) : State :=
  doorbell n size value
    (fun v => decide (idxDiff v (s.ring n).idx ≤ s.ringSize n) && decide (idxDiff v (s.ring n).bell ≤ s.ringSize n)) 1 s

def execCommandDoorbell (ring : Fin 64) (size : BitVec 4) (value : Quad) (s : State) :
    Host.Outcome State Fault Refusal :=
  answer (s.hostAccess (commandDoorbell ring.val size.toNat value.toNat))

/-- CONSUMER_DOORBELL: the host's new head, within the window of R351. `ring` 0 to 63 is a completion ring, 64 to 79 an event
ring. -/
def consumerDoorbell (n size value : Nat) (s : State) : State :=
  doorbell n size value
    (fun v => decide (idxDiff v (s.ring n).bell ≤ idxDiff (s.ring n).idx (s.ring n).bell)) 3 s

def execConsumerDoorbell (ring : Fin 80) (size : BitVec 4) (value : Quad) (s : State) :
    Host.Outcome State Fault Refusal :=
  answer (s.hostAccess (consumerDoorbell (64 + ring.val) size.toNat value.toNat))

/-- DESCRIPTOR_FETCH: the descriptors from the head on, at most up to the tail, then the write-back of the head; an error that is not
correctable stops the ring with RING_ERROR cause 2 (12 R348, R350, R366). -/
def descriptorFetch (n : Nat) (f : Fetch) (s : State) : State :=
  if !(s.ring n).en || !s.requests || decide (s.pwr.state ≠ .run) then s
  else
    let left := idxDiff (s.ring n).bell (s.ring n).idx
    let s := ((f.descs.take left).foldl (fun s b => s.fetchOne n b) s).writeBack n
    match f.err with
    | none => s
    | some (u, c) =>
      if left ≤ f.descs.length then s
      else if u = 0 then s.pcieError u c
      else
        let i := (s.ring n).idx
        ((s.disableRing n).ringError n 2 i).pcieError u c

def execDescriptorFetch (ring : BitVec 6) (f : Fetch) (s : State) : Host.Outcome State Fault Refusal :=
  if f.wellFormed then answer (descriptorFetch ring.toNat f s) else .fault .illFormed

/-- COMPLETION_WRITE: the oldest completion due to completion ring 64 + `ring` is written once there is room, then the
write-back and the message; its descriptor has then completed (12 R348, R352, R354, R358). -/
def completionWrite (n : Nat) (s : State) : State :=
  if !s.requests || !(s.ring n).en || !s.ringSpace n then s
  else
    match s.hif.cpls.find? (fun c => s.cplRing c.ring == n) with
    | none => s
    | some c =>
      let s := { s with hif := { s.hif with cpls := s.hif.cpls.erase c } }
      (s.ringWrite n [c.bytes s.gen] c.irq).left c

/-- The first event of the event buffer whose code `due` holds of, with its continuations, and the records that stay. -/
def takeEvent (due : Nat → Bool) : List EvRec → Option (List EvRec × List EvRec)
  | [] => none
  | r :: rs =>
    if due r.code = true ∧ r.cont = false then
      let more := (rs.takeWhile (fun x => x.cont))
      some (r :: more, rs.drop more.length)
    else (takeEvent due rs).map (fun p => (p.1, r :: p.2))

/-- The next event due to event ring k, as the route registers stand now (12 R363). -/
def State.nextEvent (s : State) (k : Nat) : Option (List EvRec × List EvRec) := takeEvent (fun c => s.evRing c == k) s.hif.evBuf

/-- An event from the event buffer is written to its ring, continuations at once behind it (01 R32, 12 R362). -/
def eventFromBuffer (k : Nat) (s : State) : State :=
  match s.nextEvent k with
  | none => s
  | some (recs, rest) =>
    if s.ringFree (128 + k) < recs.length then s
    else
      let s := { s with hif := { s.hif with evBuf := rest } }
      (s.ringWrite (128 + k) (recs.map EvRec.bytes) false).reportLost

/-- The event ring of a parcel's records (12 R363). -/
def State.parRing (s : State) (p : Nat) : Nat := s.regF (0x500 + 4 * p) 0 4

/-- The FQ holds a committed record for the host interface: one committed before this tick (06 R187, R200). -/
def State.fqHolds (s : State) (p : Nat) : Bool := (s.p p).fq.seen s.vco

/-- A record from the head packet of a parcel's FQ is written to the parcel's ring unchanged; the packet is released with its
last record (06 R183, R186, 12 R363). -/
def eventFromFq (k p : Nat) (s : State) : State :=
  if s.parRing p ≠ k ∨ s.ringSpace (128 + k) = false ∨ s.fqHolds p = false ∨ s.parcelsClocked = false then s
  else
    let x := s.p p
    let n := hdrLen (x.fq.q.headD 0) / 4
    let s := s.ringWrite (128 + k) [wordBytes ((x.fq.q.drop (1 + 4 * x.fqDone)).take 4)] false
    if x.fqDone + 1 < n then s.setP p { x with fqDone := x.fqDone + 1 }
    else s.setP p { x with fqDone := 0, fq := x.fq.release 4096 (4 * n + 2) }

/-- A record waits for an event ring at a source. -/
def State.recordWaits (s : State) (k : Nat) : EvSource → Bool
  | .buffer => (s.nextEvent k).isSome
  | .parcel p => decide (s.parRing p.toNat = k) && s.fqHolds p.toNat

/-- EVENT_RECORD_WRITE: a held record is written once its ring is enabled and has space (01 R32). In Idle a record to deliver
resumes the device; in Sleep records wait for the wake (15 R409). -/
def eventRecordWrite (k : Nat) (src : EvSource) (s : State) : State :=
  let write (s : State) : State :=
    if !s.requests || !(s.ring (128 + k)).en then s
    else match src with
      | .buffer => eventFromBuffer k s
      | .parcel p => eventFromFq k p.toNat s
  match s.pwr.state with
  | .run => write s
  | .idle => if s.recordWaits k src then write (s.resume 7) else s
  | _ => s

def execEventRecordWrite (ring : BitVec 4) (src : EvSource) (s : State) : Host.Outcome State Fault Refusal :=
  answer (eventRecordWrite ring.toNat src s)

/-- INTERRUPT_TIMER: the moderation time of ring 64 + `ring` has passed since its first entry without a message
(12 R352). -/
def interruptTimer (n : Nat) (s : State) : State :=
  if (s.ring n).timer.isNone || decide (s.regF (ringBase n + 12) 16 16 = 0) || !s.requests then s
  else s.sendVector (s.ringVector n)

def execInterruptTimer (ring : Fin 80) (s : State) : Host.Outcome State Fault Refusal :=
  answer (interruptTimer (64 + ring.val) s)

/-- A write to configuration space: the fields that the host programs, and the status bits it clears (12 R343). -/
def Pci.program (p : Pci) (c : PciCtl) : Pci :=
  { p with mps := c.mps.toNat, mrrs := c.mrrs.toNat, tags := c.tags.toNat, ptm := c.ptm, msix := c.msix, fmask := c.fmask, aspm := c.aspm,
           d3 := c.d3, uncMask := c.uncMask.toNat, corMask := c.corMask.toNat, uncSev := c.uncSev.toNat,
           uncStatus := p.uncStatus - (p.uncStatus &&& c.uncClear.toNat), corStatus := p.corStatus - (p.corStatus &&& c.corClear.toNat) }

/-- BUS_MASTER_ENABLE: configuration space allows or stops every request of the device; messages held for it are sent (12 R345, R352). -/
def execBusMasterEnable (on : Bool) (ctl : PciCtl) (s : State) : Host.Outcome State Fault Refusal :=
  answer { s with hif := { s.hif with busMaster := on, pci := s.hif.pci.program ctl } }.sendPending

/-- The identity and capabilities of the function that are fixed (12 R343): vendor, device, revision, class code, subsystem vendor and
subsystem ID, size of BAR0, Max_Payload_Size supported, MSI-X vectors, table and PBA offsets, non-posted requests outstanding. -/
def State.identity (s : State) : List Nat :=
  [0x1F3D, 0x7A10, 0xB0, 0x118000, s.flash.subVendor, s.flash.subsystem, 2 ^ 25, 512, 128, 0xA000, 0xB000, 256]

/-- The user design runs: FAB on, a design loaded, GSR released (01 R30). -/
def State.designRuns (s : State) : Bool := s.cfg.loaded && !s.fab.gsr && !s.cfg.base

/-- The window accesses outstanding, the first of which is presented from now on if it was not yet (01 R30). -/
def State.setFab (s : State) (l : List FabAccess) : State :=
  { s with hif := { s.hif with fab := match l with
      | [] => []
      | a :: r => { a with from_ := some (a.from_.getD s.tim.tick) } :: r } }

/-- The host read that a window access holds, completed with the bytes of its lanes of the 8-byte word (01 R30, 08 R252). -/
def State.winRead (s : State) (a : FabAccess) (v : Nat) : State :=
  if a.write then s else s.put (.fabRead (v / 2 ^ (8 * (a.off % 8)) % 2 ^ (8 * a.size)))

/-- GSR is asserted: the accesses still held end at once, a read with 0, a write dropped, with no event (01 R30). -/
def State.dropWindow (s : State) : State :=
  s.hif.fab.foldl (fun s a => s.winRead a 0) { s with hif := { s.hif with fab := [] } }

/-- The 2 µs in which the user design may answer an access have passed (01 R30, 08 R252). -/
def State.winOver (s : State) (a : FabAccess) : Bool := a.from_.any fun t => decide (t + usTicks 2 ≤ s.tim.tick)

/-- The signals of the host window, by kind as Src.win numbers them: WIN_REQ for one fabric clock, WIN_WE, WIN_ADDR, WIN_BE and
WIN_WDATA of the access outstanding; a 4-byte access uses the half of the 8-byte word that its address names (08 R252). -/
def State.winSig (s : State) (kind i : Nat) : Bool :=
  match s.hif.fab with
  | [] => false
  | a :: _ =>
    match kind with
    | 0 => !a.shown
    | 1 => a.write
    | 2 => decide (3 ≤ i) && a.off.testBit i
    | 3 => decide (a.off % 8 ≤ i) && decide (i < a.off % 8 + a.size)
    | _ => a.write && (a.value * 2 ^ (8 * (a.off % 8))).testBit i

/-- FAB_WINDOW_ACCESS: presented to the user design behind any access still held; without a running design it completes with
0 or is dropped (01 R28, R30, 08 R252). -/
def fabWindowAccess (off size : Nat) (write : Bool) (value : Nat) (s : State) : State :=
  let a : FabAccess := { off := off, size := size, write := write, value := if write then value % 2 ^ (8 * size) else 0 }
  if (size ≠ 4 ∧ size ≠ 8) ∨ off % size ≠ 0 then (s.winRead a 0).accessError (0x1800000 + off) 1
  else if s.designRuns then s.setFab (s.hif.fab ++ [a])
  else s.winRead a 0

def execFabWindowAccess (off : BitVec 23) (size : BitVec 4) (write : Bool) (value : Quad) (s : State) :
    Host.Outcome State Fault Refusal :=
  answer (s.hostAccess (fabWindowAccess off.toNat size.toNat write value.toNat))

/-- WIN_ACK: the user design completes the access presented to it, unless the 2 µs have passed (08 R252). -/
def execWinAck (data : Quad) (s : State) : Host.Outcome State Fault Refusal :=
  match s.hif.fab with
  | [] => answer s
  | a :: rest => answer (if s.winOver a then s else (s.setFab rest).winRead a data.toNat)

/-- FAB_WINDOW_TIMEOUT: 2 µs without an acknowledgement; the read completes with 0, a write is dropped (01 R30). -/
def execFabWindowTimeout (s : State) : Host.Outcome State Fault Refusal :=
  match s.hif.fab with
  | [] => answer s
  | a :: rest =>
    answer (if s.winOver a then ((s.setFab rest).winRead a 0).raise 0x0102 [it4 (0x1800000 + a.off)] else s)

end Sys2Proof.Machine
end

