-- ==== Sys2Proof/Machine/Fail.lean ====
section
/-! DEFINITION. The fail path (04): records and the input buffer, the log area and its spill, map mode with its coalescing
buffer, captures, FAIL_OUT, and counting one judged strobe. -/

namespace Sys2Proof.Machine

/-- PCL_FM_CFG of a parcel, and its fields (04 R135). -/
def State.fmCfg (s : State) (p : Nat) : Nat := s.reg (parBase p + 0x20000)
def State.mapMode (s : State) (p : Nat) : Bool := (s.fmCfg p).testBit 0
def State.fullAborts (s : State) (p : Nat) : Bool := (s.fmCfg p).testBit 1
def State.firstRec (s : State) (p : Nat) : Bool := (s.fmCfg p).testBit 2
def State.capUnits (s : State) (p : Nat) : Nat := fld (s.fmCfg p) 8 5
def State.mapUnits (s : State) (p : Nat) : Nat := fld (s.fmCfg p) 16 6
def State.mapWidth (s : State) (p : Nat) : Nat := 2 ^ fld (s.fmCfg p) 24 3

/-- PCL_FM_MAPBASE, 40 bits (04 R135). -/
def State.mapBase (s : State) (p : Nat) : Nat := s.reg (parBase p + 0x20004) + 2 ^ 32 * s.regF (parBase p + 0x20008) 0 8

/-- Records the log area holds: 512 in each unit that capture and map leave (04 R120). -/
def State.logCap (s : State) (p : Nat) : Nat := (32 - s.capUnits p - s.mapUnits p) * 512

/-- Bytes of an area of the fail memory slice: offset and length (04, Fail memory; area 0 capture, 1 map, 12 R356). -/
def State.fmArea (s : State) (p area : Nat) : Nat × Nat :=
  if area = 0 then (0, s.capUnits p * 16384) else (s.capUnits p * 16384, s.mapUnits p * 16384)

/-- Records the spill partition of a parcel holds: 128 in each 4 KiB block; none before initialization (04 R123, 06 R179). -/
def State.spillCap (s : State) (p : Nat) : Nat :=
  if s.dvm.initDone && !s.dvm.trainOff then (s.dvm.parts.get (fun _ => (0, 0)) (32 + p)).2 * 4096 * 128 else 0

/-- Free records of the log area and of the spill partition. -/
def State.logFree (s : State) (p : Nat) : Nat := s.logCap p - (s.f p).log.length
def State.spillFree (s : State) (p : Nat) : Nat := s.spillCap p - 128 * (s.f p).spillN

/-- The block of the deep vector memory that holds spill block k of a parcel, in the order in which they were written: the partition
is filled round and round (04 R123). -/
def State.spillBlock (s : State) (p k : Nat) : Nat :=
  let part := s.dvm.parts.get (fun _ => (0, 0)) (32 + p)
  part.1 * 4096 + ((s.f p).spillAt + k) % max 1 (part.2 * 4096)

/-- The records of a block. -/
def blockRecords (b : List Byte) : List Rec := (List.range 128).map (fun i => sliceAt b (32 * i) 32)

/-- Every record of a parcel in spill, oldest first: those read back and those in its blocks (04 R123). -/
def State.spillRecs (s : State) (p : Nat) : List Rec :=
  (s.f p).drain ++ (List.range (s.f p).spillN).flatMap (fun k => blockRecords (s.dvm.block (s.spillBlock p k)))

/-- The device number where a record carries it, bits [13:10] of bytes 2 to 3. DESIGN CHOICE (log entry 18): the number that SXL_DEV holds
now, also before a link's next training (04 R117, 05 R164). -/
def State.devField (s : State) : Nat := s.devNum * 1024

/-- A fail-unit record: overrun start and end, record loss (04, Fail-unit records). -/
def State.unitRecord (s : State) (ty p cyc count time : Nat) : Rec :=
  sealRecord (leBytes 1 ty ++ leBytes 1 p ++ leBytes 2 s.devField ++ leBytes 6 cyc ++ leBytes 4 count ++ leBytes 4 0 ++
    leBytes 10 time)

/-- The cycle count of the lowest-numbered engine in the parcel's active run, 0 where there is none (04, Fail-unit records). -/
def State.unitCycle (s : State) (p : Nat) : Nat :=
  match (s.member.filter (fun q => q.1 / 32 = p && s.engActive q.1)).head? with
  | some q => (s.e q.1).cyc
  | none => 0

/-- A parcel's record enters its input buffer of 64; one that finds it full is not written, and the loss is counted and
reported once a run (04 R121). `time` is the record's datum time. DESIGN CHOICE (log entry 18): the event's item is the parcel. -/
def State.enterRec (s : State) (p : Nat) (r : Rec) (time : Nat) : State :=
  let f := s.f p
  if f.inBuf.length < 64 then s.setF p { f with inBuf := f.inBuf ++ [r] }
  else
    let t := s.setF p { f with lossPend := satAdd 32 f.lossPend 1, lossTime := if f.lossPend = 0 then time else f.lossTime,
                               lossCnt := satAdd 32 f.lossCnt 1, logLoss := true, lossRaised := true }
    if f.lossRaised then t else t.raiseAt 0x1032 [it1 p] time

/-- Once the input buffer has room, the RECORD_LOSS record of what was lost enters it (04 R121). -/
def State.enterLoss (s : State) (p : Nat) : State :=
  let f := s.f p
  if f.lossPend ≠ 0 ∧ f.inBuf.length < 64 then
    s.setF p { f with lossPend := 0, inBuf := f.inBuf ++ [s.unitRecord 5 p (s.unitCycle p) f.lossPend f.lossTime] }
  else s

/-- The log area and its spill are full to within 128 records (04 R124). -/
def State.logFullNow (s : State) (p : Nat) : Bool := decide (s.logFree p + s.spillFree p ≤ 128)

/-- The lowest-numbered engine of a site in a parcel. -/
def State.engIn (s : State) (n p : Nat) : Nat := ((s.engines n).filter (fun e => e / 32 = p)).headD (32 * p)

/-- The log_full policy, when the log and its spill become full: every site of the parcel stalls with reason 3, or aborts with
FAIL_SPILL_FULL (04 R124). DESIGN CHOICE (log entry 18): the event's item is the parcel. -/
def State.judgeLogFull (s : State) (p : Nat) : State :=
  let f := s.f p
  let half := decide (s.logCap p + s.spillCap p ≤ 2 * (s.logFree p + s.spillFree p))
  let f := { f with logStall := f.logStall && !half }
  let s := s.setF p f
  if s.logFullNow p && !f.spillFull then
    let s := s.setF p { f with spillFull := true, logStall := f.logStall || !s.fullAborts p }
    let sites := (s.sitesOf p).filter (fun n => s.active n)
    if s.fullAborts p then (s.each sites fun s n => s.abortNow n 6).raise 0x1034 [it1 p]
    else s.each sites fun s n => s.requestStall n 3 (s.engIn n p)
  else if !s.logFullNow p && f.spillFull then s.setF p { f with spillFull := false }
  else s

/-- The head of a fail record (04 R117): everything but its CRC. -/
def failRecord (site dev eng cyc addr code : Nat) (h l : Bool) (flags time : Nat) : Rec :=
  sealRecord (leBytes 1 1 ++ leBytes 1 site ++ leBytes 2 (eng + dev * 1024) ++ leBytes 6 cyc ++ leBytes 5 addr ++
    leBytes 1 (code + 16 * b2n l + 32 * b2n h) ++ leBytes 2 flags ++ leBytes 10 time)

/-- The record's address when flag 13 is 0: the source and the slots taken before the slot (04 R118). -/
def sourceAddr (v : VSlot) : Nat := v.src * 2 ^ 38 + v.ord % 2 ^ 38

/-- A datum tick lies in the present or the last supply-warning interval (15 R423, 04 R119). -/
def State.inWarn (s : State) (tick : Nat) : Bool :=
  decide (s.pwr.warnFrom ≤ tick) && (s.pwr.warn || decide (tick < s.pwr.warnTo))

/-- A datum tick lies in the present or the last interval of a parcel out of calibration load range (07 R208, R214). -/
def State.inOor (s : State) (p tick : Nat) : Bool :=
  (s.p p).uncal || (decide ((s.p p).calFrom ≤ tick) && ((s.p p).calOut || decide (tick < (s.p p).calTo)))

/-- The flags of a fail record but 12 and 13 (04 R117, R119). -/
def State.failFlags (s : State) (r : Run) (e : Nat) (m : Sample) (trigger : Bool) : Nat :=
  let c := r.vcoOf m.tick
  m.ts + 2 ^ 6 * b2n m.second + 2 ^ 7 * b2n m.window + 2 ^ 8 * b2n (s.inWarn (c / 4)) +
    2 ^ 9 * b2n (s.inOor (e / 32) (c / 4)) + 2 ^ 10 * b2n m.flag10 + 2 ^ 11 * b2n m.conflict +
    2 ^ 14 * b2n (match r.flagUpset with | some u => decide (u ≤ c) | none => false) + 2 ^ 15 * b2n trigger

/-- One bit of the fail memory slice set. -/
def setFmBit (m : SMap Byte) (byte bit : Nat) : SMap Byte :=
  m.modify zeroByte byte (fun b => b ||| BitVec.ofNat 8 (2 ^ bit))

/-- The bits of a map entry's mask set in the map area (04 R125, R127). -/
def State.mapOr (s : State) (p addr mask : Nat) : State :=
  let w := s.mapWidth p
  let base := (s.fmArea p 1).1
  let first := (addr - s.mapBase p) * w
  let f := s.f p
  let mem := (maskBits w mask).foldl (fun m l => setFmBit m (base + (first + l) / 8) ((first + l) % 8)) f.mem
  s.setF p { f with mem := mem }

/-- A map address lies within the map window (04 R125, R126). -/
def State.inMap (s : State) (p addr : Nat) : Bool :=
  decide (s.mapBase p ≤ addr) && decide (addr - s.mapBase p < s.mapUnits p * 131072 / s.mapWidth p)

/-- An entry of the coalescing buffer for an address. -/
def coalHas (addr : Nat) (l : List (Nat × Nat)) : Bool := l.any (fun q => q.1 == addr)

/-- A fail with a good map address: it merges, takes a free entry, or is diverted as a record; the update that finds all 256
entries in use starts an overrun (04 R127, R128). `rec` is the record it is diverted as. DESIGN CHOICE (log entry 18): the event's item is
the parcel. -/
def State.mapUpdate (s : State) (p addr lane : Nat) (rec : Rec) (time : Nat) : State :=
  let f := s.f p
  if coalHas addr f.coal then
    s.setF p { f with coal := f.coal.map (fun q => if q.1 = addr then (q.1, q.2 ||| 2 ^ lane) else q) }
  else if !f.diverting && decide (f.coal.length < 256) then s.setF p { f with coal := f.coal ++ [(addr, 2 ^ lane)] }
  else
    let s := if f.diverting then s
      else
        ((s.setF p { f with diverting := true, overrun := true, divSince := 0 }).enterRec p
          (s.unitRecord 3 p (s.unitCycle p) 0 time) time).raiseAt 0x1031 [it1 p] time
    let s := s.modF p fun f => { f with divCnt := satAdd 32 f.divCnt 1, divSince := satAdd 32 f.divSince 1 }
    s.enterRec p rec time

/-- A capture stores two bits in the engine's share of the capture area (04 R130). DESIGN CHOICE (log entry 18): the item of
CAPTURE_OVERFLOW is the engine. -/
def State.capture (s : State) (e : Nat) (h l : Bool) (time : Nat) : State :=
  let p := e / 32
  let x := s.e e
  let share := s.capUnits p * 512
  if x.capN < share * 4 then
    let at_ := (e % 32) * share + x.capN / 4
    let v := b2n l + 2 * b2n h
    let o := 2 * (x.capN % 4)
    let mem := (s.f p).mem.modify zeroByte at_ (fun b => BitVec.ofNat 8 (putFld b.toNat o 2 v))
    let s := s.modF p fun f => { f with mem := mem }
    s.setE e { x with capN := x.capN + 1 }
  else
    let t := s.setE e { x with capOvf := true }
    if x.capOvf then t else t.raiseAt 0x1033 [itEng e] time

/-- PIN_FAILOUTn and its fields (04 R136). -/
def State.failOutReg (s : State) (n : Nat) : Nat := s.reg (0x700F00 + 4 * n)

/-- A fail of an engine of a site is in the scope of a FAIL_OUT instance (04 R136). -/
def State.failOutHit (s : State) (n site e : Nat) : Bool :=
  let v := s.failOutReg n
  v.testBit 0 &&
    (if fld v 4 2 = 2 then true
     else if fld v 4 2 = 1 then decide (fld v 6 6 = site) && decide (fld v 12 5 = e / 32)
     else decide (fld v 6 6 = site))

/-- A fail reaches the FAIL_OUT instances at +12: those whose scope holds it assert and, in pulse mode, hold until pulse_len × 8 t
after it (04 R110, R133). DESIGN CHOICE (log entry 64): the hold is counted from the fail's sample tick. -/
def State.driveFailOut (s : State) (d : FailDue) : State :=
  s.each [0, 1, 2, 3] fun s n =>
    if s.failOutHit n d.site d.eng then
      let pulse := max 1 (fld (s.failOutReg n) 24 8) * 8
      let till := max (s.pins.failEnd.get zeroNat n) ((d.sampled + pulse * d.div) / 4)
      { s with pins := { s.pins with failOut := s.pins.failOut.set noFlag n true,
                                     failEnd := s.pins.failEnd.set zeroNat n till } }
    else s

/-- The fails that reach +12 by a VCO cycle drive FAIL_OUT, in the order in which they came (04 R110, R133). -/
def State.driveDue (s : State) (now : Nat) : State :=
  let due := s.pins.failDue.filter (fun d => decide (d.at_ ≤ now))
  due.foldl State.driveFailOut { s with pins := { s.pins with failDue := s.pins.failDue.filter (fun d => decide (now < d.at_)) } }

/-- A fail of the site's fail bus is due at FAIL_OUT: `eng` is 1,024 or more for one of another device (04 R110, R133). -/
def State.failOutAt (s : State) (site : Nat) (r : Run) (eng : Nat) (tick : Int) : State :=
  { s with pins := { s.pins with failDue := s.pins.failDue ++
      [{ at_ := r.vcoOf (tick + 12), site := site, eng := eng, sampled := r.vcoOf tick, div := r.div }] } }

/-- A fail or a conflict counted, latched on record and written: counts (R112, R107), first fail (R113), and its record or map
update (R117, R121, R122, R125, R126, R128). `trigger` is the stop-trigger flag. DESIGN CHOICE (log entry 64): the record of first_rec
is written beside the one that R126 or R128 asks for where the fail has a map address, and in place of no other. -/
def State.countFail (s : State) (site : Nat) (r : Run) (e : Nat) (m : Sample) (trigger : Bool) : State :=
  let p := e / 32
  let x := s.e e
  let time := s.stampVco (r.vcoOf m.tick)
  let limit := s.regF (engBase e + 0x108) 0 24
  let lane := s.regF (engBase e + 0x104) 24 5
  let flags := s.failFlags r e m trigger
  let rec13 (f12 f13 : Bool) (a : Nat) : Rec :=
    failRecord site s.devNum e m.cyc a m.code m.h m.l (flags + 2 ^ 12 * b2n f12 + 2 ^ 13 * b2n f13) time
  let first := decide (x.failCnt = 0)
  let room := decide (limit = 0) || decide (x.logged < limit)
  let x1 := { x with failCnt := satAdd 32 x.failCnt 1, conflicts := satAdd 16 x.conflicts (b2n m.conflict),
                     first := x.first.or (some m.cyc) }
  let s1 := s.setE e x1
  let limited (s : State) (rc : Rec) : State :=
    if room then (s.modE e fun y => { y with logged := y.logged + 1 }).enterRec p rc time
    else s.modE e fun y => { y with limitHit := true }
  if !s.mapMode p then limited s1 (rec13 false false (sourceAddr m.slot))
  else match m.slot.map with
    | none => s1.enterRec p (rec13 true false (sourceAddr m.slot)) time
    | some a =>
      let s2 := if first && s.firstRec p then limited s1 (rec13 false true a) else s1
      if s.inMap p a then s2.mapUpdate p a lane (rec13 true true a) time
      else (s2.modF p fun f => { f with oowCnt := satAdd 32 f.oowCnt 1 }).enterRec p (rec13 true true a) time

/-- Match fails and fails are kept with their sample tick and engine (03 R82, R84). -/
def Run.addFail (m : Sample) (e : Nat) (r : Run) : Run :=
  if m.isMatch then { r with mfails := r.mfails ++ [(m.tick, e)] } else { r with fails := r.fails ++ [(m.tick, e)] }

/-- A strobe is the trigger of a stop-on-fail: its fail takes the count to sof_count + 1 (04 R114, R116). -/
def State.isTrigger (s : State) (e : Nat) (m : Sample) : Bool :=
  let ctl := s.regF (engBase e + 0x104) 0 32
  m.fail && !m.isMatch && ctl.testBit 0 && decide ((s.e e).failCnt = fld ctl 8 16)

/-- A sample tick of the run lies before a stop takes effect; a sequence error of another engine cuts no sample (04 R115,
03 R100). -/
def Run.sampled (r : Run) (tick : Int) : Bool := r.stopAt.all (fun t => decide (r.vcoOf tick < t))

/-- An acting strobe at the +2 row: a capture is stored, and a fail or conflict that is no match compare's is counted, recorded, and
due at FAIL_OUT and on the links; a match fail is due on the links (04 R106, R107, R110, R112, R117, R130, R133, 05 R155). -/
def State.countSample (s : State) (site : Nat) (r : Run) (e : Nat) (m : Sample) : State :=
  let s := if m.isCap then s.capture e m.h m.l (s.stampVco (r.vcoOf m.tick)) else s
  if !m.fail then s
  else if m.isMatch then s.stamp site 1 (r.vcoOf (m.tick + 4)) 4
  else ((s.countFail site r e m (s.isTrigger e m)).failOutAt site r e m.tick).stamp site 0 (r.vcoOf (m.tick + 4)) 4

/-- The bits a judged strobe shows on its lane of PP_RES: fail, pass, match fail, conflict, CMPL, CMPH (08 R248). -/
def Sample.lane (m : Sample) : Nat :=
  b2n (m.fail && !m.isMatch) + 2 * b2n (!m.fail && !m.isCap) + 4 * b2n (m.fail && m.isMatch) + 8 * b2n m.conflict + 16 * b2n m.l +
    32 * b2n m.h

/-- A lane gathers a result: its first four bits join those gathered, CMPL and CMPH are the latest strobe's (08 R248). -/
def laneJoin (acc m : Nat) : Nat := (fld acc 0 4 ||| fld m 0 4) + 16 * fld m 4 2

/-- A strobe that reaches a row of its fail path: its place in the order of R121, and what it is. -/
structure DueSample where
  at_ : Nat
  second : Bool
  eng : Nat
  site : Nat
  m : Sample
deriving DecidableEq, Repr

/-- The order in which the fails of one tick are taken: sample tick, first period before second, engine number (04 R121). -/
def DueSample.before (a b : DueSample) : Bool :=
  decide (a.at_ < b.at_) || (decide (a.at_ = b.at_) && ((!a.second && b.second) || (a.second == b.second && decide (a.eng ≤ b.eng))))

/-- A strobe put in its place in that order. -/
def DueSample.insert (a : DueSample) : List DueSample → List DueSample
  | [] => [a]
  | b :: l => if a.before b then a :: b :: l else b :: DueSample.insert a l

/-- The strobes of the chosen engines that reach the +2 row by a VCO cycle and have not been counted, in order. -/
def State.dueSamples (s : State) (who : Nat → Bool) (now : Nat) : List DueSample :=
  (s.eng.filter (fun q => who q.1)).foldr (fun q l =>
    match (s.siteOf q.1) with
    | none => l
    | some n =>
      match s.run n with
      | none => l
      | some r =>
        (q.2.samples.filter (fun m => !m.counted && decide (r.vcoOf (m.tick + 2) ≤ now) && r.sampled m.tick)).foldr
          (fun m l => DueSample.insert { at_ := r.vcoOf m.tick, second := m.second, eng := q.1, site := n, m := m } l) l) []

/-- The strobes of engine e that stay on the fail path at a VCO cycle; those that reach the +4 row join its lane of PP_RES
(04 R110, 08 R248). -/
def State.moveSamples (s : State) (e : Nat) (r : Run) (now : Nat) : State :=
  let x := s.e e
  let out := x.samples.filter (fun m => decide (r.vcoOf (m.tick + 4) ≤ now) && r.sampled m.tick)
  let kept := (x.samples.filter (fun m => decide (now < r.vcoOf (m.tick + 4)) && r.sampled m.tick)).map
    (fun m => { m with counted := m.counted || decide (r.vcoOf (m.tick + 2) ≤ now) })
  let s := s.setE e { x with samples := kept }
  if out.isEmpty then s
  else s.modV e fun q => { q with resNext := out.foldl (fun a m => laneJoin a m.lane) q.resNext }

/-- The fail paths of the chosen engines advance to a VCO cycle (04 R110 to R112, R121). -/
def State.settle (s : State) (who : Nat → Bool) (now : Nat) : State :=
  let es := (s.eng.filter (fun q => who q.1 && !q.2.samples.isEmpty)).map (·.1)
  let s := (s.dueSamples who now).foldl (fun s d =>
    match s.run d.site with
    | some r => s.countSample d.site r d.eng d.m
    | none => s) s
  s.each es fun s e =>
    match (s.siteOf e).bind s.run with
    | some r => s.moveSamples e r now
    | none => s.modE e fun x => { x with samples := [] }

/-- Everything still on the fail paths of a site's engines takes its effect: nothing is lost when they are reset (04 R110, 05 R147). -/
def State.settleSite (s : State) (n : Nat) : State := s.settle (fun e => s.siteOf e == some n) (2 ^ 200)

/-- LOG_RING_ACCEPT: the log ring accepts the oldest record of the input buffer (04 R121, R124). -/
def logRingAccept (p : Nat) (s : State) : State :=
  let f := s.f p
  match f.inBuf with
  | [] => s.judgeLogFull p
  | r :: rest =>
    if f.log.length < s.logCap p then
      ((s.setF p { f with inBuf := rest, log := f.log ++ [r] }).enterLoss p).judgeLogFull p
    else s.judgeLogFull p

def execLogRingAccept (p : ParcelNo) (s : State) : Host.Outcome State Fault Refusal := answer (logRingAccept p.toNat s)

/-- LOG_SPILL: while 128 records or less are free, the 128 oldest records of the log area move to the spill partition in one block,
whose check value the writer computes (04 R123, 06 R178). -/
def logSpill (p : Nat) (s : State) : State :=
  let f := s.f p
  if s.logFree p ≤ 128 ∧ 128 ≤ f.log.length ∧ 128 ≤ s.spillFree p ∧ s.dvm.ready = true then
    let data := (f.log.take 128).flatten
    let s1 := { s with dvm := s.dvm.store (s.spillBlock p f.spillN) data (crc32c data).toNat }
    (s1.setF p { f with log := f.log.drop 128, spillN := f.spillN + 1 }).judgeLogFull p
  else s

def execLogSpill (p : ParcelNo) (s : State) : Host.Outcome State Fault Refusal := answer (logSpill p.toNat s)

/-- MAP_RETIRE: the oldest entry of the coalescing buffer reaches the map area; when the buffer becomes empty, diversion ends
with its record (04 R127, R128). -/
def mapRetire (p : Nat) (s : State) : State :=
  let f := s.f p
  match f.coal with
  | [] => s
  | (a, mask) :: rest =>
    let s := (s.setF p { f with coal := rest }).mapOr p a mask
    if f.diverting && rest.isEmpty then
      (s.modF p fun f => { f with diverting := false }).enterRec p
        (s.unitRecord 4 p (s.unitCycle p) f.divSince s.stampNow) s.stampNow
    else s

def execMapRetire (p : ParcelNo) (s : State) : Host.Outcome State Fault Refusal := answer (mapRetire p.toNat s)

/-- FAIL_OUT_PULSE_END: a pulse-mode output deasserts once its pulse has ended (04 R133). -/
def execFailOutPulseEnd (n : BitVec 2) (s : State) : Host.Outcome State Fault Refusal :=
  let k := n.toNat
  if (s.failOutReg k).testBit 1 || decide (s.tim.tick < s.pins.failEnd.get zeroNat k) then answer s
  else answer { s with pins := { s.pins with failOut := s.pins.failOut.set noFlag k false } }

/-- PIN_FAILOUT_CLEAR: the register's RW fields are stored, and clear deasserts a level-mode output (04 R133, R136). -/
def pinFailoutClear (k v : Nat) (s : State) : State :=
  let s := s.setReg (0x700F00 + 4 * k) (v &&& 0xFF01FFF7)
  if v.testBit 3 && v.testBit 1 then { s with pins := { s.pins with failOut := s.pins.failOut.set noFlag k false } }
  else s

end Sys2Proof.Machine
end

