-- ==== Sys2Proof/Machine/Source.lean ====
section
/-! DEFINITION. Vector sources of an engine: LOCAL blocks (03 R90, R91), its STREAM ring (06 R185, R194) and its FABRIC slot
buffer with the map queue (08 R245 to R247); compact codes (02 R53, R54). -/

namespace Sys2Proof.Machine

/-- The start has not committed. -/
def Run.waiting (r : Run) : Bool :=
  decide (r.phase = .deferred) || decide (r.phase = .preroll) || decide (r.phase = .ready) || decide (r.phase = .scheduled)

/-- A register of engine e, by offset in its block. -/
def State.ereg (s : State) (e off : Nat) : Nat := s.reg (engBase e + off)

/-- The sequence region's size in bytes (03 R67). -/
def State.seqBytes (s : State) (e : Nat) : Nat := (fld (s.ereg e 0) 0 4 + 1) * 4096

/-- A value of local memory: `n` bytes from byte `b`, little-endian. -/
def Engine.memAt (x : Engine) (b n : Nat) : Nat := leNat (x.mem.getList zeroByte b n)

/-- The pin state code of a raw slot value under a code selector (02 R53, R54). -/
def expandCode (user sel raw : Nat) : Nat :=
  if sel = 0 then raw
  else if sel = 1 then (if raw = 0 then 0 else if raw = 1 then 1 else if raw = 2 then 7 else 6)
  else if sel = 2 then (if raw = 0 then 2 else if raw = 1 then 3 else if raw = 2 then 4 else 6)
  else fld user (4 * raw) 4

/-- PCL_ENG_CC_USER of an engine (02 R66). -/
def State.ccUser (s : State) (e : Nat) : Nat := s.ereg e 0x304

/-- What taking a slot gives: a slot, a sequence error (03 R91), with whether the reader has reached a word of local memory, or nothing to
take yet. -/
inductive Taken where
  | slot (v : VSlot) (s : State)
  | error (code : Nat) (reached : Bool)
  | short
deriving DecidableEq, Repr

/-- Byte b begins an 8-byte unit inside the local vector region (03 R90). -/
def localOk (seqBytes b : Nat) : Bool := decide (seqBytes ≤ b) && decide (b + 8 ≤ 65536)

/-- The vector reader of LOCAL: at a block's end it reads the next header; then the slot of the current word (03 R90, R91). DESIGN CHOICE
(log entry 63): the pointer that PCL_SEQ_LCUR shows stays at a payload word until its last slot is taken (03 R105). -/
def State.takeLocal (s : State) (e : Nat) : Taken :=
  let x := s.e e
  let lim := s.seqBytes e
  let h := x.memAt (8 * x.lptr) 8
  let needHdr := decide (x.lrem = 0)
  if needHdr && !localOk lim (8 * x.lptr) then .error 0x0B false
  else if needHdr && (decide (fld h 2 14 ≠ 0) || decide (fld h 32 32 ≠ 0) || decide (fld h 16 16 = 0)) then .error 0x0B true
  else
    let x1 := if needHdr then { x with lsel := fld h 0 2, lrem := fld h 16 16, lidx := 0, lptr := x.lptr + 1 } else x
    if !localOk lim (8 * x1.lptr) then .error 0x0B needHdr
    else
      let w := x1.memAt (8 * x1.lptr) 8
      let raw := fld w (slotWidth x1.lsel * x1.lidx) (slotWidth x1.lsel)
      let done := decide (x1.lrem = 1) || decide (x1.lidx + 1 = slotsPerWord x1.lsel)
      let x2 := { x1 with lrem := x1.lrem - 1, lidx := if done then 0 else x1.lidx + 1,
                          lptr := if done then x1.lptr + 1 else x1.lptr, vec := x1.vec + 1 }
      .slot { code := expandCode (s.ccUser e) x1.lsel raw, src := 0, ord := x.vec, map := none } (s.setE e x2)

/-- Ring_units of engine index i of parcel p (06 R199). -/
def State.ringUnits (s : State) (p i : Nat) : Nat := fld (s.ereg (32 * p + i) 0x220) 8 8

/-- The effective base of engine index i's ring in 64-word units: rings lie in engine order and end with the VQ (06 R185). -/
def State.ringBase64 (s : State) (p i : Nat) : Nat := min 128 (((List.range i).map (s.ringUnits p)).sum)

/-- The effective size of an engine's ring in 64-word units (06 R185). -/
def State.ringUnitsEff (s : State) (e : Nat) : Nat :=
  min (s.ringUnits (e / 32) (e % 32)) (128 - s.ringBase64 (e / 32) (e % 32))

/-- The size of an engine's ring in words (06 R185). -/
def State.ringWords (s : State) (e : Nat) : Nat := 64 * s.ringUnitsEff e

/-- The STREAM reader: the next slot of the engine's ring, at a VCO cycle (06 R194). -/
def State.takeStream (s : State) (e now : Nat) : Taken :=
  match (s.v e).ring.takeSlot now (s.ringWords e) with
  | none => .short
  | some (raw, sel, r) =>
    let x := s.e e
    let s := (s.modV e fun q => { q with ring := r }).setE e { x with vec := x.vec + 1 }
    .slot { code := expandCode (s.ccUser e) sel raw, src := 1, ord := x.vec, map := none } s

/-- The engine is named in PCL_PP_MAMASK, and its parcel is in map mode: it attaches map queue entries (08 R247). -/
def State.masked (s : State) (e : Nat) : Bool :=
  s.mapMode (e / 32) && (s.reg (parBase (e / 32) + 0x25004)).testBit (e % 32)

/-- A slot of the buffer has been supplied by a VCO cycle: two ticks after the edge it was written at (08 R245). -/
def PSlot.supplied (div now : Nat) (q : PSlot) : Bool := decide (q.at_ + 2 * div ≤ now)

/-- The engines of a parcel named in PCL_PP_MAMASK whose site has a run active or a start pending (08 R247). -/
def State.maskedActive (s : State) (p : Nat) : List Nat :=
  (s.member.filterMap (fun q => if q.1 / 32 = p && s.masked q.1 && s.engActive q.1 then some q.1 else none))

/-- The engine's site has a start that has not committed (08 R247). -/
def State.startPends (s : State) (e : Nat) : Bool := ((s.siteOf e).bind s.run).any Run.waiting

/-- Map queue entries that every such engine has passed are released, while one of them has a run active; one with a start pending has
passed none (08 R247). -/
def State.releaseMq (s : State) (p : Nat) : State :=
  let es := s.maskedActive p
  let x := s.p p
  if es.all s.startPends then s
  else
    let low := listMin 0 (es.map (fun e => if s.startPends e then x.mqBase else (s.v e).mqPos))
    s.setP p { x with mq := x.mq.drop (low - x.mqBase), mqBase := max x.mqBase (min low (x.mqBase + x.mq.length)) }

/-- The map queue entry an engine attaches next (08 R247). -/
def State.nextMq (s : State) (e : Nat) : Option (Nat × Bool) := (s.p (e / 32)).mq[(s.v e).mqPos - (s.p (e / 32)).mqBase]?

/-- The FABRIC reader: the oldest supplied slot, with its map queue entry where the engine attaches them; the second slot of a
double-mode pair shares its pair's entry (08 R246, R247). `now` is the VCO cycle of the boundary. -/
def State.takeFabric (s : State) (e div now : Nat) (second : Bool) : Taken :=
  let q := s.v e
  let x := s.e e
  let m := s.masked e
  match q.buf with
  | [] => .short
  | b :: rest =>
    let entry := s.nextMq e
    if !b.supplied div now || decide (s.pclLevel (e / 32) ≠ s.pwr.fabLevel) then .short
    else if m && !second && entry.isNone then .short
    else
      let map : Option Nat :=
        if !m then none
        else if second then x.pair0.map
        else match entry with | some (a, true) => some a | _ => none
      let q1 := { q with buf := rest, mqPos := if m && !second then q.mqPos + 1 else q.mqPos }
      let s := ((s.setV e q1).setE e { x with vec := x.vec + 1 })
      let s := if m && !second then s.releaseMq (e / 32) else s
      .slot { code := expandCode (s.ccUser e) b.sel b.raw, src := 2, ord := x.vec, map := map } s

/-- The next slot of the engine's current source. -/
def State.takeSlot (s : State) (e div now : Nat) (second : Bool) : Taken :=
  if (s.e e).src = 0 then s.takeLocal e
  else if (s.e e).src = 1 then s.takeStream e now
  else s.takeFabric e div now second

end Sys2Proof.Machine
end

