-- ==== Sys2Proof/Machine/Sequencer.lean ====
section
/-! DEFINITION. Sequence words (03): fields and reserved bits (R75, R76), how a word takes ownership of its periods (R70 to R74,
R77 to R79, R83, R85, R88, R89, R92 to R94), what its end decides (R80 to R82, R84, R86), and sequence errors (R100). -/

namespace Sys2Proof.Machine

/-- The opcode of a word and its q (or m) and r bits (03 R69, R73, R74). -/
def wOp (w : Nat) : Nat := fld w 26 6
def wQ (w : Nat) : Bool := w.testBit 25
def wR (w : Nat) : Bool := w.testBit 24

/-- Opcodes listed in the opcode table (03 R75). -/
def wKnown (w : Nat) : Bool := decide (1 ≤ wOp w) && decide (wOp w ≤ 0x11)

/-- Reserved bits of the low 26 for an opcode (03 R74, R76). -/
def wReserved (w : Nat) : Nat :=
  let cnt := if wR w then 0x0FFFF8 else 0
  match wOp w with
  | 0x01 => 0x0F00000 ||| cnt
  | 0x02 | 0x03 => 0x2F00000 ||| cnt
  | 0x04 => 0x0F00000 ||| cnt
  | 0x05 | 0x07 | 0x0B => 0x1FFFFFF
  | 0x06 | 0x08 => 0x1FFC000
  | 0x09 => 0x00FC000
  | 0x0A => 0x0700000 ||| cnt
  | 0x0C => 0x1FFFF00
  | 0x0D => 0x1FFFFC0
  | 0x0E => 0x03FE000 ||| (if wR w then 0 else 0x1FFF)
  | 0x0F => 0x1FF0000
  | 0x10 => 0x1010000 ||| (if 4 ≤ fld w 20 4 ∧ fld w 20 4 ≤ 6 then 0xFFF8 else 0)
  | _ => 0x3FFFFFF

/-- A reserved operand bit or value (03 R69, R76, R93): error code 0x02. -/
def wBad (w : Nat) : Bool :=
  decide (fld w 0 26 &&& wReserved w ≠ 0) ||
    (decide (wOp w = 0x0C) && decide (fld w 0 8 = 0)) ||
    (decide (wOp w = 0x0E) && decide (fld w 22 2 = 3)) ||
    (decide (wOp w = 0x10) && decide (8 ≤ fld w 20 4))

/-- Counter Ck of an engine (03 R105). -/
def State.counter (s : State) (e k : Nat) : Nat := s.ereg e (0x20 + 4 * k)

/-- The count operand of a word: bits [19:0] plus 1, or a counter, 0 meaning 2^32, as the counters read then (03 R74, R94). -/
def countOf (c : Nat → Nat) (w : Nat) : Nat :=
  if wR w then (if c (fld w 0 3) = 0 then 2 ^ 32 else c (fld w 0 3)) else fld w 0 20 + 1

/-- The periods' count, slot taking and masking of a word (03 R70, R73): pairs in double mode. -/
def ownsOf (c : Nat → Nat) (w : Nat) : Nat × Bool × Bool :=
  if wOp w = 0x01 then (countOf c w, true, wQ w)
  else if wOp w = 0x02 then (countOf c w, false, false)
  else if wOp w = 0x03 then (countOf c w, false, true)
  else if wQ w then (1, false, true) else (1, true, false)

/-- The mode register of timing set n of engine e (02 R40). -/
def State.tsMode (s : State) (e n : Nat) : Nat := s.reg (tsBase e n + 4)
def State.tsDouble (s : State) (e n : Nat) : Bool := (s.tsMode e n).testBit 3
def State.tsValid (s : State) (e n : Nat) : Bool := (s.tsMode e n).testBit 31

/-- The result of a CNT operation (03 R93). -/
def cntResult (op cd cs imm : Nat) : Nat :=
  (if op = 0 then imm
   else if op = 1 then imm * 2 ^ 16 + cd % 2 ^ 16
   else if op = 2 then cd + imm
   else if op = 3 then cd + 2 ^ 32 - imm
   else if op = 4 then cd + cs
   else if op = 5 then cd + 2 ^ 32 - cs
   else if op = 6 then cs
   else cd &&& imm) % 2 ^ 32

/-- A sequence error at a boundary: the engine stops, its channel goes to its stall state, and the first error of the site is
reported and stops the site from six ticks after the boundary (03 R100). -/
def State.seqError (s : State) (n : Nat) (r : Run) (e code addr : Nat) : State :=
  let x := s.e e
  let tick := x.pos / 256
  let t0 := r.vcoAt tick
  let s := s.setE e (s.toStall e x.pos
    { x with seq := 5, own := none, inPeriod := false, stopTick := tick, arrive := none, errCode := code, errPc := addr,
             errValid := true })
  if r.err.isSome then s
  else (s.requestStop n 4 t0).raiseAt 0x1022 [itEng e, it1 code, it2 addr] (s.stampVco t0)

/-- The word's checks against stacks and match bodies (03 R77, R78, R85): an error code, if any. -/
def flowError (x : Engine) (w : Nat) : Option Nat :=
  let op := wOp w
  match x.body with
  | some b =>
    if op = 0x0A then some 0x07
    else if op ∈ [0x06, 0x07, 0x08, 0x09, 0x0C, 0x11] then some 0x08
    else if op = 0x04 ∧ 4 ≤ x.loops.length then some 0x05
    else if op = 0x05 ∧ x.loops.length = 0 then some 0x06
    else if op = 0x05 ∧ x.loops.length ≤ b.depth then some 0x0E
    else if op = 0x0B ∧ x.loops.length ≠ b.depth then some 0x0E
    else none
  | none =>
    if op = 0x0B then some 0x09
    else if op = 0x06 ∧ 8 ≤ x.calls.length then some 0x03
    else if op = 0x07 ∧ x.calls.length = 0 then some 0x04
    else if op = 0x04 ∧ 4 ≤ x.loops.length then some 0x05
    else if op = 0x05 ∧ x.loops.length = 0 then some 0x06
    else none

/-- What a word does when it takes ownership: stacks, branches taken without a test, match bodies, and the pending timing set,
source and counter (03 R77 to R79, R83, R88, R89, R93). `a1` is the address after the word's. DESIGN CHOICE (log entry 63): the address
after 0x3FFF is 16,384, outside every sequence region, so the word there gives 0x0A (03 R68); a LOOP keeps 14 bits of its body's
address. -/
def wordEffect (cnt : Nat) (cd cs : Nat) (w addr : Nat) (x : Engine) : Engine :=
  let a1 := (addr + 1) % 2 ^ 14
  let y := { x with next := addr + 1 }
  match wOp w with
  | 0x04 => { y with loops := (cnt, a1) :: x.loops }
  | 0x05 =>
    match x.loops with
    | (c, b) :: rest => if c = 1 then { y with loops := rest } else { y with loops := (c - 1, b) :: rest, next := b }
    | [] => y
  | 0x06 => { y with calls := (addr + 1) :: x.calls, next := fld w 0 14 }
  | 0x07 => { y with calls := x.calls.tail, next := x.calls.headD 0 }
  | 0x08 => { y with next := fld w 0 14 }
  | 0x0A => { y with mt := false, body := some { limit := cnt, site := w.testBit 23, body := addr + 1,
                                                 depth := x.loops.length } }
  | 0x0D => { y with tsNext := some (fld w 0 6) }
  | 0x0E => { y with srcNext := some (fld w 22 2), lptrNext := if wR w then some (fld w 0 13) else none }
  | 0x10 => { y with cntWrite := some (fld w 17 3, cntResult (fld w 20 4) cd cs (fld w 0 16)) }
  | _ => y

/-- The marker record of a MARK at an address whose first period begins in a tick after a number of completed periods (03 R92). -/
def State.marker (s : State) (n : Nat) (r : Run) (e addr cyc tick id : Nat) : Rec :=
  let c := r.vcoAt tick
  sealRecord (leBytes 1 2 ++ leBytes 1 n ++ leBytes 2 e ++ leBytes 6 cyc ++ leBytes 2 id ++ leBytes 2 addr ++
    leBytes 2 0 ++ leBytes 12 (visible (s.valueAt (c / 4))))

/-- A HALT: the engine's run ends at its boundary, and its channel goes to the safe state or holds its levels (03 R95,
02 R61). Tick 0 of 02 R64 is the end of the last period itself. DESIGN CHOICE (log entry 63): the tick at which the engine stopped, which
RUN_END dates, is the one that contains the end. -/
def State.haltEngine (s : State) (e : Nat) : State :=
  let x := s.e e
  let y := { x with seq := 4, own := none, inPeriod := false, stopTick := x.pos / 256 }
  s.setE e (if s.haltSafe e then s.toSafeAt e x.pos y else { y with haltHold := true })

/-- A word takes ownership at the engine's boundary, after the checks of its address, opcode, operands and place (03 R68, R69,
R70, R75, R85); HALT owns no period and ends the engine's run. `unc` says that the word holds an uncorrectable error (03 R101).
DESIGN CHOICE (log entry 63): where one word breaks several rules, the code recorded is the first of 0x0A, 0x0C, 0x01, 0x02 and the
errors of its place. -/
def State.takeWord (s : State) (n : Nat) (r : Run) (e addr w : Nat) (unc : Bool) : State :=
  let x := s.e e
  if s.seqBytes e ≤ 4 * addr then s.seqError n r e 0x0A addr
  else if unc then s.seqError n r e 0x0C addr
  else if !wKnown w then s.seqError n r e 0x01 addr
  else if wBad w then s.seqError n r e 0x02 addr
  else match flowError x w with
    | some c => s.seqError n r e c addr
    | none =>
      if wOp w = 0x11 then s.haltEngine e
      else
        let dbl := s.tsDouble e x.ts
        let (k, takes, masked) := ownsOf (s.counter e) w
        let y := wordEffect (countOf (s.counter e) w) (s.counter e (fld w 17 3)) (s.counter e (fld w 0 3)) w addr x
        let y := { y with own := some { word := w, addr := addr, left := if dbl then 2 * k else k, takes := takes,
                                        masked := masked, double := dbl } }
        s.setE e y

/-- The word at the engine's next address; a corrected error of a word that is executed is counted (03 R68, R101). -/
def State.fetchWord (s : State) (n : Nat) (r : Run) (e : Nat) (obs : Obs) : State :=
  let x := s.e e
  let s := if s.seqBytes e ≤ 4 * x.next then s else s.setE e { x with ecc := satAdd 16 x.ecc obs.wordCorr.toNat }
  s.takeWord n r e x.next (x.memAt (4 * x.next) 4) obs.wordUnc

/-- The decision tick of a word whose last period ends at `pos`: the latest tick that begins at least 1 t before it
(03 R80). -/
def decisionTick (pos : Nat) : Nat := pos / 256 - 1

/-- A fail in a list with its sample tick from `lo` to `hi`, of an engine that `p` accepts; one that its deskew puts before the start
tick counts with the tick (07 R203). -/
def failIn (l : List (Int × Nat)) (lo : Nat) (hi : Nat) (p : Nat → Bool) : Bool :=
  l.any (fun q => decide ((lo : Int) ≤ max q.1 0) && decide (q.1 + 6 ≤ (hi : Int)) && p q.2)

/-- The condition of a BFL at its decision tick d (03 R81, R82). Engine numbers from 1,024 on stand for other devices. -/
def bflCond (r : Run) (e : Nat) (x : Engine) (cond d : Nat) : Bool :=
  let eng (k : Nat) := k == e
  let par (k : Nat) := decide (k < 1024) && k / 32 == e / 32
  let any (_ : Nat) := true
  match cond with
  | 0 => failIn r.fails x.live d eng
  | 1 => failIn r.fails x.live d par
  | 2 => failIn r.fails x.live d any
  | 3 => failIn r.fails x.fromE d eng
  | 4 => failIn r.fails x.fromP d par
  | 5 => failIn r.fails x.fromS d any
  | 6 => x.mt
  | _ => x.z

/-- The end of a BFL's last period: the successor, the next live window, and the latch or flag cleared (03 R80 to R82). -/
def endBfl (r : Run) (e : Nat) (o : Own) (x : Engine) : Engine :=
  let d := decisionTick x.pos
  let cond := fld o.word 20 3
  let c := bflCond r e x cond d
  let y := { x with live := d - 5, next := if c != o.word.testBit 24 then fld o.word 0 14 else o.addr + 1 }
  if o.word.testBit 23 then
    { y with fromE := if cond = 3 then d - 5 else y.fromE, fromP := if cond = 4 then d - 5 else y.fromP,
             fromS := if cond = 5 then d - 5 else y.fromS, mt := y.mt && decide (cond ≠ 6) }
  else y

/-- The end of an ENDM's last period: exit when the iteration is met or the limit reached, repeat otherwise (03 R84). A route
with a version 1 link shows a site-scope ENDM only its own device's match fails (05 R163). -/
def State.endEndm (s : State) (n : Nat) (r : Run) (e : Nat) (o : Own) : State :=
  let x := s.e e
  match x.body with
  | none => s
  | some b =>
    let d := decisionTick x.pos
    let seen (k : Nat) := if b.site then (decide (k < 1024) || !r.flagV1) else k == e
    let met := !failIn r.mfails (b.win.getD 0) d seen
    let iters := b.iters + 1
    let drop (r : Run) : Run := { r with mfails := r.mfails.filter (fun q => !(q.2 == e && decide ((d : Int) < q.1 + 6))) }
    if !met && decide (iters < b.limit) then
      s.setE e { x with next := b.body, body := some { b with iters := iters, win := some (d - 5) } }
    else
      let y := { x with next := o.addr + 1, body := none }
      if met then (s.setE e y).modRun n drop
      else
        let t := (s.setE e { y with mt := true, mtCnt := satAdd 16 x.mtCnt 1, mtRaised := true }).modRun n drop
        if x.mtRaised then t else t.raiseAt 0x1023 [itEng e, it2 o.addr] (s.stampVco (r.vcoAt d))

/-- The engine arrives at a barrier when the last period its SYNC owns ends, by the ticks outside a stall that this period spanned
after which its periods are the first after a stall (03 R86, R87, 04 R119, 05 R149). -/
def arriveAt (o : Own) (x : Engine) : Engine :=
  { x with seq := 2, arrive := some (fld o.word 0 8, x.pos + 256 * x.delay), pos := x.pos + 256 * x.delay, delay := 0,
           afterStall := if x.delay = 0 then x.afterStall else 0 }

/-- The end of the last period that a word owns: what it decided takes effect for the following period (03 R57 of 02, R80,
R83, R86, R88, R89). -/
def State.finishWord (s : State) (n : Nat) (r : Run) (e : Nat) (o : Own) : State :=
  let s := s.modE e fun x => { x with own := none }
  match wOp o.word with
  | 0x09 => s.modE e (endBfl r e o)
  | 0x0B => s.endEndm n r e o
  | 0x0C => s.modE e (arriveAt o)
  | 0x0D => s.modE e fun x => { x with ts := x.tsNext.getD x.ts, tsNext := none }
  | 0x0E => s.modE e fun x =>
      { x with src := x.srcNext.getD x.src, srcNext := none, lptr := x.lptrNext.getD x.lptr,
               lrem := if x.lptrNext.isSome then 0 else x.lrem, lidx := if x.lptrNext.isSome then 0 else x.lidx,
               lptrNext := none }
  | _ => s

end Sys2Proof.Machine
end

