-- ==== Sys2Proof/Machine/Period.lean ====
section
/-! DEFINITION. Periods of a channel engine (02, 04): the edges a code places, the judging of its strobe, the end of a period
and the beginning of the next, and the stop of an engine and of its site's run (03 R95, R100, 05 R145). -/

namespace Sys2Proof.Machine

/-- The user-code entry of a code under timing set n: drive action and compare value (02 R42, R52). -/
def State.userEntry (s : State) (e n code : Nat) : Nat := s.regF (tsBase e n + 0x20) (6 * (code - 0xB)) 6

/-- The drive action of a code: 0 data 0, 1 data 1, 2 keep, 3 off, 4 clock, 5 inverted clock (02 R42, R51). -/
def State.driveOf (s : State) (e n code : Nat) : Nat :=
  if 0xB ≤ code then s.userEntry e n code % 8
  else if code = 0 then 0 else if code = 1 then 1 else if code = 7 then 2 else if code = 8 then 4
  else if code = 9 then 5 else 3

/-- The compare value of a code: 0 none, 1 EL, 2 EH, 3 EZ, 4 EV, 5 capture (02 R42, R51). -/
def State.compareOf (s : State) (e n code : Nat) : Nat :=
  if 0xB ≤ code then s.userEntry e n code / 8
  else if code = 2 then 1 else if code = 3 then 2 else if code = 4 then 3 else if code = 5 then 4
  else if code = 0xA then 5 else 0

/-- The compare value left by masking of the word and by PCL_CMP_MASK, which never masks a capture (04 R108). -/
def State.maskedCompare (s : State) (e : Nat) (masked : Bool) (k : Nat) : Nat :=
  let m := s.ereg e 0x100
  if masked then 0
  else if 1 ≤ k ∧ k ≤ 4 ∧ (m.testBit 7 = true ∨ m.testBit (k - 1) = true) then 0
  else k

/-- Whether a sample fails a compare value: the truth table (04 R106), with both inputs at 1 always a fail (04 R107). -/
def judgeFail (k : Nat) (h l : Bool) : Bool :=
  if h && l then true
  else match k with
    | 1 => !l
    | 2 => !h
    | 3 => h || l
    | 4 => !(h || l)
    | _ => false

/-- The inputs a strobe reports and whether they fail: in a window, those of the first failing instant (02 R43, 04 R106). -/
def judgeStrobe (k : Nat) (window : Bool) (o : Obs) : Bool × Bool × Bool :=
  if window && !o.win.isEmpty then
    match o.win.find? (fun p => judgeFail k p.1 p.2) with
    | some p => (p.1, p.2, true)
    | none => (o.h, o.l, false)
  else (o.h, o.l, judgeFail k o.h o.l)

/-- DRV levels a period sets, at D1, D2 and D3, for a drive action in a format; standard mode (02 R46). -/
def drvStd (format act : Nat) : Option Bool × Option Bool × Option Bool :=
  let c := (some false, some true, some false)
  let ci := (some true, some false, some true)
  if format = 2 then
    (match act with | 0 => ci | 1 => (some true, some true, some true) | 4 => ci | _ => c)
  else if act = 4 then c
  else if act = 5 then ci
  else if format = 0 then (some (act == 1), none, none)
  else if format = 4 then (none, some (act == 1), none)
  else if format = 1 then (if act = 1 then c else (some false, some false, some false))
  else (if act = 1 then c else ci)

/-- DRV levels in double mode: at D1 for NRZ, at D2 for DNRZ (02 R47). -/
def drvDbl (format act : Nat) : Option Bool × Option Bool × Option Bool :=
  let v := act == 1 || act == 4
  if format = 4 then (none, some v, none) else (some v, none, none)

/-- An offset register of timing set n: o = 8 for D1 to 0x1C for S2, in fine steps (02 R41). -/
def State.edgeOff (s : State) (e n o : Nat) : Nat := s.reg (tsBase e n + o)

/-- The length of a period under timing set n (02 R35, R39). -/
def State.periodLen (s : State) (e n : Nat) (dbl : Bool) : Nat :=
  if dbl then 128
  else let v := s.reg (tsBase e n); (fld v 8 24 + 1) * 256 + fld v 0 8

/-- Level changes on one output from its present level, for settings in time order (02 R45). -/
def changes (den : Bool) : Bool → List (Int × Bool) → List Edge × Bool
  | lvl, [] => ([], lvl)
  | lvl, (t, v) :: rest =>
    let here := match rest with | (t2, _) :: _ => t2 == t | [] => false
    if here || v == lvl then changes den lvl rest
    else
      let r := changes den v rest
      ({ at_ := t, den := den, level := v } :: r.1, r.2)

/-- The tick that contains a strobe's instant after deskew and drift offset; CMPH and CMPL have a deskew each, and the later of
the two instants counts (07 R203). -/
def State.strobeTick (s : State) (e off : Nat) (x : Engine) : Int :=
  ((x.pos : Int) + off + x.shift + max (s.deskew e 4) (s.deskew e 5)) / 256

/-- The transitions of a period with a drive action, placed from its start, and the levels it leaves (02 R46 to R50). DESIGN CHOICE (log
entry 64): two transitions closer than 128 fine steps across a boundary, for which 02 R37 specifies no shape or width, show the levels
exactly as placed. -/
def State.placeEdges (s : State) (e n act : Nat) (dbl : Bool) (x : Engine) : Engine :=
  let format := fld (s.tsMode e n) 0 3
  let t (o : Nat) : Int := (x.pos : Int) + s.edgeOff e n o
  let isDrive := decide (act ≠ 2 ∧ act ≠ 3)
  let sets := if dbl then drvDbl format act else drvStd format act
  let drvs : List (Int × Bool) :=
    if isDrive then (sets.1.toList.map (fun v => (t 8, v))) ++ (sets.2.1.toList.map (fun v => (t 0xC, v))) ++
      (sets.2.2.toList.map (fun v => (t 0x10, v)))
    else []
  let dens : List (Int × Bool) :=
    if isDrive then [(t 8, true)]
    else if act = 3 then [(if dbl then t 8 else t 0x14, false)] else []
  let a := changes false x.drv drvs
  let b := changes true x.den dens
  { x with edges := x.edges ++ (b.1 ++ a.1).map (s.atLand e x.shift), drv := a.2, den := b.2 }

/-- One drift correction at a boundary: one fine step toward the target, the first of a run at once, then at most one in 64
periods (02 R58, 07 R211). -/
def State.driftStep (s : State) (e : Nat) (x : Engine) : Engine :=
  let target := (s.p (e / 32)).target
  if x.shift = target ∨ x.sinceShift < 64 then { x with sinceShift := min 64 (x.sinceShift + 1) }
  else { x with shift := if x.shift < target then x.shift + 1 else x.shift - 1, sinceShift := 1 }

/-- The engine's first period after the boundary: the drift correction, the edges of the slot applied, and its strobe judged
on what the comparators will show (02 R57, R59, 04 R106). The first period of a match body opens its first window (03 R83, R84).
DESIGN CHOICE (log entry 64): a comparator conflict at a capture is an ordinary fail inside a match body too, where only compares are
match compares. -/
def State.applySlot (s : State) (e : Nat) (o : Own) (second : Bool) (v : VSlot) (obs : Obs) (flag10 : Bool) : State :=
  let x := s.driftStep e (s.e e)
  let n := x.ts
  let act := s.driveOf e n v.code
  let k := s.maskedCompare e o.masked (s.compareOf e n v.code)
  let window := (s.tsMode e n).testBit 4 && decide (k ≠ 5)
  let (h, l, bad) := judgeStrobe k window obs
  let off := s.edgeOff e n (if window then 0x1C else 0x18)
  let m : Sample := { tick := s.strobeTick e off x, isCap := decide (k = 5), fail := bad, conflict := h && l,
                      isMatch := x.body.isSome && decide (wOp o.word ≠ 0x0A) && decide (k ≠ 5), code := v.code, h := h,
                      l := l, slot := v, ts := n, second := second, window := window, cyc := x.cyc, flag10 := flag10 }
  let y := s.placeEdges e n act o.double { x with safe := false, stallCh := false, haltHold := false }
  s.setE e { y with inPeriod := true, beg := x.pos, pos := x.pos + s.periodLen e n o.double, dbl := o.double,
                    pc := o.addr, curTs := n,
                    second := second, own := some { o with left := o.left - 1 },
                    body := x.body.map (fun b =>
                      if b.win.isNone && decide (wOp o.word ≠ 0x0A) then { b with win := some (x.pos / 256) } else b),
                    samples := if k = 0 then x.samples else x.samples ++ [m], afterStall := min 64 (x.afterStall + 1) }

/-- The fail count that an engine's strobes so far will have reached (04 R112, R114). -/
def Engine.failsTo (x : Engine) : Nat := x.failCnt + (x.samples.filter (fun m => !m.counted && m.fail && !m.isMatch)).length

/-- The strobe just placed: its fail joins the site's fails from its sample tick on, and triggers stop-on-fail where it will take the
count to sof_count + 1 (03 R82, R84, 04 R114, R116). -/
def State.postFail (s : State) (n e : Nat) (m : Sample) : State :=
  if !m.fail then s
  else
    let s := s.modRun n (Run.addFail m e)
    let ctl := s.ereg e 0x104
    if !m.isMatch && ctl.testBit 0 && decide ((s.e e).failsTo = fld ctl 8 16 + 1) then
      match s.run n with
      | none => s
      | some r =>
        let t0 := r.vcoOf m.tick
        let firstOne := match r.stop with
          | some (2, t) => decide (t0 < t) || (decide (t0 = t) && (match r.trigger with
              | some (e2, _) => decide (e < e2) | none => true))
          | some (_, t) => decide (t0 < t)
          | none => true
        let s := s.requestStop n 2 t0
        if firstOne then s.modRun n fun r => { r with trigger := some (e, m.cyc) } else s
    else s

/-- The slot of a period: taken from the source, or the current slot reapplied; in double mode the current slot is the pair
(03 R72, R73). DESIGN CHOICE (log entry 63): a pair is what double-mode periods have taken, so after slots taken in standard mode the
pair reapplied is the last one taken in double mode, X where there was none. -/
def State.slotFor (s : State) (r : Run) (e : Nat) (o : Own) (second : Bool) : Taken :=
  let x := s.e e
  if o.takes then
    match s.takeSlot e r.div (r.start + x.pos * r.div / 256) second with
    | .slot v t =>
      .slot v (t.modE e fun y => { y with cur := v, pair0 := if o.double && !second then v else y.pair0,
                                          pair1 := if o.double && second then v else y.pair1 })
    | other => other
  else .slot (if o.double then (if second then x.pair1 else x.pair0) else x.cur) s

/-- What follows a period's beginning: its strobe's fail, and the marker record of a MARK in the first period it owns (03 R82, R92). -/
def State.afterBegin (s : State) (n : Nat) (r : Run) (e : Nat) (o : Own) (before : Engine) (placed : Bool) : State :=
  let s := if placed then (match (s.e e).samples.getLast? with | some m => s.postFail n e m | none => s) else s
  if wOp o.word = 0x0F ∧ (o.double = false ∨ o.left = 2) then
    s.enterRec (e / 32) (s.marker n r e o.addr before.cyc (before.pos / 256) (fld o.word 0 16)) (s.stampVco (r.vcoAt (before.pos / 256)))
  else s

/-- The next period of the word that owns it begins: an invalid timing set and an uncorrectable slot that is taken are sequence errors
(02 R56, 03 R91, R101); with no slot to take the engine waits at its boundary (05 R458). -/
def State.beginPeriod (s : State) (n : Nat) (r : Run) (e : Nat) (o : Own) (obs : Obs) : State :=
  let x := s.e e
  let second := o.double && decide (o.left % 2 = 1)
  if !s.tsValid e x.ts then
    let c := r.vcoAt (x.pos / 256)
    let s := s.modE e fun y => { y with badTs := x.ts, badValid := true, badCheck := 0 }
    (s.raiseAt 0x1021 [itEng e, it1 x.ts] (s.stampVco c)).seqError n r e 0x0D x.pc
  else
    match s.slotFor r e o second with
    | .short => s
    | .error c reached =>
      if reached then
        (s.modE e fun y => { y with ecc := satAdd 16 y.ecc obs.corr.toNat }).seqError n r e (if obs.unc then 0x0C else c) o.addr
      else s.seqError n r e c o.addr
    | .slot v t =>
      let u := if o.takes then t.modE e fun y => { y with ecc := satAdd 16 y.ecc obs.corr.toNat } else t
      if o.takes && obs.unc then u.seqError n r e 0x0C o.addr
      else
        let flag10 := r.resumedCyc && decide (x.afterStall < 64)
        let w := u.applySlot e o second v obs flag10
        w.afterBegin n r e o x (decide ((w.e e).samples.length ≠ (u.e e).samples.length))

/-- The counters of an engine as a CNT still in its first period will leave them (03 R94). -/
def State.countersOf (s : State) (e : Nat) (x : Engine) (k : Nat) : Nat :=
  match x.cntWrite with
  | some (j, v) => if j = k then v else s.counter e k
  | none => s.counter e k

/-- A loop or branch word that an engine reaches has been left one way or the other: what a BFL or an ENDM decides, for a judgement that
looks ahead of it. Where its decision tick has come, its condition does; else a free value, since no rule says what is assumed of a
decision still to come (05 R148; log entry 28). -/
def State.lookAhead (s : State) (r : Run) (e : Nat) (o : Own) (x : Engine) : Engine :=
  let due := decide (r.vcoAt (decisionTick x.pos) ≤ s.vco)
  match wOp o.word with
  | 0x09 =>
    if due then endBfl r e o x
    else { x with next := if Config.branchAhead e o.addr s.tim.tick then fld o.word 0 14 else o.addr + 1 }
  | 0x0B =>
    match x.body with
    | none => x
    | some b =>
      let met := if due then !failIn r.mfails (b.win.getD 0) (decisionTick x.pos) (fun k => if b.site then decide (k < 1024) || !r.flagV1 else k == e)
        else Config.branchAhead e o.addr s.tim.tick
      if !met && decide (b.iters + 1 < b.limit) then { x with next := b.body, body := some { b with iters := b.iters + 1 } }
      else { x with next := o.addr + 1, body := none }
  | 0x0D => { x with ts := x.tsNext.getD x.ts, tsNext := none }
  | 0x0E => { x with src := x.srcNext.getD x.src, srcNext := none }
  | _ => x

/-- What the periods from an engine's boundary up to a limit in fine steps take of a source, slot by slot: true where the slot takes a map
queue entry of its own, as that of a period in standard mode and the first of a pair do. Each period under its own timing set, a CNT's
result read by the words after it; none past a barrier or the end of the program (06 R189, 05 R148, R458, 08 R247). `c` reads the
counters. -/
def State.takings (s : State) (r : Run) (e src limit : Nat) : Nat → (Nat → Nat) → Engine → List Bool
  | 0, _, _ => []
  | fuel + 1, c, x =>
    if limit ≤ x.pos then []
    else match x.own with
      | some o =>
        if o.left = 0 then
          (if wOp o.word = 0x0C then [] else s.takings r e src limit fuel c { s.lookAhead r e o x with own := none })
        else
          let rest := s.takings r e src limit fuel c { x with own := some { o with left := o.left - 1 },
                                                              pos := x.pos + s.periodLen e x.ts o.double }
          if o.takes && decide (x.src = src) then (!(o.double && decide (o.left % 2 = 1))) :: rest else rest
      | none =>
        let w := x.memAt (4 * x.next) 4
        if s.seqBytes e ≤ 4 * x.next ∨ wKnown w = false ∨ wBad w = true ∨ (flowError x w).isSome = true ∨ wOp w = 0x11 then []
        else
          let dbl := s.tsDouble e x.ts
          let (k, takes, masked) := ownsOf c w
          let y := wordEffect (countOf c w) (c (fld w 17 3)) (c (fld w 0 3)) w x.next x
          let c' : Nat → Nat := match y.cntWrite with
            | some (j, v) => if wOp w = 0x10 then (fun i => if i = j then v else c i) else c
            | none => c
          s.takings r e src limit fuel c' { y with own := some { word := w, addr := x.next, left := if dbl then 2 * k else k,
                                                                 takes := takes, masked := masked, double := dbl } }

/-- Slots and map queue entries that those periods need. -/
def State.needs (s : State) (r : Run) (e src limit fuel : Nat) (x : Engine) : Nat × Nat :=
  let l := s.takings r e src limit fuel (s.countersOf e x) x
  (l.length, (l.filter id).length)

/-- Steps enough for the periods up to a limit: a period lasts at least 128 fine steps, and a word takes three. -/
def needsFuel (limit : Nat) (x : Engine) : Nat := 3 * (limit - x.pos) / 128 + 4

/-- The time up to which the judgement of a stall request looks, in fine steps of the engine's boundaries: periods that begin before
tick 12 + Q; where the site is stalled or the engine waits at a barrier, those of the first four ticks after the resume or the release
(05 R148, R458). -/
def State.judgedTo (s : State) (r : Run) (e : Nat) : Nat :=
  let x := s.e e
  if x.seq = 2 then x.pos + 4 * 256
  else match r.stall with
    | some st => if st.frozen then (r.tickAt st.freeze + 4) * 256 else r.tickAt (s.siteTick r + 12 * r.div + 4 * r.lead) * 256
    | none => r.tickAt (s.siteTick r + 12 * r.div + 4 * r.lead) * 256

/-- Slots and entries that the periods judged need of a source. -/
def State.judged (s : State) (r : Run) (e src : Nat) : Nat × Nat :=
  s.needs r e src (s.judgedTo r e) (needsFuel (s.judgedTo r e) (s.e e)) (s.e e)

/-- The source of a stall request: the engine's current source, or, while that is LOCAL, the source to which a SRC word changes
it for a period that begins before tick 12 + Q; LOCAL itself never asks. DEDUCED (05 R148, 06 R190; log entry 28). -/
def State.askingSource (s : State) (r : Run) (e : Nat) : Nat :=
  let x := s.e e
  if x.src ≠ 0 then x.src
  else if (s.judged r e 1).1 ≠ 0 then 1
  else if (s.judged r e 2).1 ≠ 0 then 2
  else 0

/-- Map queue entries held that an engine has not passed (08 R247). -/
def State.entriesHeld (s : State) (e : Nat) : Nat :=
  let p := s.p (e / 32)
  p.mqBase + p.mq.length - max (s.v e).mqPos p.mqBase

/-- The source will not supply every slot, or its map queue every entry, that the periods judged need (05 R148, R458, 08 R246, R251). -/
def State.sourceShort (s : State) (r : Run) (e src : Nat) : Bool :=
  let need := s.judged r e src
  if src = 1 then decide ((s.v e).ring.untaken < need.1)
  else
    let held := if s.pclLevel (e / 32) ≠ s.pwr.fabLevel then 0
      else ((s.v e).buf.filter (fun b => b.supplied r.div s.vco)).length
    decide (held < need.1) || (s.masked e && decide (s.entriesHeld e < need.2))

/-- The engine asks for a stall: it has a source that is short (05 R148, R458). -/
def State.asks (s : State) (r : Run) (e : Nat) : Bool :=
  let x := s.e e
  decide (1 ≤ x.seq) && decide (x.seq ≤ 3) && decide (s.askingSource r e ≠ 0) && s.sourceShort r e (s.askingSource r e)

end Sys2Proof.Machine
end

