-- ==== Sys2Proof/Machine/Stream.lean ====
section
/-! DEFINITION. Deep vector memory contents and streams (06): blocks with their check values, the streamer's packets, flushes and
restarts of the rings, the CQ's two producers, and the FQ. -/

namespace Sys2Proof.Machine

/-- The queue a stream feeds. -/
def streamKind : StreamId → QueueKind
  | .engine e => .vq (e.toNat % 32)
  | .cq _ => .cq

/-- The parcel of a stream. -/
def streamParcel : StreamId → Nat
  | .engine e => e.toNat / 32
  | .cq p => p.toNat

/-- The ring of a stream, and its size in words. -/
def State.sring (s : State) : StreamId → VRing
  | .engine e => (s.v e.toNat).ring
  | .cq p => (s.p p.toNat).cq
def State.swords (s : State) : StreamId → Nat
  | .engine e => s.ringWords e.toNat
  | .cq _ => 1024
def State.setSring (s : State) (q : StreamId) (r : VRing) : State :=
  match q with
  | .engine e => s.modV e.toNat fun v => { v with ring := r }
  | .cq p => s.modP p.toNat fun x => { x with cq := r }

/-- Queue and engine items of a stream's events (06 R188). -/
def queueItems : StreamId → List Item
  | .engine e => [it1 (e.toNat / 32), it1 0, itEng e.toNat]
  | .cq p => [it1 p.toNat, it1 1, itEng 0xFFFF]

/-- A stream enters ERROR: STREAM_DATA_ERROR with cause, seq, DVM address and hop (06 R193). -/
def State.streamError (s : State) (q : StreamId) (cause seq addr : Nat) : State :=
  let r := s.sring q
  let hop := if cause = 2 then 3 else if cause = 1 then 0 else 4
  (s.setSring q { r with st := 3, err := cause, waitRetry := false, blocked := false }).raise 0x1041
    (queueItems q ++ [it1 cause, it2 seq, it8 addr, it1 hop])

/-- The words of the packet at the fetch position. -/
def State.packetAt (s : State) (r : VRing) : List Nat :=
  let w := r.base / 8 + r.pos
  let n := hdrLen (s.dvm.word w) + 2
  (List.range n).map (fun i => s.dvm.word (w + i))

/-- The blocks of the memory that hold n words from the fetch position on. -/
def packetBlocks (r : VRing) (n : Nat) : List Nat :=
  let a := r.base + 8 * r.pos
  (List.range ((a + 8 * n - 1) / 4096 - a / 4096 + 1)).map (· + a / 4096)

/-- A packet with a bit changed on its way into the ring. -/
def corruptPacket (c : Bool) (ws : List Nat) : List Nat :=
  if c then ws.dropLast ++ [Nat.xor (ws.getLastD 0) 1] else ws

/-- CQ registers of a parcel (06 R200). -/
def State.cqEn (s : State) (p : Nat) : Bool := (s.reg (parBase p + 0x22000)).testBit 0
def State.cqSrc (s : State) (p : Nat) : Bool := (s.reg (parBase p + 0x22000)).testBit 1

/-- A stream has a streamer: an engine's always, a CQ's with src = 1 (06 R197). -/
def State.streamed (s : State) : StreamId → Bool
  | .engine _ => true
  | .cq p => s.cqSrc p.toNat

/-- The streamer fetches the packet at its position and writes it into the ring once it fits; a block that fails is read once more
(06 R186, R192, R193). -/
def streamFetch (q : StreamId) (x : Ecc) (corrupt : Bool) (s : State) : State :=
  let r := s.sring q
  let p := streamParcel q
  if r.st ≠ 1 ∨ s.streamed q = false ∨ s.dvm.ready = false ∨ s.parcelOn p = false ∨ s.parcelsClocked = false then s
  else if r.pos = r.blocks * 512 then s.setSring q { r with st := 2 }
  else
    let s := s.dvmEcc x
    let h := s.dvm.word (r.base / 8 + r.pos)
    let addr := r.base + 8 * r.pos
    let n := hdrLen h + 2
    let whole := decide (r.pos + n ≤ r.blocks * 512) && decide (n ≤ s.swords q)
    let bad := if s.dvm.blockFails x (addr / 4096) then some (addr / 4096)
      else if whole then (packetBlocks r n).find? (s.dvm.blockFails x) else none
    if bad.isSome then
      (if r.blockBad = bad then s.streamError q 2 (hdrSeq h) addr else s.setSring q { r with blockBad := bad })
    else if r.blocks * 512 < r.pos + n then s.streamError q 5 (hdrSeq h) addr
    else if s.swords q < n then s.streamError q 4 (hdrSeq h) addr
    else if s.swords q < n + r.q.length then s.setSring q { r with blocked := true, blockBad := none }
    else
      let (ok, t) := VRing.write s.vco (s.tickEnd p) (streamKind q) (corruptPacket corrupt (s.packetAt r)) { r with blockBad := none }
      if ok then
        let pos := r.pos + n
        let st := if hdrType h = 2 ∨ pos = r.blocks * 512 then 2 else 1
        s.setSring q { t with pos := pos, retries := 0, waitRetry := false, st := st }
      else
        let s := (s.setSring q { t with retries := r.retries + 1, waitRetry := true }).raise 0x1040
          (queueItems q ++ [it2 (hdrSeq h)])
        if r.retries = 3 then s.streamError q 3 (hdrSeq h) addr else s

/-- STREAM_PACKET (06 R192): not while a retry is pending. -/
def execStreamPacket (q : StreamId) (ecc : Ecc) (corrupt : Bool) (s : State) : Host.Outcome State Fault Refusal :=
  if (s.sring q).waitRetry then answer s else answer (streamFetch q ecc corrupt s)

/-- STREAM_RETRY (06 R193): the rewound packet is read and written again. -/
def execStreamRetry (q : StreamId) (ecc : Ecc) (corrupt : Bool) (s : State) : Host.Outcome State Fault Refusal :=
  if (s.sring q).waitRetry then answer (streamFetch q ecc corrupt s) else answer s

/-- The length of the packet a pending retry would write, skipped by a flush (06 R189). -/
def State.retryWords (s : State) (r : VRing) : Nat := hdrLen (s.dvm.word (r.base / 8 + r.pos)) + 2

/-- The slots reserved for an engine at a flush: those of periods whose start is fixed and lies before the current tick + 12 t + Q, and
before the freeze of a stall that is asked for; none at a barrier (06 R189, 05 R148). -/
def State.reservedSlots (s : State) (e : Nat) : Nat :=
  match s.siteOf e with
  | none => 0
  | some n =>
    match s.run n with
    | none => 0
    | some r =>
      let x := s.e e
      let fixed := (decide (r.phase = .running) && decide (x.seq = 1)) || decide (r.phase = .committed)
      if !fixed then 0
      else
        let ahead := s.vco + 12 * r.div + 4 * r.lead
        let upTo := match r.stall with | some st => min ahead st.freeze | none => ahead
        let limit := r.tickAt upTo * 256
        (s.needs r e 1 limit (needsFuel limit x) x).1

/-- VQ_FLUSH: a host qflush of an engine ring (06 R189). -/
def vqFlush (e : Nat) (s : State) : State :=
  let r := (s.v e).ring
  let t := r.flush (s.reservedSlots e) (s.retryWords r)
  let s := s.modV e fun v => { v with ring := { t with flushes := satAdd 8 t.flushes 1 } }
  s.raise 0x1042 [it1 (e / 32), it1 0, itEng e, it4 (r.q.length - t.q.length)]

def execVqFlush (e : EngineNo) (s : State) : Host.Outcome State Fault Refusal :=
  answer (s.hostAccess fun s => s.toParcel (e.toNat / 32) (engBase e.toNat + 0x234) (vqFlush e.toNat))

/-- REG_WRITE_IN_RUN: the engine, or 0xFFFF where the register is not an engine's own, and the offset (01 R27). -/
def State.writeInRun (s : State) (eng off : Nat) : State := s.raise 0x1001 [itEng eng, it4 off]

/-- A ring flushed without an event and its stream bound afresh: ACTIVE, IDLE or ERROR with cause 1 (06 R191). `off` is the
offset of the binding registers. -/
def bindStream (s : State) (q : StreamId) (en : Bool) (base blocks : Nat) : State :=
  let n := s.swords q
  let r := s.sring q
  let f := r.flush 0 0
  let valid := decide (blocks ≠ 0) && s.dvm.within (streamParcel q) base (blocks * 4096)
  let t : VRing := { rd := (f.rd + f.q.length) % max n 1, base := base, blocks := blocks, seqNo := f.seqNo, err := r.err }
  if !en then s.setSring q t
  else if valid then s.setSring q { t with st := 1 }
  else (s.setSring q t).streamError q 1 0 base

/-- A restart of an engine's stream on the binding its registers hold (06 R191). -/
def State.restartStream (s : State) (e : Nat) : State :=
  bindStream s (.engine (BitVec.ofNat 10 e)) ((s.ereg e 0x220).testBit 0)
    ((s.ereg e 0x224) + 2 ^ 32 * fld (s.ereg e 0x228) 0 3) (fld (s.ereg e 0x22C) 0 24)

/-- STREAM_RESTART: ignored while the engine's site has a run active (06 R191). -/
def streamRestart (e : Nat) (s : State) : State :=
  if s.engActive e then s.writeInRun e (engBase e + 0x234) else s.restartStream e

def execStreamRestart (e : EngineNo) (s : State) : Host.Outcome State Fault Refusal :=
  answer (s.hostAccess fun s => s.toParcel (e.toNat / 32) (engBase e.toNat + 0x234) (streamRestart e.toNat))

/-- The CQ_PUSH of a parcel completes (06 R197). -/
def State.pushDone (s : State) (p : Nat) (u : Push) (status cause seq : Nat) : State :=
  let s := s.modP p fun x => { x with push := none }
  s.finish u.desc { status := status, cause := cause, hop := if status = 0x0B then 1 else if cause = 3 then 4 else 0,
                    block := match u.bad with | some b => b.1 | none => 0xFFFFFFFF, result := leBytes 2 u.last ++ leBytes 2 seq }

/-- Nothing more is to be written: the end of the data, or a zero word where a header is expected (06 R197). -/
def pushOver (ws : List Nat) : Bool := ws.headD 0 == 0

/-- A push with nothing more to write completes, with the block that failed on entry if one did (06 R197, 12 R360). -/
def State.pushCheck (s : State) (p : Nat) : State :=
  match (s.p p).push with
  | none => s
  | some u => if pushOver u.words then s.pushDone p u (match u.bad with | some b => b.2 | none => 0) 0 0 else s

/-- The push of a parcel gives up a packet that was to be written again: it goes on with the one after it (06 R189). -/
def Push.abandon (u : Push) : Push :=
  if u.retries = 0 then u else { u with words := u.words.drop (hdrLen (u.words.headD 0) + 2), retries := 0 }

/-- CQ_FLUSH: a host qflush of the CQ keeps nothing, and its producer abandons a pending retry (06 R189). -/
def cqFlush (p : Nat) (s : State) : State :=
  let r := (s.p p).cq
  let t := r.flush 0 (s.retryWords r)
  let s := s.modP p fun x => { x with cq := { t with rd := (r.rd + r.q.length) % 1024, flushes := satAdd 8 t.flushes 1 },
                                      push := x.push.map Push.abandon }
  (s.raise 0x1042 [it1 p, it1 1, itEng 0xFFFF, it4 r.q.length]).pushCheck p

def execCqFlush (p : ParcelNo) (s : State) : Host.Outcome State Fault Refusal := answer (s.hostAccess fun s => s.toParcel p.toNat (parBase p.toNat + 0x22010) (cqFlush p.toNat))

/-- CQ_RESTART: with src = 1 as a stream's; with src = 0 the CQ is emptied and ACTIVE or IDLE, and a packet that was to be pushed again is
abandoned (06 R189, R191, R197). -/
def cqRestart (p : Nat) (s : State) : State :=
  if s.parActive p then s.writeInRun 0xFFFF (parBase p + 0x22010)
  else if s.cqSrc p then
    bindStream s (.cq (BitVec.ofNat 5 p)) (s.cqEn p)
      (s.reg (parBase p + 0x22004) + 2 ^ 32 * s.regF (parBase p + 0x22008) 0 3) (s.regF (parBase p + 0x2200C) 0 24)
  else
    let r := (s.p p).cq
    (s.modP p fun x =>
      { x with push := x.push.map Push.abandon,
               cq := { rd := (r.rd + r.q.length) % 1024, st := if s.cqEn p then 1 else 0, seqNo := r.seqNo, err := r.err } }).pushCheck p

def execCqRestart (p : ParcelNo) (s : State) : Host.Outcome State Fault Refusal := answer (s.hostAccess fun s => s.toParcel p.toNat (parBase p.toNat + 0x22010) (cqRestart p.toNat))

/-- Words the FQ holds (06 R200). -/
def Par.fqLevel (x : Par) : Nat := x.fq.level

/-- The records of the REC packets in a list of words (06 R183). `fuel` bounds the packets. -/
def recordsIn : Nat → List Nat → Nat
  | 0, _ => 0
  | _, [] => 0
  | fuel + 1, h :: ws => hdrLen h / 4 + recordsIn fuel (ws.drop (hdrLen h + 1))

/-- Records of the FQ that are not yet written to the event ring. -/
def Par.fqRecords (x : Par) : Nat := recordsIn x.fq.level x.fq.q - x.fqDone

/-- FQ_FLUSH: the FQ's records are discarded and counted, and QUEUE_FLUSHED is raised; the first record written after it is a RECORD_LOSS
with the count (06 R189, R198). -/
def fqFlush (p : Nat) (s : State) : State :=
  if s.parActive p then s.writeInRun 0xFFFF (parBase p + 0x22020)
  else
    let x := s.p p
    let n := x.fqRecords
    let due := match x.fqLoss with | some (k, t) => (k + n, t) | none => (n, s.stampNow)
    (s.setP p { x with fq := { x.fq.flush 0 0 with rd := (x.fq.rd + x.fqLevel) % 4096 }, fqDone := 0,
                       fqDiscard := satAdd 16 x.fqDiscard n, fqLoss := some due }).raise 0x1042
      [it1 p, it1 2, itEng 0xFFFF, it4 x.fqLevel]

def execFqFlush (p : ParcelNo) (s : State) : Host.Outcome State Fault Refusal := answer (s.hostAccess fun s => s.toParcel p.toNat (parBase p.toNat + 0x22020) (fqFlush p.toNat))

/-- The place of an engine's ring in its parcel's VQ: base and size in 64-word units (06 R185). -/
def State.ringLay (s : State) (e : Nat) : Nat × Nat := (s.ringBase64 (e / 32) (e % 32), s.ringUnitsEff e)

/-- The engines of a parcel whose ring moves or changes size between two register contents (06 R185). -/
def movedRings (s t : State) (p : Nat) : List Nat :=
  ((List.range 32).map (· + 32 * p)).filter (fun e => s.ringLay e ≠ t.ringLay e)

/-- Rings that move are emptied and their streams become IDLE, with no event and no count (06 R185, R189). -/
def State.clearRings (t : State) (es : List Nat) : State :=
  t.each es fun t e => t.modV e fun q =>
    { q with ring := { rewinds := q.ring.rewinds, flushes := q.ring.flushes, seqNo := q.ring.seqNo, err := q.ring.err,
                       base := q.ring.base, blocks := q.ring.blocks, pos := q.ring.pos } }

/-- RING_UNITS_WRITE: PCL_STR_CTL of an engine. A changed ring_units re-lays the VQ; rings whose base or size changes are flushed
and their streams become IDLE; ignored where that would touch an engine whose site runs (06 R185, R199). -/
def ringUnitsWrite (e v : Nat) (s : State) : State :=
  let off := engBase e + 0x220
  let t := s.setReg off (v &&& 0xFF01)
  let hit := movedRings s t (e / 32)
  if s.engActive e || hit.any s.engActive then s.writeInRun e off else t.clearRings hit

def execRingUnitsWrite (e : EngineNo) (value : Word) (s : State) : Host.Outcome State Fault Refusal :=
  answer (s.hostAccess fun s => s.toParcel (e.toNat / 32) (engBase e.toNat + 0x220) (ringUnitsWrite e.toNat value.toNat))

/-- The first block of host data that fails on entry: its index, and the status 0x0B with hop 1 for a wrong check value, 0x0E for
a read that the host refused (12 R360, R366). -/
def badBlock : Nat → List HostBlock → Option (Nat × Nat)
  | _, [] => none
  | i, b :: bs =>
    if b.err.any (fun e => e.1 ≠ 0) then some (i, 0x0E)
    else if crc32c b.data ≠ b.check then some (i, 0x0B)
    else badBlock (i + 1) bs

/-- The completion of a descriptor whose block fails on entry. -/
def blockDone (p : Nat × Nat) : Done := { status := p.2, hop := if p.2 = 0x0B then 1 else 0, block := p.1 }

/-- The link errors that came with the blocks read are reported: those of every block up to the first bad one (12 R366). -/
def State.blockError (s : State) (bs : List HostBlock) : State :=
  let n := match badBlock 0 bs with | some (k, _) => k + 1 | none => bs.length
  ((bs.take n).filterMap (·.err)).foldl (fun s e => s.pcieError e.1 e.2) s

/-- A descriptor ends at the first block that fails on entry (12 R360, R366). -/
def State.blockFail (s : State) (i : DescId) (bs : List HostBlock) (p : Nat × Nat) : State := (s.blockError bs).finish i (blockDone p)

/-- The 64-bit words of bytes. -/
def bytesWords : Nat → List Byte → List Nat
  | 0, _ => []
  | n + 1, bs => leNat (bs.take 8) :: bytesWords n (bs.drop 8)

/-- CQ_PUSH: it waits for one in progress on its parcel (12 R355), and is refused unless the host feeds an ACTIVE CQ; the words of the blocks before the first bad one are then pushed
(06 R197, 12 R360). -/
def execCqPush (d : DescRef) (p : ParcelNo) (blocks : List HostBlock) (s : State) : Host.Outcome State Fault Refusal :=
  if !blocks.all HostBlock.wellFormed then .fault .illFormed
  else
    let k := p.toNat
    answer (s.runChecked (descId d 0x04) (rowFields (.cqPush d p blocks)) false (malformedCause false false blocks.isEmpty)
      (s.p k).push.isSome fun i s =>
      if !s.parcelOn k then s.finish i { status := 1, cause := 1 }
      else if s.cqSrc k || decide ((s.p k).cq.st ≠ 1) then s.finish i { status := 1 }
      else
        let good := match badBlock 0 blocks with | some (n, _) => blocks.take n | none => blocks
        let ws := bytesWords (512 * good.length) (good.flatMap HostBlock.data)
        let u : Push := { desc := i, words := ws, bad := badBlock 0 blocks }
        ((s.blockError blocks).modP k fun x => { x with push := some u }).pushCheck k)

/-- CQ_PUSH_PACKET: the next pushed packet is written once it fits; a rewound one is sent again up to three times (06 R197). -/
def cqPushPacket (p : Nat) (corrupt : Bool) (s : State) : State :=
  match (s.p p).push with
  | none => s
  | some u =>
    let h := u.words.headD 0
    let n := hdrLen h + 2
    let r := (s.p p).cq
    if pushOver u.words then s.pushCheck p
    else if 1024 < n then s.pushDone p u 2 4 (hdrSeq h)
    else if u.words.length < n then
      (match u.bad with | some b => s.pushDone p u b.2 0 (hdrSeq h) | none => s.pushDone p u 2 5 (hdrSeq h))
    else if 1024 < n + r.q.length then s.modP p fun x => { x with cq := { x.cq with blocked := true } }
    else
      let (ok, t) := VRing.write s.vco (s.tickEnd p) .cq (corruptPacket corrupt (u.words.take n)) r
      if ok then
        let t := { t with st := if hdrType h = 2 then 2 else t.st }
        let s := s.modP p fun x =>
          { x with cq := t, push := some { u with words := u.words.drop n, retries := 0, last := hdrSeq h } }
        s.pushCheck p
      else
        let s := (s.modP p fun x => { x with cq := t, push := some { u with retries := u.retries + 1 } }).raise 0x1040
          [it1 p, it1 1, itEng 0xFFFF, it2 (hdrSeq h)]
        if u.retries = 3 then s.pushDone p u 2 3 (hdrSeq h) else s

def execCqPushPacket (p : ParcelNo) (corrupt : Bool) (s : State) : Host.Outcome State Fault Refusal :=
  answer (cqPushPacket p.toNat corrupt s)

/-- Packets without payload at the read position are passed over: they present nothing (08 R249). `fuel` bounds them. -/
def VRing.cqSkip (now : Nat) : Nat → VRing → VRing
  | 0, r => r
  | fuel + 1, r =>
    if r.inPkt || !r.seen now then r
    else
      let h := r.q.headD 0
      if hdrType h = 0x10 ∧ hdrLen h = 0 then VRing.cqSkip now fuel (r.release 1024 2) else r

/-- The CQ with the packet open whose words it presents next; at a VEND it presents none (08 R249). -/
def VRing.cqHead (now : Nat) (r : VRing) : VRing :=
  let t := r.cqSkip now r.q.length
  if t.inPkt || !t.seen now || decide (hdrType (t.q.headD 0) ≠ 0x10) then t
  else { t with inPkt := true, hdrIn := true, left := hdrLen (t.q.headD 0) }

/-- The CQ word presented to the fabric, if any, PP_CQ_D (08 R248, R249). -/
def VRing.cqWord (now : Nat) (r : VRing) : Option Nat :=
  let t := r.cqHead now
  if t.inPkt then t.q[if t.hdrIn then 1 else 0]? else none

/-- PP_CQ_FIRST and PP_CQ_LAST of the word presented (08 R248). -/
def VRing.cqFirst (now : Nat) (r : VRing) : Bool := (r.cqWord now).isSome && (r.cqHead now).hdrIn
def VRing.cqLast (now : Nat) (r : VRing) : Bool := (r.cqWord now).isSome && decide ((r.cqHead now).left = 1)

/-- PP_CQ_END: a VEND has been reached (08 R248, R249). -/
def VRing.cqEnd (now : Nat) (r : VRing) : Bool :=
  let t := r.cqHead now
  !t.inPkt && t.seen now && decide (hdrType (t.q.headD 0) = 2)

/-- CQ_READ: at a net-0 edge the fabric takes the word presented there, one in an edge; the header is released with the first and the
trailer with the last. While GSR holds or ports are off, PP_CQ_RD does not reach the parcel (06 R186, 08 R242, R249). -/
def cqRead (p : Nat) (s : State) : State :=
  let x := s.p p
  let t := x.cq.cqHead s.netEdge
  if !s.portsOpen p || x.cqShow.isNone || (x.cq.cqWord s.netEdge).isNone || decide (x.cqAt = some s.netEdge) then s
  else
    let last := decide (t.left = 1)
    let k := (if t.hdrIn then 2 else 1) + (if last then 1 else 0)
    let u := VRing.release 1024 k { t with left := t.left - 1, hdrIn := false }
    s.modP p fun x => { x with cq := { u with inPkt := u.inPkt && !last }, cqAt := some s.netEdge }

def execCqRead (p : ParcelNo) (s : State) : Host.Outcome State Fault Refusal := answer (cqRead p.toNat s)

/-- A spill block is read back, twice where it fails. Its records then lead those of the parcel; of a block lost, a RECORD_LOSS record
takes their place (04 R123, 06 R177, R178). DESIGN CHOICE (log entry 18): that record carries the time and cycle count of the reading. -/
def State.readSpill (s : State) (p : Nat) (ecc retry : Option Ecc) : State :=
  let f := s.f p
  let b := s.spillBlock p 0
  let look (x : Option Ecc) (s : State) : Bool × State :=
    match x with
    | some c => (s.dvm.blockFails c b, s.dvmEcc c)
    | none => (!s.dvm.blockOk b, s)
  let (bad1, s1) := look ecc s
  let (bad2, s2) := if bad1 then look retry s1 else (false, s1)
  let left := { f with spillAt := (f.spillAt + 1) % max 1 ((s.dvm.parts.get (fun _ => (0, 0)) (32 + p)).2 * 4096), spillN := f.spillN - 1 }
  if !bad2 then s2.setF p { left with drain := f.drain ++ blockRecords (s.dvm.block b) }
  else
    let t := s2.setF p { left with lossCnt := satAdd 32 f.lossCnt 128, logLoss := true, lossRaised := true,
                                   drain := f.drain ++ [s.unitRecord 5 p (s.unitCycle p) 128 s.stampNow] }
    if f.lossRaised then t else t.raise 0x1032 [it1 p]

/-- The records of the FQ's next packet: a RECORD_LOSS due after a flush, then the oldest records, of spill before those of the log,
at most 128 (04 R123, R132, 06 R198). -/
def State.nextPacket (s : State) (p : Nat) : List Rec :=
  let f := s.f p
  let lead := match (s.p p).fqLoss with
    | some (k, t) => [s.unitRecord 5 p 0 k t]
    | none => []
  if lead ≠ [] ∧ f.drain = [] ∧ f.spillN = 0 ∧ f.log = [] then []
  else (lead ++ f.drain ++ (if f.spillN = 0 then f.log else [])).take 128

/-- A REC packet: header, the records as words, and the trailer (06 R183). -/
def recPacket (seq : Nat) (recs : List Rec) : List Nat :=
  let payload := recs.flatMap (bytesWords 4)
  let ws := (payload.length + 0x20 * 2 ^ 16 + seq * 2 ^ 32) :: payload
  ws ++ [(crc32c (wordBytes ws)).toNat + seq * 2 ^ 32]

/-- FQ_PACKET_SEAL: the oldest records, at most 128, are sealed in a REC packet and written into the FQ once it fits; a bad
packet is rewound and built again (04 R132, 06 R186, R198). `ecc` and `retry` are the readings of a spill block. -/
def fqPacketSeal (p : Nat) (corrupt : Bool) (ecc retry : Option Ecc) (s : State) : State :=
  let more := decide ((s.f p).drain.length < 128) && decide ((s.f p).spillN ≠ 0)
  if (more && !s.dvm.ready) || !s.parcelsClocked || !s.parcelOn p then s
  else
    let s := if more then s.readSpill p ecc retry else s
    let x := s.p p
    let recs := s.nextPacket p
    if recs.isEmpty || decide (4096 < x.fqLevel + 4 * recs.length + 2) then s
    else
      let (ok, q) := VRing.write s.vco (s.tickEnd p) .fq (corruptPacket corrupt (recPacket x.fq.seqNo recs)) x.fq
      if !ok then (s.setP p { x with fq := q }).raise 0x1040 [it1 p, it1 2, itEng 0xFFFF, it2 x.fq.seqNo]
      else
        let n := recs.length - b2n x.fqLoss.isSome
        let f := s.f p
        let s := s.setF p { f with drain := f.drain.drop n, log := f.log.drop (n - f.drain.length) }
        (s.setP p { x with fq := q, fqLoss := none }).judgeLogFull p

def execFqPacketSeal (p : ParcelNo) (corrupt : Bool) (ecc retry : Option Ecc) (s : State) :
    Host.Outcome State Fault Refusal :=
  answer (fqPacketSeal p.toNat corrupt ecc retry s)

end Sys2Proof.Machine
end

