-- ==== Sys2Proof/Machine/Site.lean ====
section
/-! DEFINITION. Sites (05 R138 to R141): forming and dissolving them, the links of a site's route (05 R166, R167), the checks of
a run start (05 R144 with 01 R17, 02 R55, 03 R98, 04 R120, 08 R251), and how a start that has not committed ends. -/

namespace Sys2Proof.Machine

/-- The engine mask of parcel p on device d in a member block (05 R138). -/
def memberMask (b : List Byte) (d p : Nat) : Nat := leAt b (64 + 128 * d + 4 * p) 4

/-- The engines of device d in a member block, in number order (05 R138). -/
def blockEngines (b : List Byte) (d : Nat) : List Nat :=
  (List.range 32).flatMap fun p => (maskBits 32 (memberMask b d p)).map (fun i => 32 * p + i)

/-- The number of engines of each device in a member block. -/
def blockCounts (b : List Byte) : List Nat := (List.range 16).map (fun d => (blockEngines b d).length)

/-- A reserved byte of a member block is not 0 (05 R138). -/
def blockReserved (b : List Byte) : Bool :=
  decide (leAt b 2 1 / 2 ≠ 0) || ((b.take 64).drop 3).any (fun x => x ≠ 0) || (b.drop 2112).any (fun x => x ≠ 0)

/-- A link is up (05 R168). -/
def State.linkUp (s : State) (l : Nat) : Bool := decide ((s.link l).state = 5)

/-- Every link of a site's route is one of this device: a tree over the devices of the set has one link less than devices (05 R166). -/
def State.routeHere (s : State) (n : Nat) : Bool :=
  decide ((maskBits 16 (s.site n).devset).length ≤ (s.routeLinks n).length + 1)

/-- The control lead Q of a site in datum ticks: 0 on one device; otherwise the greatest sum of L + 160 over the hops of a path from the
leader, which goes by this device's link toward the leader and one of its others. Where the route has links of other devices, what they
add is a free value (05 R167; log entry 61). -/
def State.leadQ (s : State) (n : Nat) (up : Option Nat) : Nat :=
  let hop (l : Nat) : Nat := (s.link l).lat + 160
  let rest := (s.routeLinks n).filter (fun l => decide (some l ≠ up))
  if !s.spans n then 0
  else (match up with | some l => hop l | none => 0) + listMax 0 (rest.map hop) + (if s.routeHere n then 0 else Config.farLead n)

/-- The leader of a site: the lowest-numbered device of the set with an engine of it (05 R140). -/
def Site.leader (x : Site) : Nat := ((maskBits 16 x.devset).filter (fun d => x.counts.getD d 0 ≠ 0)).headD 0

/-- SITE_FORM is refused (05 R139, 10 R317). -/
def State.formRefused (s : State) (n : Nat) (b : List Byte) : Bool :=
  let own := blockEngines b s.devNum
  let set := leAt b 0 2
  s.active n || own.any (fun e => (s.siteOf e).any (fun m => m ≠ n)) || !set.testBit s.devNum ||
    (decide (1 < (maskBits 16 set).length) && !([0, 1, 2, 3].any s.linkUp)) || own.any (fun e => !s.parcelOn (e / 32)) ||
    blockReserved b || s.cfg.load.isSome

/-- The engines of a site on the device replaced by those of a list; engines that leave go to the safe state (05 R139,
02 R61). -/
def State.setMembers (s : State) (n : Nat) (own : List Nat) : State :=
  let gone := (s.engines n).filter (fun e => !own.contains e)
  let s := s.each gone fun s e =>
    ({ s with member := s.member.set memberReset e none }).modE e Engine.toSafe
  s.each own fun s e => { s with member := s.member.set memberReset e (some n) }

/-- SITE_FORM's effect once its descriptor has started (05 R138, R139). -/
def siteForm (i : DescId) (n : Nat) (b : HostBlock) (s : State) : State :=
  match badBlock 0 [b] with
  | some p => s.blockFail i [b] p
  | none =>
    let s := s.blockError [b]
    if s.formRefused n b.data then s.finish i { status := 1 }
    else
      let x : Site := { formed := true, devset := leAt b.data 0 2, abort := (leAt b.data 2 1).testBit 0,
                        counts := blockCounts b.data }
      ((s.setSite n x).setMembers n (blockEngines b.data s.devNum)).finish i {}

/-- SITE_FORM (05 R139). -/
def execSiteForm (d : DescRef) (site : SiteNo) (block : HostBlock) (s : State) : Host.Outcome State Fault Refusal :=
  if !block.wellFormed then .fault .illFormed
  else answer (s.runDesc (descId d 0x12) (rowFields (.siteForm d site block)) false fun k => siteForm k site.toNat block)

/-- SITE_DISSOLVE: refused while the site has a run active or a start pending, which leaves it formed (05 R140). -/
def siteDissolve (i : DescId) (n : Nat) (s : State) : State :=
  if s.active n then s.finish i { status := 1 }
  else ((s.setMembers n []).setSite n {}).finish i {}

def execSiteDissolve (d : DescRef) (site : SiteNo) (s : State) : Host.Outcome State Fault Refusal :=
  answer (s.runDesc (descId d 0x13) (rowFields (.siteDissolve d site)) false fun k => siteDissolve k site.toNat)

/-- A timing set of an engine against checks 1 to 9, the first that fails (02 R55). -/
def State.tsCheck (s : State) (e n : Nat) : Option Nat :=
  let m := s.tsMode e n
  let dbl := m.testBit 3
  let fmt := m % 8
  let per := s.periodLen e n false
  let o (k : Nat) := s.edgeOff e n k
  let d1 := o 0x08
  let d2 := o 0x0C
  let d3 := o 0x10
  let uc := (List.range 5).map (fun i => s.regF (tsBase e n + 0x20) (6 * i) 6)
  if 4 < fmt then some 1
  else if !dbl && decide (2 ^ 32 < per) then some 2
  else if !dbl && [0x08, 0x0C, 0x10, 0x14, 0x18, 0x1C].any (fun k => decide (per ≤ o k)) then some 3
  else if !dbl && ((decide (d2 ≠ d1) && decide (d2 < d1 + 128)) || decide (d3 < d2 + 128)) then some 4
  else if !dbl && decide (fmt = 3) && decide (d2 < d1 + 128) then some 5
  else if !dbl && m.testBit 4 && decide (o 0x1C < o 0x18 + 64) then some 6
  else if dbl && ((decide (fmt ≠ 0) && decide (fmt ≠ 4)) || m.testBit 4) then some 7
  else if dbl && ([0x08, 0x0C, 0x18].any (fun k => decide (128 ≤ o k)) || [0x10, 0x14, 0x1C].any (fun k => decide (o k ≠ 0))) then
    some 8
  else if uc.any (fun u => decide (6 ≤ u % 8) || decide (6 ≤ u / 8)) then some 9
  else none

/-- The number of timing sets of an engine (02 R38). -/
def tsCount : Nat := 64

/-- The first failing timing check of an engine: check 10 first, then each valid set in number order (02 R55, 05 R144). -/
def State.tsFail (s : State) (e : Nat) : Option (Nat × Nat) :=
  if !s.tsValid e (s.startTs e) then some (s.startTs e, 10)
  else
    (List.range tsCount).findSome? fun n =>
      if s.tsValid e n then (s.tsCheck e n).map (fun c => (n, c)) else none

/-- PCL_SEQ_CTL.start_src and start_pc, and PCL_SEQ_LPTR (03 R105). -/
def State.startSrc (s : State) (e : Nat) : Nat := fld (s.ereg e 0) 4 2
def State.startPc (s : State) (e : Nat) : Nat := fld (s.ereg e 0) 8 14
def State.startLptr (s : State) (e : Nat) : Nat := fld (s.ereg e 4) 0 13

/-- The first failing sequencer check of an engine (03 R98). -/
def State.seqFail (s : State) (e : Nat) : Option Nat :=
  if s.seqBytes e ≤ 4 * s.startPc e then some 1
  else if s.startSrc e = 3 then some 2
  else if s.startSrc e = 0 ∧ localOk (s.seqBytes e) (8 * s.startLptr e) = false then some 3
  else none

/-- The first failing fail memory check of a parcel for a site; map_width 6 and 7 fail check 4 (04 R120, R135). -/
def State.fmFail (s : State) (n p : Nat) : Option Nat :=
  if 16 < s.capUnits p then some 1
  else if 31 < s.capUnits p + s.mapUnits p then some 2
  else if s.mapMode p && decide (s.mapUnits p = 0) then some 3
  else if s.mapMode p && ((s.engines n).filter (fun e => e / 32 = p)).any
      (fun e => decide (6 ≤ fld (s.fmCfg p) 24 3) || decide (s.mapWidth p ≤ fld (s.ereg e 0x104) 24 5)) then some 4
  else none

/-- Why a start is refused: a bare cause, or a failing check that is reported (05 R144). -/
inductive StartFail where
  | plain (cause : Nat)
  | timing (e ts check : Nat)
  | sequencer (e check : Nat)
  | failMem (p check : Nat)
deriving DecidableEq, Repr

/-- The refusal cause (05 R144). -/
def StartFail.cause : StartFail → Nat
  | .plain c => c
  | .timing .. => 4
  | .sequencer .. => 5
  | .failMem .. => 6

/-- Causes 0x03 to 0x06 for the site's engines on the device, in their order (05 R144). -/
def State.engineChecks (s : State) (n : Nat) : Option StartFail :=
  let es := s.engines n
  let ps := s.parcels n
  let lvl := ps.map s.pclLevel
  if lvl.any (fun l => decide (l ≠ lvl.headD 0)) ||
      es.any (fun e => decide (s.startSrc e = 2) && decide (s.pclLevel (e / 32) ≠ s.pwr.fabLevel)) then some (.plain 3)
  else
    ((es.findSome? fun e => (s.tsFail e).map (fun q => StartFail.timing e q.1 q.2)).or
      (es.findSome? fun e => (s.seqFail e).map (fun c => StartFail.sequencer e c))).or
      (ps.findSome? fun p => (s.fmFail n p).map (fun c => StartFail.failMem p c))

/-- The causes that apply to a start posted here (no `prep`) or asked for by a RUN_PREP, the first of the table. A RUN_PREP comes by a
link, and its sender's device set and stall policy agree with this device's or not (05 R138, R142, R144, R166, 10 R317). -/
def State.startFail (s : State) (n : Nat) (prep : Option (Nat × Bool)) : Option StartFail :=
  let x := s.site n
  let route := s.routeLinks n
  if !x.formed || decide (x.counts.sum = 0) || s.cfg.load.isSome then some (.plain 1)
  else if x.run.isSome then some (.plain 2)
  else match s.engineChecks n with
    | some f => some f
    | none =>
      if prep.any (fun q => !q.2) then some (.plain 7)
      else if (s.spans n && route.isEmpty) || prep.any (fun q => !s.holdsSlot q.1 n) then some (.plain 8)
      else if prep.isNone && decide (x.leader ≠ s.devNum) then some (.plain 0x0B)
      else if s.spans n && route.any (fun l => !s.linkUp l) then some (.plain 0x0C)
      else none

/-- The failing check is recorded and raised (02 R55, R66, 03 R98, 04 R120). -/
def State.reportFail (s : State) : StartFail → State
  | .plain _ => s
  | .timing e t c =>
    (s.modE e fun x => { x with badTs := t, badValid := true, badCheck := c }).raise 0x1020 [itEng e, it1 t, it1 c]
  | .sequencer e c => s.raise 0x1024 [itEng e, it1 c]
  | .failMem p c => s.raise 0x1035 [it1 p, it1 c]

/-- The start's estimate is no longer counted (15 R428). -/
def State.dropAdmit (s : State) (n : Nat) : State :=
  { s with pwr := { s.pwr with admitted := s.pwr.admitted.filter (fun a => a.site ≠ n) } }

/-- A parcel's map queue is emptied: engines attach the entries written from now on (08 R247, R250). -/
def State.emptyMq (s : State) (p : Nat) : State :=
  let base := (s.p p).mqBase + (s.p p).mq.length
  let s := s.modP p fun x => { x with mq := [], mqBase := base }
  s.each ((List.range 32).map (· + 32 * p)) fun s e => if (s.v e).mqPos < base ∧ s.siteOf e ≠ none then
    s.modV e (fun q => { q with mqPos := base }) else s

/-- The port and queue contents a run reset discards (05 R147, 06 R191, 08 R250). -/
def State.resetQueues (s : State) (n : Nat) : State :=
  let es := s.engines n
  let s := s.each es fun s e => (s.restartStream e).modV e fun q => { q with buf := [] }
  s.each (s.parcels n) fun s p =>
    let named := (List.range 32).filter (fun i => (s.reg (parBase p + 0x25004)).testBit i)
    if !named.isEmpty && named.all (fun i => s.siteOf (32 * p + i) == some n) then s.emptyMq p else s

/-- A run reset's steps after the stop, for the site's engines on the device (05 R147). -/
def State.resetSite (s : State) (n : Nat) : State :=
  (s.each (s.engines n) fun s e => s.modE e Engine.runReset).resetQueues n

/-- A stop of the site has taken effect on the device, or its start is cancelled: RUN_ABORTs, run resets and CHANNELS_LIVE
clears that waited for it complete (05 R146, R147, 02 R457). -/
def State.siteQuiet (s : State) (n : Nat) (aborts resets : List DescId) : State :=
  let s := aborts.foldl (fun s i => s.finish i {}) s
  let s := if resets.isEmpty then s else s.settleSite n
  let s := resets.foldl (fun s i => (s.resetSite n).finish i {}) s
  let upd := s.cfg.clearing.map (fun c => (c.1, c.2.filter (fun m => m ≠ n)))
  let s := { s with cfg := { s.cfg with clearing := upd.filter (fun c => !c.2.isEmpty) } }
  (upd.filter (fun c => c.2.isEmpty)).foldl (fun s c => s.finish c.1 {}) s

/-- RUN_OUT instances of a site change level at a datum tick (14 R399). -/
def State.setRunOut (s : State) (n : Nat) (on : Bool) (at_ : Nat) : State :=
  s.each [0, 1] fun s k =>
    let v := s.reg (0x700510 + 4 * k)
    let now := on && v.testBit 0
    if fld v 8 6 = n ∧ s.pins.runOut.get noFlag k ≠ now then
      { s with pins := { s.pins with runOut := s.pins.runOut.set noFlag k now, runOutAt := s.pins.runOutAt.set zeroNat k at_ } }
    else s

/-- A run is over on the device: transitions still to come stay, its parcels' per-run calibration state and overflow stretch end with the last run there, and map queue
entries that only its engines had not passed go (02 R64, 07 R208, 08 R245, R247). -/
def State.closeRun (s : State) (n : Nat) : State :=
  let s := match s.run n with | some r => s.keepEdges n r | none => s
  let s := (s.setRun n none).dropAdmit n
  s.each (s.parcels n) fun s p =>
    (s.modP p fun x => { x with uncal := x.uncal && s.parActive p, ovfRaised := x.ovfRaised && s.parActive p }).releaseMq p

/-- A start that has not committed ends on the device: its RUN_START completes as given (05 R142, R143, R146). -/
def State.endStart (s : State) (n : Nat) (d : Done) : State :=
  match s.run n with
  | none => s
  | some r =>
    let s := (s.setRun n none).dropAdmit n
    let s := match r.desc with | some i => s.finish i d | none => s
    (s.each (s.parcels n) State.releaseMq).siteQuiet n r.aborts r.resets

/-- A start that has not committed is cancelled: the leader sends CANCEL, another device REFUSE with cause 0x02 (05 R144,
R147). -/
def State.cancelStart (s : State) (n : Nat) : State :=
  match s.run n with
  | none => s
  | some r =>
    let s := if r.up.isNone then s.sendRoute n none 5 0 0 else s.sendUp n 3 2 0
    s.endStart n { status := 7 }

/-- An abort of whatever the site does: a committed run is stopped, a start that has not committed is cancelled (05 R146). -/
def State.abortSite (s : State) (n reason : Nat) : State :=
  match s.run n with
  | none => s
  | some r => if r.waiting then s.cancelStart n else s.abortNow n reason

end Sys2Proof.Machine
end

