-- ==== Sys2Proof/Machine/Boundary.lean ====
section
/-! DEFINITION. The boundaries of an engine's periods (02 R57, 03 R70): the end of a period, what may stop or freeze the engine there,
the next period or word, the stop of an engine, and the end of its site's run (03 R95, R100, 05 R145). -/

namespace Sys2Proof.Machine

/-- The end of the period in progress: the fail paths of the parcel's engines advance to it in their order, the cycle count advanced, a CNT's result written at the end of its
first period, and, with the owner's last period, what the owner decides (03 R93, 04 R121, 05 R153). -/
def State.closePeriod (s : State) (n : Nat) (r : Run) (e : Nat) : State :=
  if !(s.e e).inPeriod then s
  else
    let s := s.settle (fun k => decide (k / 32 = e / 32)) (r.start + (s.e e).pos * r.div / 256)
    let x := s.e e
    let s := s.setE e { x with inPeriod := false, cyc := x.cyc + 1, cntWrite := none,
                               edges := x.edges.filter (fun g => decide ((x.pos : Int) ≤ g.at_)) }
    let s := match x.cntWrite with
      | some (k, v) => (s.setReg (engBase e + 0x20 + 4 * k) v).modE e fun y => { y with z := decide (v = 0) }
      | none => s
    match x.own with
    | some o => if o.left = 0 then (match s.run n with | some r => s.finishWord n r e o | none => s) else s
    | none => s

/-- The engine stops after a sequence error in its site, at a time of the run in fine steps: its boundary, or, frozen or at a barrier, the
tick (03 R100). -/
def State.errorStop (s : State) (e at_ : Nat) : State :=
  s.modE e fun x => s.toStall e at_ { x with seq := 5, own := none, inPeriod := false, arrive := none, stopTick := at_ / 256 }

/-- An engine frozen by a site stall at its boundary (05 R148, 02 R62). -/
def State.freeze (s : State) (e : Nat) : State := s.modE e fun x => s.toStall e x.pos { x with seq := 3 }

/-- The engine reaches its boundary b after the resume of the stall it belongs to: it continues at b + Δ, from the stall-state
levels (05 R149, 02 R63). -/
def State.lateStall (s : State) (e : Nat) : State :=
  s.modE e fun x => { (s.toStall e x.pos x) with pos := x.pos + 256 * x.delay, delay := 0, stallCh := false, afterStall := 0 }

/-- What stands at the engine's boundary: it may begin its next period; it has been stopped or frozen there. -/
inductive AtBoundary where
  | go (r : Run)
  | held
deriving DecidableEq, Repr

/-- Whether the next period may begin at the engine's boundary: not when a stop takes effect by then (04 R115, R116, 05 R146), a
sequence error stops it, also one that its SYNC has just brought to a barrier (03 R100), or the boundary lies at or after a freeze
(05 R148). An engine that reaches its boundary b after the stall it belongs to is judged again at b + Δ, up to which it stands frozen
(03 R99). DESIGN CHOICE (log entry 63): a HALT that is next where a stall freezes the engine ends its run after the stall (03 R95). -/
def State.boundary (s : State) (n e : Nat) : State × AtBoundary :=
  match s.run n with
  | none => (s, .held)
  | some r =>
    let cyc (x : Engine) := r.start + x.pos * r.div / 256
    let stops (c : Nat) := r.stopAt.any (fun t => decide (t ≤ c))
    let errs (c : Nat) := r.errAt.any (fun t => decide (t ≤ c))
    let freezes (c : Nat) := r.stall.any (fun st => decide (st.freeze ≤ c))
    let x := s.e e
    if stops (cyc x) then (s, .held)
    else if errs (cyc x) && (decide (x.seq = 1) || decide (x.seq = 2)) then (s.errorStop e x.pos, .held)
    else if x.seq ≠ 1 then (s, .held)
    else
      let t := if x.delay = 0 then s else s.lateStall e
      let y := t.e e
      if stops (cyc y) then (t, .held)
      else if errs (cyc y) then (t.errorStop e (256 * r.tickAt (r.errAt.getD 0)), .held)
      else if freezes (cyc y) then (t.freeze e, .held)
      else (t, .go r)

/-- Every engine of a site on the device has stopped. -/
def State.allStopped (s : State) (n : Nat) : Bool :=
  (s.engines n).all (fun e => decide (4 ≤ (s.e e).seq))

/-- The measured increase of a run and its record; above 1.1 times the estimate it is reported (15 R429). -/
def State.lastRun (s : State) (n : Nat) (r : Run) : State :=
  let inc := r.pMax - r.pAdmit
  let s := { s with pwr := { s.pwr with lastSite := n, lastEst := r.est, lastMeas := inc,
                                        lastLow := decide (11 * r.est < 10 * inc),
                                        admitted := s.pwr.admitted.filter (fun a => a.site ≠ n) } }
  if 11 * r.est < 10 * inc then s.raise 0x0206 [it1 n, it2 (r.est / 10), it2 (inc / 10)] else s

/-- The reason a run ended for on this device: every engine halted, or the request with the earliest tick 0 (05 R145, 04 R116). -/
def State.endReason (s : State) (n : Nat) (r : Run) : Nat :=
  if !(s.engines n).isEmpty && (s.engines n).all (fun e => decide ((s.e e).seq = 4)) then 1
  else match r.request with | some (k, _) => k | none => 1

/-- The device's engines have all stopped: RUN_END, STOP_ON_FAIL, RUN_OUT, the arbiter's record, and STOP_REASON to the leader; the run's
completion waits for R129. What waited for the stop of the site completes, but where every engine has halted: a stop that is still to come,
and a stall, go on. A relay has no engine and raises no RUN_END (05 R140, R145 to R147, 02 R457, 04 R115, 14 R399, 15 R429). -/
def State.endEngines (s : State) (n : Nat) (r : Run) : State :=
  let reason := s.endReason n r
  let halted := decide (reason = 1)
  let ends := (s.engines n).map (fun e => r.vcoAt (s.e e).stopTick)
  let endAt := listMax r.start ends
  let s := s.setRun n (some { r with phase := .draining, reason := reason, endAt := endAt, stopped := true,
                                     aborts := if halted then r.aborts else [], resets := if halted then r.resets else [],
                                     stall := if halted then r.stall else none, stallNext := if halted then r.stallNext else none })
  let s := match reason, r.trigger, r.stop with
    | 2, some (e, c), some (_, t0) => s.raiseAt 0x1030 [itEng e, it8 c, itTime (s.stampVco t0)] (s.stampVco t0)
    | _, _, _ => s
  let s := if (s.engines n).isEmpty then s else s.raiseAt 0x1011 [it1 n, it1 reason] (s.stampVco endAt)
  let s := (s.setRunOut n false ((endAt + 4 * r.div) / 4)).lastRun n r
  let s := match r.request with
    | some (_, t0) => if halted then s else s.sendUp n 0x0C reason (visible (s.valueAt (t0 / 4)))
    | none => s
  s.siteQuiet n (if halted then [] else r.aborts) (if halted then [] else r.resets)

/-- A stop has taken effect in a run whose engines here had all halted: those of other devices end with it, the leader hears its reason,
and what waited for it completes. The reason of a run on one device stays (05 R145, R146, 04 R116). -/
def State.cutHalted (s : State) (n : Nat) (r : Run) : State :=
  match r.request with
  | none => s
  | some (k, t0) =>
    let s := s.setRun n (some { r with cut := true, reason := if r.routes.isEmpty then r.reason else k, aborts := [], resets := [],
                                       stall := none, stallNext := none })
    (s.sendUp n 0x0C k (visible (s.valueAt (t0 / 4)))).siteQuiet n r.aborts r.resets

/-- The last engine of the site on the device has stopped, or a stop has taken effect after they had all halted (05 R145). -/
def State.checkEnd (s : State) (n : Nat) : State :=
  match s.run n with
  | none => s
  | some r =>
    if s.allStopped n = false then s
    else if r.phase = .running ∨ r.phase = .committed then s.endEngines n r
    else if r.going then s.cutHalted n r
    else s

/-- PERIOD_BOUNDARY: the period in progress ends, and the next begins with the word that owns it (02 R57, 03 R70). -/
def periodBoundary (e : Nat) (obs : Obs) (s : State) : State :=
  match s.siteOf e with
  | none => s
  | some n =>
    match s.run n with
    | none => s
    | some r =>
      if r.phase ≠ .running ∨ (s.e e).seq ≠ 1 then s
      else
        let s := s.closePeriod n r e
        match s.boundary n e with
        | (s, .held) => s.checkEnd n
        | (s, .go r) =>
          let s := if (s.e e).own.isNone then s.fetchWord n r e obs else s
          match (s.e e).own with
          | some o => (s.beginPeriod n r e o obs).checkEnd n
          | none => s.checkEnd n

def execPeriodBoundary (e : EngineNo) (obs : Obs) (s : State) : Host.Outcome State Fault Refusal :=
  answer (periodBoundary e.toNat obs s)

/-- A sequence word executes on an engine: at the boundary at which the previous word's last period ends, it takes ownership of
its periods, which PERIOD_BOUNDARY then begins. While another word still owns periods, or the engine does not run, nothing
happens (03 R70). -/
def runWord (e w : Nat) (s : State) : State :=
  match s.siteOf e with
  | none => s
  | some n =>
    match s.run n with
    | none => s
    | some r =>
      let busy := match (s.e e).own with
        | some o => decide (o.left ≠ 0) || !(s.e e).inPeriod
        | none => false
      if r.phase ≠ .running ∨ (s.e e).seq ≠ 1 ∨ busy = true then s
      else
        let s := s.closePeriod n r e
        match s.boundary n e with
        | (s, .held) => s.checkEnd n
        | (s, .go r) => (s.takeWord n r e (s.e e).next w false).checkEnd n

/-- An engine stops at a VCO cycle as a stop that is no sequence error stops it: strobes and edges from that tick of the run on are
cancelled and its channel goes to the safe state; so does a channel that a HALT or a sequence error left at other levels (02 R61, R64,
04 R115, R116). -/
def State.stopEngine (s : State) (n : Nat) (r : Run) (e at_ : Nat) : State :=
  let x := s.e e
  let tick := r.tickAt at_
  if 4 ≤ x.seq then (if x.safe then s else s.setE e (s.toSafeAt e (r.fineAt at_) x))
  else
    let s := if x.inPeriod && decide (x.pos ≤ tick * 256) then s.closePeriod n r e else s
    s.modE e fun x => { (s.toSafeAt e (r.fineAt at_) x) with
      seq := 6, own := none, inPeriod := false, arrive := none, stopTick := tick, delay := 0,
      samples := x.samples.filter (fun m => decide (m.tick < tick)) }

end Sys2Proof.Machine
end

