-- ==== Sys2Proof/Machine/Run.lean ====
section
/-! DEFINITION. A site's run on the device (05 R142 to R153): its start, its stalls and resumes, its barriers' release, its stop
and its end. -/

namespace Sys2Proof.Machine

/-- Every device of the site's set is in a list. -/
def State.allDevs (s : State) (n : Nat) (l : List Nat) : Bool := (maskBits 16 (s.site n).devset).all (fun d => l.contains d)

/-- The device leads the run (05 R140): it has no link toward a leader. -/
def Run.leads (r : Run) : Bool := r.up.isNone

/-- The run of a site whose start is accepted here: `up` is the link its RUN_PREP came by (01 R27, 05 R142). -/
def State.newRun (s : State) (n : Nat) (i : Option DescId) (up : Option Nat) (timed : Option Nat) (lateOk : Bool) (est : Nat) :
    Run :=
  let route := if s.spans n then s.routeLinks n else []
  { phase := .preroll, desc := i, leader := (s.site n).leader, timed := timed, lateOk := lateOk,
    est := s.estimate n est up.isNone, lead := s.leadQ n up, routes := route, up := up,
    div := levelDiv (match s.parcels n with | p :: _ => s.pclLevel p | [] => topLevel),
    flagV1 := route.any (fun l => (s.link l).version = 1) || (s.spans n && !s.routeHere n && Config.farV1 n) }

/-- An accepted start: its engines' checks have passed, RUN_PREP goes along the route, and the arbiter judges it (05 R142, 15
R428). -/
def State.acceptStart (s : State) (n : Nat) (r : Run) : State :=
  let s := s.each (s.engines n) fun s e => s.modE e fun x => { x with badValid := false }
  ((s.setRun n (some r)).sendRoute n r.up 1 0 0).admitRun n true

/-- RUN_START's effect once its descriptor has started (05 R142 to R144). -/
def runStart (i : DescId) (n : Nat) (timed lateOk : Bool) (est t : Nat) (s : State) : State :=
  match s.startFail n none with
  | some f => (s.reportFail f).finish i { status := 1, cause := f.cause }
  | none => s.acceptStart n (s.newRun n (some i) none (if timed then some t else none) lateOk est)

/-- RUN_START (05 R142). The pre-roll timeout that it carries is at least 1 µs and ends in PREROLL_TIMEOUT; a level change in
progress is waited for (15 R420). -/
def execRunStart (d : DescRef) (site : SiteNo) (timed lateOk : Bool) (timeout : BitVec 16) (est : Word) (t : DatumTime)
    (s : State) : Host.Outcome State Fault Refusal :=
  answer (s.runChecked (descId d 0x14) (rowFields (.runStart d site timed lateOk timeout est t)) false
    (malformedCause false (decide (timeout = 0)) false) (s.levelChanging site.toNat) fun k =>
      runStart k site.toNat timed lateOk est.toNat t.toNat)

/-- The leader gives a start up: CANCEL along the route, and the RUN_START completes as given (05 R142). -/
def State.leaderRefuse (s : State) (n : Nat) (d : Done) : State := (s.sendRoute n none 5 0 0).endStart n d

/-- The start is fixed at the first tick of the site at or after a VCO cycle, and START is sent (05 R142, R143). -/
def State.scheduleAt (s : State) (n : Nat) (r : Run) (ts : Nat) : State :=
  let ts := if r.routes.isEmpty then ts else 4 * ceilDiv ts 4
  let st := tickUp r.div ts
  let s := s.setRun n (some { r with phase := .scheduled, start := st, startTime := s.valueAt (st / 4) })
  let adm := s.pwr.admitted.map (fun a => if a.site = n then { a with commit := (st - 8 * r.div) / 4 } else a)
  let s := { s with pwr := { s.pwr with admitted := adm } }
  if r.leads then s.sendRoute n none 4 0 (visible (s.valueAt (ts / 4))) else s

/-- The leader holds READY from every device at tick tr: the start time (05 R143). -/
def State.fixStart (s : State) (n : Nat) (r : Run) (tr : Nat) : State :=
  let soon := tr + 8 * r.div + 4 * r.lead
  match r.timed with
  | none => s.scheduleAt n r soon
  | some t =>
    let ts := 4 * s.tickOf (ofVisible t)
    if soon ≤ ts then s.scheduleAt n r ts
    else if r.lateOk then s.scheduleAt n r soon
    else s.leaderRefuse n { status := 1, cause := 0x0A }

/-- A device has replied READY, or is ready itself (05 R142). -/
def State.readyFrom (s : State) (n dev : Nat) : State :=
  match s.run n with
  | none => s
  | some r =>
    let r := { r with readies := if r.readies.contains dev then r.readies else dev :: r.readies }
    let s := s.setRun n (some r)
    if r.phase = .ready ∧ s.allDevs n r.readies = true then s.fixStart n r (s.siteTick r) else s

/-- Of k slots in order, those whose map queue entry is among `held`: `l` says which take an entry of their own, and past it the timing set
`dbl` does (08 R247). -/
def usable : Nat → Nat → Bool → List Bool → Nat
  | 0, _, _, _ => 0
  | k + 1, held, dbl, [] => min (k + 1) (if dbl then 2 * held else held)
  | k + 1, held, dbl, b :: l => if b then (if held = 0 then 0 else 1 + usable k (held - 1) dbl l) else 1 + usable k held dbl l

/-- Steps of a program that are followed to tell the timing sets of the 64 slots of a port buffer. -/
def slotFuel : Nat := 512

/-- Supplied slots of an engine's port buffer at a VCO cycle; where the engine attaches map queue entries, only as many as `held` entries
serve under the timing sets of the periods to come, of the engine in state x (08 R245, R247, 05 R458). -/
def State.suppliedBy (s : State) (r : Run) (e now held : Nat) (x : Engine) : Nat :=
  let k := ((s.v e).buf.filter (fun b => b.supplied r.div now)).length
  if s.masked e then usable k held (s.tsDouble e x.ts) (s.takings r e 2 (x.pos + 2 ^ 64) slotFuel (s.countersOf e x) x) else k

/-- Supplied slots of an engine now: entries from its own next one on. -/
def State.supplied (s : State) (e : Nat) : Nat :=
  match (s.siteOf e).bind s.run with
  | some r => s.suppliedBy r e s.vco (s.entriesHeld e) (s.e e)
  | none => ((s.v e).buf.filter (fun b => b.supplied (levelDiv (s.pclLevel (e / 32))) s.vco)).length

/-- A threshold of PCL_PP_CTL: 0 counts as 1, more than 64 as 64 (08 R257). -/
def portThreshold (v : Nat) : Nat := if v = 0 then 1 else min v 64

/-- The FABRIC condition with a threshold, for a number of supplied slots: as many, or more than 56 in the buffer (08 R246). -/
def State.fabricReady (s : State) (e have_ t : Nat) : Bool :=
  decide (portThreshold t ≤ have_) || decide (56 < (s.v e).buf.length)

/-- PCL_PP_CTL's preroll_slots and resume_slots (08 R257). -/
def State.prerollSlots (s : State) (e : Nat) : Nat := s.regF (parBase (e / 32) + 0x25000) 0 7
def State.resumeSlots (s : State) (e : Nat) : Nat := s.regF (parBase (e / 32) + 0x25000) 8 7

/-- An engine's state at start commit (03 R97, 05 R143, R153, 07 R213): its static registers, counters and local memory stay; its
channel keeps its levels (02 R65). -/
def State.startState (s : State) (e : Nat) : Engine :=
  let x := s.e e
  { mem := x.mem, ecc := x.ecc, badTs := x.badTs, badValid := x.badValid, badCheck := x.badCheck,
    curTs := x.curTs, dbl := x.dbl, late := x.late, den := x.den, drv := x.drv, safe := x.safe, stallCh := x.stallCh, haltHold := x.haltHold,
    pc := s.startPc e, next := s.startPc e, src := s.startSrc e, lptr := s.startLptr e, ts := s.startTs e,
    shift := (s.p (e / 32)).target }

/-- An engine's pre-roll condition: its stream's where it is enabled, and its port buffer's where it starts from FABRIC; the start will
take the oldest held entry as its entry 0 (06 R195, 08 R246, R247). -/
def State.prerolled (s : State) (r : Run) (e : Nat) : Bool :=
  (!(s.ereg e 0x220).testBit 0 || (s.v e).ring.isReady (fld (s.ereg e 0x230) 0 14)) &&
    (decide (s.startSrc e ≠ 2) ||
      s.fabricReady e (s.suppliedBy r e s.vco (s.p (e / 32)).mq.length (s.startState e)) (s.prerollSlots e))

/-- No run can start: without tick PLL lock, while the memory retrains, and while a VAUX or VCH fault holds (01 R23, 07 R221, 15
R424). -/
def State.runsHeld (s : State) : Bool := !s.tim.locked || s.dvm.retraining || s.pwr.vauxFault || s.pwr.vchFault

/-- PREROLL_MET: every engine of the site on the device meets its condition; the device is ready, and the leader with every
device ready fixes the start (05 R142, R143, 06 R195, 01 R23, 07 R221). -/
def prerollMet (n : Nat) (s : State) : State :=
  match s.run n with
  | none => s
  | some r =>
    if r.phase ≠ .preroll ∨ s.runsHeld = true ∨
        (s.engines n).all (fun e => s.prerolled r e) = false then s
    else
      let s := s.setRun n (some { r with phase := .ready })
      if r.leads then s.readyFrom n s.devNum else s.sendUp n 2 0 0

def execPrerollMet (site : SiteNo) (s : State) : Host.Outcome State Fault Refusal := answer (prerollMet site.toNat s)

/-- PREROLL_TIMEOUT: a start not ready in time completes refused with cause 0x09; so does one that waits for the tick PLL or for a change
of level, for the wait counts against its timeout (05 R143, 15 R415, R420). -/
def prerollTimeout (n : Nat) (s : State) : State :=
  match s.run n with
  | none =>
    match s.hif.fetched.find? fun f => (s.pllStopped || s.levelChanging n) && f.op == 0x14 && leAt f.bytes 16 1 == n && s.mayStart f with
    | some f => (s.unfetch f.id).finish f.id { status := 1, cause := 9 }
    | none => s
  | some r =>
    if r.leads && (decide (r.phase = .deferred) || decide (r.phase = .preroll) || decide (r.phase = .ready)) then
      s.leaderRefuse n { status := 1, cause := 9 }
    else s

def execPrerollTimeout (site : SiteNo) (s : State) : Host.Outcome State Fault Refusal := answer (prerollTimeout site.toNat s)

/-- RUN_PREP_NO_REPLY: no reply within 1 ms from a device of the set; cause 0x08 (05 R144). -/
def runPrepNoReply (n : Nat) (s : State) : State :=
  match s.run n with
  | none => s
  | some r =>
    if r.leads && r.waiting && decide (r.phase ≠ .scheduled) && s.spans n then s.leaderRefuse n { status := 1, cause := 8 } else s

def execRunPrepNoReply (site : SiteNo) (s : State) : Host.Outcome State Fault Refusal := answer (runPrepNoReply site.toNat s)

/-- An engine at start commit (05 R143, 08 R247). -/
def State.commitEngine (s : State) (e : Nat) : State :=
  (s.setE e (s.startState e)).modV e fun q => { q with mqPos := if s.masked e then (s.p (e / 32)).mqBase else q.mqPos, mmRaised := false }

/-- The calibration entry's valid bit of a parcel's level (07 R208, R218). -/
def State.calTag (s : State) (p l : Nat) : Nat := s.reg (parBase p + 0x24000 + 0x10 * l)
def State.calValid (s : State) (p : Nat) : Bool := (s.calTag p (s.pclLevel p)).testBit 16

/-- CAL_OUT_OF_RANGE for a parcel: its load index and its entry's load tag (07 R208, R214). -/
def State.raiseOor (s : State) (p : Nat) : State :=
  (s.modP p fun x => { x with calRaised := true }).raise 0x1050
    [it1 p, it1 (s.p p).loadIdx, it1 (s.calTag p (s.pclLevel p) % 256)]

/-- A parcel at start commit: its fail memory and out-of-range counters, its per-run event flags, and an invalid calibration
entry (04 R135, 07 R208, R214, 08 R245). -/
def State.commitParcel (s : State) (n p : Nat) : State :=
  let f := s.f p
  let s := s.setF p { f with divCnt := 0, lossCnt := 0, oowCnt := 0, lossRaised := false }
  let s := s.modP p fun x => { x with oorCnt := 0, calRaised := false, tempRaised := false, limRaised := false,
                                      ovfRaised := false }
  let s := if s.calValid p then (if (s.p p).calOut then s.raiseOor p else s)
    else
      let t := (s.modP p fun x => { x with uncal := true, statUncal := true }).raise 0x1052 [it1 p]
      t.raiseOor p
  if (s.p p).uncal || (s.p p).calOut then s.modRun n (fun r => { r with flagCal := true }) else s

/-- START_COMMIT: no refusal after this; the engines' state and the counters are set (05 R143, 03 R97). -/
def startCommit (n : Nat) (s : State) : State :=
  match s.run n with
  | none => s
  | some r =>
    if r.phase ≠ .scheduled ∨ s.runsHeld = true then s
    else
      let s := s.setRun n (some { r with phase := .committed, flagWarn := s.pwr.warn })
      let s := s.each (s.engines n) State.commitEngine
      s.each (s.parcels n) fun s p => s.commitParcel n p

def execStartCommit (site : SiteNo) (s : State) : Host.Outcome State Fault Refusal := answer (startCommit site.toNat s)

/-- FAIL_OUT instances in level mode that name the site deassert when a run of it starts (04 R133). -/
def State.clearFailOut (s : State) (n : Nat) : State :=
  s.each [0, 1, 2, 3] fun s k =>
    if (s.failOutReg k).testBit 1 && decide (fld (s.failOutReg k) 6 6 = n) then
      { s with pins := { s.pins with failOut := s.pins.failOut.set noFlag k false } }
    else s

/-- The first period's entry levels: those the channel has at the start tick, 0 and 0 while channels are not live (02 R61, R65). DESIGN
CHOICE (log entry 63): after a run that a sequence error ended, with no run reset since, those are its stall-state levels. -/
def State.startEngine (s : State) (e : Nat) : State :=
  s.modE e fun x => { x with seq := 1, pos := 0, late := [], den := x.den && s.cfg.live, drv := x.drv && s.cfg.live }

/-- A site that starts while the log of a parcel is full acts by that parcel's log_full policy (04 R124). -/
def State.startFull (s : State) (n p : Nat) : State :=
  if !(s.f p).spillFull then s else if s.fullAborts p then s.abortNow n 6 else s.requestStall n 3 (s.engIn n p)

/-- RUN_STARTED: every engine of the site is at its first boundary, fine step 0 of the start tick; the event, RUN_OUT and
level-mode FAIL_OUT follow. A relay has no engine; its run is active while it has messages and states to pass on (05 R140, R143,
14 R399; log entry 61). -/
def runStarted (n : Nat) (s : State) : State :=
  match s.run n with
  | none => s
  | some r =>
    if r.phase ≠ .committed then s
    else
      let s := s.setRun n (some { r with phase := .running, endAt := r.start })
      let s := s.each (s.engines n) State.startEngine
      let t := s.stampVco r.start
      let s := s.raiseAt 0x1010 [it1 n, it1 (b2n r.flagV1), it2 r.lead, itTime t] t
      let s := (s.setRunOut n true ((r.start + 4 * r.div) / 4)).clearFailOut n
      s.each (s.parcels n) fun s p => s.startFull n p

def execRunStarted (site : SiteNo) (s : State) : Host.Outcome State Fault Refusal := answer (runStarted site.toNat s)

/-- RUN_ABORT's effect once its descriptor has started (05 R146). -/
def runAbort (i : DescId) (n : Nat) (s : State) : State :=
  match s.run n with
  | none => s.finish i { status := 8 }
  | some r =>
    if r.waiting then (s.setRun n (some { r with aborts := r.aborts ++ [i] })).cancelStart n
    else if r.stoppable then (s.setRun n (some { r with aborts := r.aborts ++ [i] })).abortNow n 3
    else s.finish i {}

/-- RUN_ABORT (05 R146). -/
def execRunAbort (d : DescRef) (site : SiteNo) (s : State) : Host.Outcome State Fault Refusal :=
  answer (s.runDesc (descId d 0x15) (rowFields (.runAbort d site)) false fun k => runAbort k site.toNat)

/-- RUN_RESET's effect once its descriptor has started (05 R147). -/
def runReset (i : DescId) (n : Nat) (s : State) : State :=
  if !(s.site n).formed then s.finish i { status := 1, cause := 1 }
  else match s.run n with
    | none => (s.resetSite n).finish i {}
    | some r =>
      if r.waiting then (s.setRun n (some { r with resets := r.resets ++ [i] })).cancelStart n
      else if r.stoppable then (s.setRun n (some { r with resets := r.resets ++ [i] })).abortNow n 8
      else (s.resetSite n).finish i {}

/-- RUN_RESET (05 R147). -/
def execRunReset (d : DescRef) (site : SiteNo) (s : State) : Host.Outcome State Fault Refusal :=
  answer (s.runDesc (descId d 0x16) (rowFields (.runReset d site)) false fun k => runReset k site.toNat)

/-- CHANNELS_LIVE with [0] = 1 takes effect at once (02 R457). -/
def execChannelsLiveSet (d : DescRef) (s : State) : Host.Outcome State Fault Refusal :=
  answer (s.runDesc (descId d 0x17) (rowFields (.channelsLiveSet d)) false fun k s =>
    { s with cfg := { s.cfg with live := true } }.finish k {})

/-- Every channel is in the safe state (02 R61). -/
def State.allSafe (s : State) : State := { s with eng := s.eng.map (fun q => (q.1, q.2.toSafe)) }

/-- CHANNELS_LIVE with [0] = 0: every active run is stopped or its start cancelled, and the completion waits for that
(02 R457). -/
def channelsClear (i : DescId) (s : State) : State :=
  let sites := s.activeSites.filter (fun n => (s.run n).any (fun r => r.stoppable))
  let s := { s with cfg := { s.cfg with live := false } }
  let s := s.each s.activeSites fun s n => s.abortSite n 3
  if sites.isEmpty then s.finish i {}
  else { s with cfg := { s.cfg with clearing := s.cfg.clearing ++ [(i, sites)] } }

def execChannelsLiveClear (d : DescRef) (s : State) : Host.Outcome State Fault Refusal :=
  answer (s.runDesc (descId d 0x17) (rowFields (.channelsLiveClear d)) false channelsClear)

/-- The stalls of a site end with a stop that takes effect at a VCO cycle; its engines keep the stall ticks they have by then (04 R116,
05 R149). -/
def State.endStall (s : State) (n : Nat) (r : Run) (v : Nat) : State :=
  (s.each (s.engines n) fun s e => s.modE e fun x => { x with stall := s.stallBy r e v }).modRun n fun r =>
    { r with stall := none, stallNext := none }

/-- Six ticks after a sequence error: an engine that is frozen or at a barrier stops, and its channel goes to its stall state; the
others stop at their boundaries (03 R100). DESIGN CHOICE (log entry 63): an engine that had halted with halt_safe = 0 keeps its levels; 02
R61 has a row for each. -/
def State.errSite (s : State) (n : Nat) (r : Run) (t0 : Nat) : State :=
  let at_ := t0 + 6 * r.div
  let s := (s.endStall n r at_).modRun n fun r => { r with errSeen := true }
  (s.each (s.engines n) fun s e =>
    if (s.e e).seq = 2 ∨ (s.e e).seq = 3 then s.errorStop e (256 * r.tickAt at_) else s).checkEnd n

/-- Stop bits of this device for strobes that a stop has cancelled leave the site fail bus: those due at a VCO cycle or later (04 R115,
R116). -/
def State.dropStamps (s : State) (n c : Nat) : State :=
  { s with bus := s.bus.filter fun b => !(b.site == n && b.kind == 2 && b.by_ == 4 && decide (c ≤ 4 * b.tick)) }

/-- Six ticks after the tick 0 of any other stop: it takes effect in every engine of the site (02 R64, 04 R115, 05 R146). -/
def State.cutSite (s : State) (n : Nat) (r : Run) (t0 : Nat) : State :=
  let at_ := t0 + 6 * r.div
  let s := (s.endStall n r at_).dropStamps n (at_ + 4 * r.div)
  (s.each (s.engines n) fun s e => s.stopEngine n r e at_).checkEnd n

/-- SITE_STOP: the request with the earlier tick 0 that has not taken effect does so, six ticks after its tick 0 (02 R64, 03 R100,
04 R115, R116, 05 R146). -/
def siteStop (n : Nat) (s : State) : State :=
  match s.run n with
  | none => s
  | some r =>
    if !r.stoppable then s
    else match r.err, r.stop with
      | some t, some p => if !r.errSeen && decide (t ≤ p.2) then s.errSite n r t else s.cutSite n r p.2
      | some t, none => if r.errSeen then s else s.errSite n r t
      | none, some p => s.cutSite n r p.2
      | none, none => s

def execSiteStop (site : SiteNo) (s : State) : Host.Outcome State Fault Refusal := answer (siteStop site.toNat s)

/-- A stream cannot meet a stall request: IDLE, END with no untaken slot, or ERROR (06 R196). -/
def VRing.starved (r : VRing) : Bool :=
  decide (r.st = 0) || (decide (r.st = 2) && decide (r.untaken = 0)) || decide (r.st = 3)

/-- A request of an engine whose source is short: one that cannot be met is reported once per engine and run (05 R148, 06 R190, R196,
08 R246, R251). -/
def State.askStall (s : State) (n : Nat) (r : Run) (e : Nat) : State :=
  if s.askingSource r e = 1 then
    let t := if (s.v e).ring.starved && !(s.e e).starved then (s.modE e fun x => { x with starved := true }).raise 0x1043 [itEng e] else s
    t.requestStall n 1 e
  else
    let t := if decide (s.pclLevel (e / 32) ≠ s.pwr.fabLevel) && !(s.v e).mmRaised then
        (s.modV e fun q => { q with mmRaised := true }).raise 0x1062 [itEng e] else s
    t.requestStall n 2 e

/-- STALL_REQUEST: the judgement of an engine's source; where that is short, the request (05 R148, R458). -/
def stallRequest (e : Nat) (s : State) : State :=
  match s.siteOf e with
  | none => s
  | some n =>
    match s.run n with
    | none => s
    | some r => if decide (r.phase = .running) && s.asks r e then s.askStall n r e else s

def execStallRequest (e : EngineNo) (s : State) : Host.Outcome State Fault Refusal := answer (stallRequest e.toNat s)

/-- SITE_STALL: the freeze time F. Under policy abort the run stops there with reason 7 and the site does not freeze (05 R148,
R151). -/
def siteStall (n : Nat) (s : State) : State :=
  match s.run n with
  | none => s
  | some r =>
    match r.stall with
    | none => s
    | some st =>
      if r.going = false ∨ st.frozen = true then s
      else if (s.site n).abort then
        (s.setRun n (some { r with stall := none, stallNext := none })).requestStop n 7 (st.freeze - 6 * r.div)
      else
        (s.setRun n (some { r with stall := some { st with frozen := true } })).raiseAt 0x1012
          [it1 n, it1 st.reason, itEng st.eng, it1 st.dev] (s.stampVco st.freeze)

def execSiteStall (site : SiteNo) (s : State) : Host.Outcome State Fault Refusal := answer (siteStall site.toNat s)

/-- A stall request's resume condition; a starved stream's request is not met whatever its ring holds (06 R195, R196, 08 R246,
04 R124). -/
def State.resumeReady (s : State) (q : Nat × Nat) : Bool :=
  let e := q.1
  if q.2 = 1 then (s.ereg e 0x220).testBit 0 && !(s.v e).ring.starved && (s.v e).ring.isReady (fld (s.ereg e 0x230) 16 14)
  else if q.2 = 2 then
    decide (s.pclLevel (e / 32) = s.pwr.fabLevel) && s.fabricReady e (s.supplied e) (s.resumeSlots e)
  else !(s.f (e / 32)).logStall

/-- The leader knows that every request's condition is met: the resume time (05 R149). -/
def State.scheduleResume (s : State) (n : Nat) (r : Run) (st : Stall) : State :=
  let t := s.siteTick r + 8 * r.div + 4 * r.lead
  let t := if r.routes.isEmpty then t else tickUp r.div (4 * ceilDiv t 4)
  (s.setRun n (some { r with stall := some { st with resume := some t } })).sendRoute n none 8 0 (visible (s.valueAt (t / 4)))

/-- RESUME_CONDITION: requests whose condition is met no longer hold the stall; when none is left, and the judgement made afresh finds no
engine short, the leader resumes the site and another device sends CLEAR (05 R149, R458). -/
def resumeCondition (n : Nat) (s : State) : State :=
  match s.run n with
  | none => s
  | some r =>
    match r.stall with
    | none => s
    | some st =>
      if r.going = false ∨ st.resume.isSome = true then s
      else
        let left := st.waiting.filter (fun q => !s.resumeReady q)
        let st' := { st with waiting := left }
        let short := if st.frozen && left.isEmpty then (s.engines n).filter (s.asks r) else []
        if !short.isEmpty then
          s.each short fun s e => match s.run n with | some r => s.askStall n r e | none => s
        else if !left.isEmpty then s.setRun n (some { r with stall := some st' })
        else if r.leads then (if st.devs.isEmpty then s.scheduleResume n r st' else s.setRun n (some { r with stall := some st' }))
        else if st.waiting.isEmpty then s
        else (s.setRun n (some { r with stall := some st' })).sendUp n 7 0 0

def execResumeCondition (site : SiteNo) (s : State) : Host.Outcome State Fault Refusal := answer (resumeCondition site.toNat s)

/-- An engine at the resume: frozen, it continues Δ later from the stall-state levels; at a barrier or halted, its arrival moves; not yet at
its boundary b, it will pause there (05 R149, 02 R63, 03 R86, R87). -/
def Engine.resumed (d : Nat) (x : Engine) : Engine :=
  let y := { x with stall := satAdd 32 x.stall d }
  if x.seq = 3 then { y with seq := 1, pos := x.pos + 256 * d, stallCh := false, afterStall := 0 }
  else if x.seq = 2 then { y with arrive := x.arrive.map (fun a => (a.1, a.2 + 256 * d)), pos := x.pos + 256 * d, afterStall := 0 }
  else if x.seq = 1 then { y with delay := x.delay + d }
  else if x.seq = 4 then { y with pos := x.pos + 256 * d }
  else y

/-- The stall record of a resume; an engine that has not reached its boundary b yet completes one period more by then (05 R150). -/
def State.stallRecord (s : State) (n : Nat) (st : Stall) (d : Nat) : Rec :=
  let x := s.e st.eng
  let cyc := if st.dev = s.devNum then x.cyc + b2n (decide (x.seq = 1) && x.inPeriod) else Config.farCycle n st.eng
  sealRecord (leBytes 1 6 ++ leBytes 1 n ++ leBytes 2 (st.eng + st.dev * 1024) ++ leBytes 6 cyc ++ leBytes 1 st.reason ++
    leBytes 1 0 ++ leBytes 4 d ++ leBytes 2 0 ++ leBytes 10 (s.stampVco st.freeze))

/-- SITE_RESUME: at R every engine continues, shifted by Δ; the stall record and the event follow, and a stall asked for since
begins (05 R148 to R150). -/
def siteResume (n : Nat) (s : State) : State :=
  match s.run n with
  | none => s
  | some r =>
    match r.stall with
    | none => s
    | some st =>
      match st.resume with
      | none => s
      | some t =>
        if r.going = false then s
        else
          let d := (t - st.freeze) / r.div
          let rec6 := s.stallRecord n st d
          let late := r.releaseAt.map (fun q => if st.freeze ≤ q.2 then (q.1, q.2 + d * r.div) else q)
          let s := s.setRun n (some { r with stall := r.stallNext, stallNext := none, resumedCyc := true, releaseAt := late })
          let s := s.each (s.engines n) fun s e => s.modE e (Engine.resumed d)
          let s := match s.parcels n with
            | p :: _ => s.enterRec p rec6 (s.stampVco st.freeze)
            | [] => s
          s.raiseAt 0x1013 [it1 n, it4 d] (s.stampVco t)

def execSiteResume (site : SiteNo) (s : State) : Host.Outcome State Fault Refusal := answer (siteResume site.toNat s)

/-- Every device of the set that holds an engine of the site is in a list. -/
def State.allHere (s : State) (n : Nat) (l : List Nat) : Bool :=
  (maskBits 16 (s.site n).devset).all (fun d => decide ((s.site n).counts.getD d 0 = 0) || l.contains d)

/-- The engine executing a SYNC of mask m, or sharing a group with it: a participant of the barrier. DESIGN CHOICE (log entry 63): SYNCs of
one mask make one barrier, also where an engine that executes one is in no group of it (03 R86). -/
def State.inGroup (s : State) (e m : Nat) : Bool :=
  decide ((s.e e).arrive.any (fun a => a.1 = m)) || decide (s.ereg e 8 % 256 &&& m ≠ 0)

/-- The participants of a barrier on the device, and whether every one has arrived at its mask or halted (03 R86). -/
def State.barrierMet (s : State) (n m : Nat) : Bool :=
  let ps := (s.engines n).filter (fun e => s.inGroup e m)
  ps.all (fun e => decide ((s.e e).seq = 4) || (s.e e).arrive.any (fun a => a.1 = m))

/-- The engines that wait at a barrier with mask m. -/
def State.waitingAt (s : State) (n m : Nat) : List Nat :=
  (s.engines n).filter (fun e => decide ((s.e e).seq = 2) && (s.e e).arrive.any (fun a => a.1 = m))

/-- The arrival of the last participant of a barrier on the device, in fine steps; a halted one arrived when it halted (03 R87,
R95). -/
def State.lastArrival (s : State) (n m : Nat) : Nat :=
  let waits := (s.waitingAt n m).map (fun e => match (s.e e).arrive with | some a => a.2 | none => 0)
  let halts := ((s.engines n).filter (fun e => decide ((s.e e).seq = 4) && s.inGroup e m)).map (fun e => (s.e e).pos)
  listMax 0 (waits ++ halts)

/-- The participants start their next period at fine step 0 of a tick of the run (03 R86, R87). -/
def State.releaseAll (s : State) (n m tick : Nat) : State :=
  s.each (s.waitingAt n m) fun s e => s.modE e fun x => { x with seq := 1, arrive := none, pos := 256 * tick, delay := 0 }

/-- The release of the barrier of mask m in a tick of the run. It is put off while the site is stalled by then, and where the judgement
made afresh finds a participant's source short: that one asks for a stall, and the count of the release goes on when it ends (03 R87,
05 R458). DEDUCED (log entry 28). -/
def State.releaseAt (s : State) (n : Nat) (r : Run) (m tick : Nat) (done : State → State) : State :=
  if r.stall.any (fun st => decide (st.freeze ≤ r.vcoAt tick)) then s
  else
    let short := (s.waitingAt n m).filter (s.asks r)
    if short.isEmpty then done (s.releaseAll n m tick)
    else
      let now := 256 * r.tickAt (s.siteTick r)
      let s := s.each (s.waitingAt n m) fun s e =>
        s.modE e fun x => { x with arrive := x.arrive.map (fun a => (a.1, max a.2 now)) }
      s.each short fun s e => match s.run n with | some r => s.askStall n r e | none => s

/-- SYNC_RELEASE on one device: 8 t after the first tick at or after the last arrival (03 R87). A spanning site's leader releases
8 t + Q after it holds every ARRIVE and sends RELEASE; another device sends ARRIVE, and releases at the time it is given (05
R152). No barrier is released while the site is stalled (03 R87). -/
def syncRelease (n m : Nat) (s : State) : State :=
  match s.run n with
  | none => s
  | some r =>
    if r.going = false ∨ r.stall.any (fun st => st.frozen) = true then s
    else if !s.spans n then
      (if !(s.waitingAt n m).isEmpty && s.barrierMet n m then
        s.releaseAt n r m (ceilDiv (s.lastArrival n m) 256 + 8) id
      else s)
    else match r.releaseAt.find? (fun q => q.1 = m) with
      | some q =>
        s.releaseAt n r m (ceilDiv (q.2 - r.start) r.div) fun s =>
          s.modRun n fun r => { r with releaseAt := r.releaseAt.filter (fun q => q.1 ≠ m) }
      | none =>
        let self := (s.devNum, m)
        if !s.barrierMet n m then s
        else if !r.leads then
          (if r.arrived.contains self then s
           else (s.setRun n (some { r with arrived := self :: r.arrived })).sendUp n 9 m 0)
        else
          let arr := if r.arrived.contains self then r.arrived else self :: r.arrived
          if s.allHere n (((arr.filter (fun q => q.2 = m)).map (fun q => q.1)) ++ r.dones) then
            let t := s.siteTick r + 8 * r.div + 4 * r.lead
            let t := 4 * ceilDiv t 4
            (s.setRun n (some { r with arrived := arr.filter (fun q => q.2 ≠ m),
                                       releaseAt := r.releaseAt ++ [(m, t)] })).sendRoute n none 0x0A m (visible (s.valueAt (t / 4)))
          else s.setRun n (some { r with arrived := arr })

def execSyncRelease (site : SiteNo) (mask : BitVec 8) (s : State) : Host.Outcome State Fault Refusal :=
  answer (syncRelease site.toNat mask.toNat s)

/-- A record of a site's run, or of a parcel's fail unit, not yet in the FQ (04 R129). -/
def recOfRun (n : Nat) (r : Rec) : Bool :=
  let ty := leAt r 0 1
  decide (ty = 3) || decide (ty = 4) || decide (ty = 5) || decide (leAt r 1 1 % 64 = n)

/-- R129: the coalescing buffers of the site's parcels are empty, and every record of its run has reached the FQ. -/
def State.drained (s : State) (n : Nat) : Bool :=
  (s.parcels n).all fun p =>
    let f := s.f p
    (s.engines n).all (fun e => (s.e e).samples.isEmpty) && f.coal.isEmpty && decide (f.lossPend = 0) && !(f.inBuf.any (recOfRun n)) && !(f.log.any (recOfRun n)) &&
      !((s.spillRecs p).any (recOfRun n))

/-- The reason of the whole run: of the stops known at the leader, the one whose tick 0 came earliest (05 R145). -/
def State.runReason (s : State) (r : Run) : Nat :=
  let own : List (Nat × Nat) := match r.request with
    | some (_, t0) => if r.reason = 1 then [] else [(r.reason, s.valueAt (t0 / 4))]
    | none => []
  match own ++ r.others with
  | [] => 1
  | q :: qs => (qs.foldl (fun a b => if b.2 < a.2 then b else a) q).1

/-- The flags of a RUN_START's completion (12 R356). -/
def State.runFlags (s : State) (r : Run) : Nat :=
  b2n r.flagCal + 2 * b2n r.flagUpset.isSome + 4 * b2n (r.flagUnver || s.scb.disabled) + 8 * b2n r.flagWarn +
    16 * b2n r.flagV1

/-- The run is over on every device beyond this one, as far as it has passed on READY and DONE of them (05 R140, R145). DESIGN CHOICE (log
entry 61). -/
def Run.relayDone (r : Run) : Bool :=
  (decide (r.phase = .running) || decide (r.phase = .draining)) && r.readies.all (fun d => r.dones.contains d)

/-- RUN_END_COMPLETION: R129 holds on the device; the leader with every device's DONE completes the RUN_START, another device
sends DONE, and its part in the run ends once those beyond it have (05 R145, 04 R129; log entry 61). A stop still to come completes what
waits for it. -/
def runEndCompletion (n : Nat) (s : State) : State :=
  match s.run n with
  | none => s
  | some r =>
    if (s.engines n).isEmpty then
      (if r.relayDone then ((s.sendUp n 0x0B 0 0).closeRun n).siteQuiet n r.aborts r.resets else s)
    else if r.phase ≠ .draining ∨ s.drained n = false then s
    else if !r.leads then
      let s := if r.doneSent then s else (s.sendUp n 0x0B 0 0).setRun n (some { r with doneSent := true })
      if r.relayDone then (s.closeRun n).siteQuiet n r.aborts r.resets else s
    else
      let dones := if r.dones.contains s.devNum then r.dones else s.devNum :: r.dones
      if s.allDevs n dones then
        let d : Done := { status := 0, cause := s.runReason r, flags := s.runFlags r,
                          result := leBytes 10 (s.stampVco r.endAt) }
        let t := s.closeRun n
        let t := match r.desc with | some i => t.finish i d | none => t
        t.siteQuiet n r.aborts r.resets
      else s.setRun n (some { r with dones := dones })

def execRunEndCompletion (site : SiteNo) (s : State) : Host.Outcome State Fault Refusal :=
  answer (runEndCompletion site.toNat s)

end Sys2Proof.Machine
end

