-- ==== Sys2Proof/Machine/Messages.lean ====
section
/-! DEFINITION. Run-control messages received on a Sahoux link (05 R142 to R152, R158, R166), the side word (05 R154 to R157), and
what a link fault does to its sites (05 R156, R165). -/

namespace Sys2Proof.Machine

/-- A message of another device goes on along the site's route: toward the leader, or on every other link of the route (05 R142,
R166). -/
def State.forward (s : State) (h : MsgHead) (upward : Bool) (ty arg target : Nat) : State :=
  let n := h.site.toNat
  let other := (s.routeLinks n).filter (fun l => decide (l ≠ h.link.toNat))
  let links := if !upward then other
    else match s.run n with
      | some r => (match r.up with | some u => other.filter (fun l => decide (l = u)) | none => [])
      | none => other
  s.each links fun s l => s.sendFrom l ty n h.dev.toNat arg target

/-- A good message arrives on a link that is up: the next sequence number is expected, and its effect follows (05 R158). -/
def State.recvQuiet (s : State) (h : MsgHead) (f : State → State) : State :=
  let l := s.link h.link.toNat
  if l.state ≠ 5 then s else f (s.setLink h.link.toNat { l with rxSeq := (h.seq.toNat + 1) % 256 })

/-- As recvQuiet, for a run-control message: in Idle it first resumes the device (15 R409). -/
def State.recv (s : State) (h : MsgHead) (f : State → State) : State :=
  s.recvQuiet h fun s => f (if s.pwr.state = .idle then s.resume 7 else s)

/-- A message reaches the device later than 4 t before the time it carries (05 R158). -/
def State.isLate (s : State) (n t : Nat) : Bool :=
  let div := match s.run n with | some r => r.div | none => 4
  decide (4 * s.tickOf (ofVisible t) < s.vco + 4 * div)

/-- A START comes too late for the device to take part: the run that begins elsewhere is stopped by the stop bit, the leader hears the
reason and that the device is done, and the start ends here (05 R145, R146, R158). DEDUCED (log entry 61). -/
def State.lateStart (s : State) (n : Nat) (r : Run) : State :=
  let t0 := s.siteTick r
  let s := ((s.stamp n 2 (t0 + 4 * r.div) 4).sendUp n 0x0C 10 (visible (s.valueAt (t0 / 4)))).sendUp n 0x0B 0 0
  s.endStart n { status := 7 }

/-- LATE_CONTROL, and the site stops with reason 10, as an abort (05 R158). -/
def State.lateControl (s : State) (n : Nat) : State :=
  let s := s.raise 0x1014 [it1 n]
  match s.run n with
  | none => s
  | some r => if r.waiting then s.lateStart n r else s.abortNow n 10

/-- A message with a target time: late, the site stops; otherwise its effect follows. -/
def State.timely (s : State) (n t : Nat) (f : State → State) : State := if s.isLate n t then s.lateControl n else f s

/-- RUN_PREP: the device judges the start of its own engines and goes on along the route, or answers REFUSE; `agree` says that the device
set and the stall policy of the site agree with those of the devices it came by (05 R138, R142, R144, R166). -/
def runPrep (h : MsgHead) (agree : Bool) (s : State) : State :=
  let n := h.site.toNat
  let l := h.link.toNat
  let twice := (s.run n).any (fun r => r.waiting && r.up.any (fun u => decide (u ≠ l)))
  if twice then s.sendOn l 3 n 8 0
  else match s.startFail n (some (l, agree)) with
    | some f => (s.reportFail f).sendOn l 3 n f.cause 0
    | none => s.acceptStart n (s.newRun n none (some l) none false 0)

def execMsgRunPrep (h : MsgHead) (agree : Bool) (s : State) : Host.Outcome State Fault Refusal := answer (s.recv h (runPrep h agree))

/-- READY: at the leader, one device more is ready; another device passes it on and knows of it (05 R142). -/
def execMsgReady (h : MsgHead) (s : State) : Host.Outcome State Fault Refusal :=
  answer (s.recv h fun s =>
    let n := h.site.toNat
    match s.run n with
    | some r =>
      if r.leads then (if r.waiting && decide (r.phase ≠ .scheduled) then s.readyFrom n h.dev.toNat else s)
      else (s.setRun n (some { r with readies := r.readies.filter (fun d => decide (d ≠ h.dev.toNat)) ++ [h.dev.toNat] })).forward h true 2 0 0
    | none => s.forward h true 2 0 0)

/-- REFUSE: the leader sends CANCEL and completes with the cause; a start that another device's abort or reset cancelled (cause
0x02) completes as aborted before start (05 R142, R144, R147). From a device that has not replied READY the message does not tell that
from a run active there: a free value does. -/
def msgRefuse (h : MsgHead) (cause : Nat) (s : State) : State :=
  let n := h.site.toNat
  match s.run n with
  | some r =>
    if r.leads then
      let reset := r.readies.contains h.dev.toNat || Config.refuseIsReset n s.tim.tick
      (if r.waiting then s.leaderRefuse n (if cause = 2 ∧ reset = true then { status := 7 } else { status := 1, cause := cause }) else s)
    else s.forward h true 3 cause 0
  | none => s.forward h true 3 cause 0

def execMsgRefuse (h : MsgHead) (cause : BitVec 16) (s : State) : Host.Outcome State Fault Refusal :=
  answer (s.recv h (msgRefuse h cause.toNat))

/-- START: the site's engines start at the first tick of the site at or after Ts (05 R142). -/
def msgStart (h : MsgHead) (t : Nat) (s : State) : State :=
  let n := h.site.toNat
  let s := s.forward h false 4 0 t
  match s.run n with
  | some r =>
    if !r.leads && r.waiting then s.timely n t fun s => s.scheduleAt n r (4 * s.tickOf (ofVisible t)) else s
  | none => s

def execMsgStart (h : MsgHead) (t : DatumTime) (s : State) : Host.Outcome State Fault Refusal :=
  answer (s.recv h (msgStart h t.toNat))

/-- CANCEL: a start that has not committed here is over (05 R142). -/
def msgCancel (h : MsgHead) (s : State) : State :=
  let n := h.site.toNat
  let s := s.forward h false 5 0 0
  match s.run n with
  | some r => if !r.leads && r.waiting then s.endStart n { status := 7 } else s
  | none => s

def execMsgCancel (h : MsgHead) (s : State) : Host.Outcome State Fault Refusal := answer (s.recv h (msgCancel h))

/-- A stall asked for by another device: it starts a stall, joins the one in force, or begins after a resume already scheduled
(05 R148). -/
def joinStall (r : Run) (new : Stall) : Run :=
  match r.stall with
  | none => { r with stall := some new }
  | some st =>
    match st.resume with
    | none =>
      { r with stall := some { st with freeze := if st.frozen then st.freeze else min st.freeze new.freeze,
                                       devs := new.devs ++ st.devs.filter (fun d => !new.devs.contains d) } }
    | some t =>
      { r with stallNext := some (match r.stallNext with
          | none => { new with freeze := max new.freeze t }
          | some q => { q with devs := new.devs ++ q.devs.filter (fun d => !new.devs.contains d) }) }

/-- STALL: the site freezes at F (05 R148). -/
def msgStall (h : MsgHead) (reason eng t : Nat) (s : State) : State :=
  let n := h.site.toNat
  let s := s.forward h false 6 reason t
  match s.run n with
  | some r =>
    if r.going = false then s
    else s.timely n t fun s =>
      let f := tickUp r.div (4 * s.tickOf (ofVisible t))
      s.modRun n fun r => joinStall r { freeze := f, reason := reason, eng := eng, dev := h.dev.toNat, devs := [h.dev.toNat] }
  | none => s

def execMsgStall (h : MsgHead) (reason : Byte) (eng : EngineNo) (t : DatumTime) (s : State) :
    Host.Outcome State Fault Refusal :=
  answer (s.recv h (msgStall h reason.toNat eng.toNat t.toNat))

/-- CLEAR: at the leader, a device's requests are all met (05 R149). -/
def msgClear (h : MsgHead) (s : State) : State :=
  let n := h.site.toNat
  match s.run n with
  | some r =>
    if r.leads then
      s.setRun n (some { r with stall := r.stall.map (fun st =>
        { st with devs := st.devs.filter (fun d => decide (d ≠ h.dev.toNat)) }) })
    else s.forward h true 7 0 0
  | none => s.forward h true 7 0 0

def execMsgClear (h : MsgHead) (s : State) : Host.Outcome State Fault Refusal := answer (s.recv h (msgClear h))

/-- RESUME: the site resumes at R (05 R149). -/
def msgResume (h : MsgHead) (t : Nat) (s : State) : State :=
  let n := h.site.toNat
  let s := s.forward h false 8 0 t
  match s.run n with
  | some r =>
    if r.leads || r.stall.isNone then s
    else s.timely n t fun s =>
      s.modRun n fun r => { r with stall := r.stall.map (fun st =>
        { st with resume := some (tickUp r.div (4 * s.tickOf (ofVisible t))) }) }
  | none => s

def execMsgResume (h : MsgHead) (t : DatumTime) (s : State) : Host.Outcome State Fault Refusal :=
  answer (s.recv h (msgResume h t.toNat))

/-- ARRIVE: at the leader, every participant of a device has arrived or halted (05 R152). -/
def msgArrive (h : MsgHead) (m : Nat) (s : State) : State :=
  let n := h.site.toNat
  match s.run n with
  | some r =>
    if r.leads then
      s.setRun n (some { r with arrived := (h.dev.toNat, m) :: r.arrived.filter (fun q => decide (q ≠ (h.dev.toNat, m))) })
    else s.forward h true 9 m 0
  | none => s.forward h true 9 m 0

def execMsgArrive (h : MsgHead) (mask : Byte) (s : State) : Host.Outcome State Fault Refusal :=
  answer (s.recv h (msgArrive h mask.toNat))

/-- RELEASE: the barrier's participants start at the first tick of the site at or after the release time (05 R152). -/
def msgRelease (h : MsgHead) (m t : Nat) (s : State) : State :=
  let n := h.site.toNat
  let s := s.forward h false 0x0A m t
  match s.run n with
  | some r =>
    if r.leads || !r.going then s
    else s.timely n t fun s =>
      s.modRun n fun r => { r with releaseAt := r.releaseAt ++ [(m, 4 * s.tickOf (ofVisible t))],
                                   arrived := r.arrived.filter (fun q => decide (q.2 ≠ m)) }
  | none => s

def execMsgRelease (h : MsgHead) (mask : Byte) (t : DatumTime) (s : State) : Host.Outcome State Fault Refusal :=
  answer (s.recv h (msgRelease h mask.toNat t.toNat))

/-- DONE: at the leader, a device's engines have all stopped and R129 holds there (05 R145). -/
def msgDone (h : MsgHead) (s : State) : State :=
  let n := h.site.toNat
  match s.run n with
  | some r =>
    if r.leads then
      s.setRun n (some { r with dones := if r.dones.contains h.dev.toNat then r.dones else h.dev.toNat :: r.dones })
    else (s.setRun n (some { r with dones := r.dones.filter (fun d => decide (d ≠ h.dev.toNat)) ++ [h.dev.toNat] })).forward h true 0x0B 0 0
  | none => s.forward h true 0x0B 0 0

def execMsgDone (h : MsgHead) (s : State) : Host.Outcome State Fault Refusal := answer (s.recv h (msgDone h))

/-- STOP_REASON: at the leader, the reason that ended a device's engines and the datum time of its tick 0 (05 R145, R158). -/
def msgStopReason (h : MsgHead) (reason t : Nat) (s : State) : State :=
  let n := h.site.toNat
  match s.run n with
  | some r =>
    if r.leads then
      let s := s.setRun n (some { r with others := r.others ++ [(reason, ofVisible t)] })
      if s.isLate n t then s.lateControl n else s
    else s.forward h true 0x0C reason t
  | none => s.forward h true 0x0C reason t

def execMsgStopReason (h : MsgHead) (reason : BitVec 16) (t : DatumTime) (s : State) : Host.Outcome State Fault Refusal :=
  answer (s.recv h (msgStopReason h reason.toNat t.toNat))

/-- RESEND: the message with the sequence number named is repeated, as it was first sent (05 R158). -/
def msgResend (h : MsgHead) (seq : Nat) (s : State) : State :=
  match (s.link h.link.toNat).sent.find? (fun q => q.1 = seq % 256) with
  | some q => s.sayMessage h.link.toNat q.2
  | none => s

def execMsgResend (h : MsgHead) (seq : BitVec 16) (s : State) : Host.Outcome State Fault Refusal :=
  answer (s.recv h (msgResend h seq.toNat))

/-- Sites with a run active and a link-site slot on a link. -/
def State.linkSites (s : State) (l : Nat) : List Nat := s.activeSites.filter (fun n => s.holdsSlot l n)

/-- A link at fault stops those sites with reason 9 (05 R156, R165). -/
def State.linkFault (s : State) (l : Nat) : State := s.each (s.linkSites l) fun s n => s.abortSite n 9

/-- A link begins to train from the start: state 1, nothing locked (05 R161). Replays, side and retrain counts stay. -/
def Link.retrain (dev : Nat) (x : Link) : Link :=
  { state := 1, devNum := dev, replays := x.replays, badSide := x.badSide, badCtl := x.badCtl,
    retrains := satAdd 8 x.retrains 1 }

end Sys2Proof.Machine
end

