-- ==== Sys2Proof/Machine/Links.lean ====
section
/-! DEFINITION. The Sahoux links' training (05 R161 to R165) and bulk channel with its copies (05 R159, R160, 12 R357). -/

namespace Sys2Proof.Machine

/-- The payload of a control block: type, byte 1, bytes 2 and 3, and the check value (05 R159). -/
def controlBlock (ty b1 b23 : Nat) : Nat :=
  let h := leBytes 1 ty ++ leBytes 1 b1 ++ leBytes 2 b23
  leNat (h ++ leBytes 4 (crc32c h).toNat)

/-- A control block handed to the bulk lanes of a link (05 R159). -/
def State.control (s : State) (l ty b1 b23 : Nat) : State :=
  let b := controlBlock ty b1 b23
  (s.put (.control l b)).setLink l { s.link l with btx := (s.link l).btx ++ [(true, b)] }

/-- A bulk packet handed to the bulk lanes of a link, one word in a data block (05 R154, R159). -/
def State.sendBulk (s : State) (l seq : Nat) (ws : List Nat) : State :=
  (s.put (.bulk l seq ws)).setLink l { s.link l with btx := (s.link l).btx ++ ws.map (fun w => (false, w)) }

/-- Four TRAIN blocks, one for each lane, with their lane numbers (05 R159, R161). -/
def State.trainBlocks (s : State) (l : Nat) : State :=
  s.each [0, 1, 2, 3] fun s k => s.put (.control l (controlBlock 1 k 0))

/-- The copy in progress on a link ends with the link (12 R357). -/
def State.dropCopy (s : State) (l : Nat) : State :=
  match (s.link l).copy with
  | some c => s.finish c.desc { status := 1, cause := 1 }
  | none => s

/-- A link that stops being up: its sites stop with reason 9 and a copy on it ends (05 R165, 12 R357). -/
def State.linkLeaves (s : State) (l : Nat) : State := if (s.link l).state = 5 then (s.linkFault l).dropCopy l else s

/-- A link is held down in state 6 with its reason, and SXL_LINK_DOWN is raised (05 R161). -/
def State.holdDown (s : State) (l reason : Nat) : State :=
  let s := s.linkLeaves l
  (s.setLink l { s.link l with state := 6, reason := reason, version := 0, copy := none }).raise 0x0802 [it1 l, it1 reason]

/-- A link begins to train (05 R161, R164). -/
def State.beginTrain (s : State) (l reason : Nat) : State :=
  let s := s.linkLeaves l
  (s.setLink l { (Link.retrain s.devNum (s.link l)) with reason := reason }).trainBlocks l

/-- SXL_LINKn_CTL written: en and max_ver are stored, a change of en trains or disables the link, and retrain trains it afresh,
deferred while a site with a slot on it runs (05 R161, R165, R168). -/
def linkCtl (l v : Nat) (s : State) : State :=
  let off := linkBase l
  let was := (s.reg off).testBit 0
  let on := v.testBit 0
  let s := s.setReg off (v &&& 0xD)
  let x := s.link l
  if !on then
    (if was then
      let s := s.linkLeaves l
      s.setLink l { ({} : Link) with replays := x.replays, badSide := x.badSide, badCtl := x.badCtl, retrains := x.retrains }
    else s)
  else if !was then
    (s.setLink l { (Link.retrain s.devNum x) with retrains := x.retrains }).trainBlocks l
  else if v.testBit 1 then
    (if (s.linkSites l).isEmpty then s.beginTrain l 0 else s.setLink l { x with deferRetrain := true })
  else s

/-- LINK_ENABLE (05 R161). -/
def execLinkEnable (link : LinkNo) (value : Word) (s : State) : Host.Outcome State Fault Refusal :=
  answer (s.hostAccess (linkCtl link.toNat value.toNat))

/-- SXL_RETRAIN: the same register written with retrain set (05 R161, R165). -/
def execSxlRetrain (link : LinkNo) (value : Word) (s : State) : Host.Outcome State Fault Refusal :=
  answer (s.hostAccess (linkCtl link.toNat (value.toNat ||| 2)))

/-- DEFERRED_RETRAIN: no site with a slot on the link runs any more (05 R165). -/
def execDeferredRetrain (link : LinkNo) (s : State) : Host.Outcome State Fault Refusal :=
  let l := link.toNat
  answer (if (s.link l).deferRetrain && (s.linkSites l).isEmpty then s.beginTrain l 0 else s)

/-- Versions a link advertises: bit v for version v (05 R159, R163, R168). -/
def State.ownVersions (s : State) (l : Nat) : Nat := if s.regF (linkBase l) 2 2 = 1 then 2 else 6

/-- With block lock on every lane and every lane number checked, ADVERTISE goes out (05 R161). -/
def State.afterLock (s : State) (l : Nat) : State :=
  let x := s.link l
  if x.locks ≠ 15 then s
  else if x.lanes ≠ 15 then s.setLink l { x with state := 2 }
  else (s.setLink l { x with state := 3 }).control l 2 (s.ownVersions l) x.devNum

/-- BLOCK_LOCK: a lane has locked after 64 consecutive valid sync headers (05 R161). -/
def execBlockLock (link : LinkNo) (lane : BitVec 2) (s : State) : Host.Outcome State Fault Refusal :=
  let l := link.toNat
  let x := s.link l
  answer (if x.state ≠ 1 then s else (s.setLink l { x with locks := x.locks ||| 2 ^ lane.toNat }).afterLock l)

/-- A control block with a bad check is discarded and counted (05 R159). -/
def State.goodBlock (s : State) (l : Nat) (good : Bool) (f : State → State) : State :=
  if good then f s else s.setLink l { s.link l with badCtl := (s.link l).badCtl + 1 }

/-- TRAIN: the lane number is checked, and lanes must not be reordered; a lane is deskewed while it lies up to 8 blocks behind (05 R154,
R161). Past that the step does not complete, and LINK_TRAIN_TIMEOUT ends it. -/
def trainBlock (l lane number skew : Nat) (s : State) : State :=
  let x := s.link l
  if x.state ≠ 1 ∧ x.state ≠ 2 then s
  else if number ≠ lane then s.holdDown l 2
  else if 8 < skew then s
  else (s.setLink l { x with lanes := x.lanes ||| 2 ^ lane }).afterLock l

def execTrain (link : LinkNo) (lane number : BitVec 2) (skew : BitVec 4) (good : Bool) (s : State) : Host.Outcome State Fault Refusal :=
  answer (s.goodBlock link.toNat good (trainBlock link.toNat lane.toNat number.toNat skew.toNat))

/-- ADVERTISE: the highest common version is used; the peer must have another number (05 R161, R163, R164). -/
def advertise (l versions dev : Nat) (s : State) : State :=
  let x := s.link l
  let both := versions &&& s.ownVersions l
  if x.state ≠ 3 then s
  else if dev = x.devNum then s.holdDown l 4
  else if both = 0 then s.holdDown l 3
  else
    let s := s.setLink l { x with state := 4, peer := dev, version := if both.testBit 2 then 2 else 1, samples := [] }
    s.each (List.range 64) fun s k => s.control l 3 k (s.tickNo % 2 ^ 16)

def execAdvertise (link : LinkNo) (versions : Byte) (dev : BitVec 4) (good : Bool) (s : State) :
    Host.Outcome State Fault Refusal :=
  answer (s.goodBlock link.toNat good (advertise link.toNat versions.toNat dev.toNat))

/-- PING: answered with PONG, its sequence echoed, and the hold time in datum ticks (05 R162). The sender's tick that it carries
is the sender's to use. -/
def execPing (link : LinkNo) (seq : Byte) (tick hold : BitVec 16) (good : Bool) (s : State) :
    Host.Outcome State Fault Refusal :=
  let _ := tick
  let l := link.toNat
  answer (s.goodBlock l good fun s =>
    if (s.link l).state = 3 ∨ (s.link l).state = 4 then s.control l 4 seq.toNat hold.toNat else s)

/-- The median of 64 latencies; between the two middle ones where they differ (05 R162). -/
def median64 (xs : List Nat) : Nat :=
  let l := xs.mergeSort (· ≤ ·)
  let a := l.getD 31 0
  let b := l.getD 32 0
  if a = b then a else a + Config.medianTie a b % (b - a + 1)

/-- The link comes up: side words and bulk begin, credits are granted (05 R161). -/
def State.comeUp (s : State) (l : Nat) : State :=
  let x := s.link l
  (s.setLink l { x with state := 5, reason := 0, credits := 64, bulkTx := 0, bulkRx := 0, unacked := [], waitTx := [],
                        rxWords := [] }).raise 0x0801 [it1 l]

/-- PONG: one latency more; with 64 the median is the link's latency, whose board flight may not exceed 63 t (05 R162). -/
def pong (l round hold : Nat) (s : State) : State :=
  let x := s.link l
  if x.state ≠ 4 ∨ 64 ≤ x.samples.length then s
  else
    let smp := x.samples ++ [ceilDiv (round - hold) 2]
    if smp.length < 64 then s.setLink l { x with samples := smp }
    else
      let lat := median64 smp
      if 63 + 16 < lat then s.holdDown l 5
      else
        let s := (s.setLink l { x with samples := smp, lat := lat, doneOut := true }).control l 8 0 0
        if x.doneIn then s.comeUp l else s

def execPong (link : LinkNo) (seq : Byte) (round hold : BitVec 16) (good : Bool) (s : State) :
    Host.Outcome State Fault Refusal :=
  let _ := seq
  answer (s.goodBlock link.toNat good (pong link.toNat round.toNat hold.toNat))

/-- TRAIN_DONE from the peer (05 R161). -/
def trainDone (l : Nat) (s : State) : State :=
  let x := s.link l
  if x.state ≠ 3 ∧ x.state ≠ 4 then s
  else
    let s := s.setLink l { x with doneIn := true }
    if x.doneOut then s.comeUp l else s

def execTrainDone (link : LinkNo) (good : Bool) (s : State) : Host.Outcome State Fault Refusal :=
  answer (s.goodBlock link.toNat good (trainDone link.toNat))

/-- LINK_TRAIN_TIMEOUT: 200 µs after a lane first locked a step is not complete; without block lock on any lane the link stays in
state 1 without limit (05 R161). -/
def linkTrainTimeout (l : Nat) (s : State) : State :=
  let x := s.link l
  if x.locks = 0 ∨ x.state = 0 ∨ 5 ≤ x.state then s
  else s.holdDown l (if x.state = 4 then 5 else x.state)

def execLinkTrainTimeout (link : LinkNo) (s : State) : Host.Outcome State Fault Refusal :=
  answer (linkTrainTimeout link.toNat s)

/-- Credits a packet takes: its full length rounded up to 64 words (05 R160). -/
def packetCredits (ws : List Nat) : Nat := ceilDiv ws.length 64

/-- A DATA packet of the bulk channel with its header and trailer (05 R159, 06 R183). -/
def dataPacket (seq : Nat) (payload : List Nat) : List Nat :=
  let h := payload.length + 0x30 * 2 ^ 16 + seq * 2 ^ 32
  let ws := h :: payload
  ws ++ [(crc32c (wordBytes ws)).toNat + seq * 2 ^ 32]

/-- Packets that wait are sent while credits last and fewer than 16 are unacknowledged (05 R160). `fuel` bounds them. -/
def State.pump (s : State) (l : Nat) : Nat → State
  | 0 => s
  | fuel + 1 =>
    let x := s.link l
    match x.waitTx with
    | [] => s
    | p :: rest =>
      let ws := dataPacket x.bulkTx p
      if x.state ≠ 5 ∨ 16 ≤ x.unacked.length ∨ x.credits < packetCredits ws then s
      else
        let s := (s.setLink l
          { x with waitTx := rest, credits := x.credits - packetCredits ws, bulkTx := (x.bulkTx + 1) % 2 ^ 16,
                   unacked := x.unacked ++ [(x.bulkTx, ws)] }).sendBulk l x.bulkTx ws
        s.pump l fuel

/-- The packets in flight at most: no more than this many can be sent at once. -/
def pumpFuel : Nat := 16

/-- CREDIT: credits returned (05 R160). -/
def execCredit (link : LinkNo) (n : BitVec 16) (good : Bool) (s : State) : Host.Outcome State Fault Refusal :=
  let l := link.toNat
  answer (s.goodBlock l good fun s =>
    (s.setLink l { s.link l with credits := min 64 ((s.link l).credits + n.toNat) }).pump l pumpFuel)

/-- How a copy completes: at hop 6 where its last block failed at the peer (12 R357, R359). -/
def copyDone (c : Copy) : Done :=
  match c.bad with
  | some k => { status := 0x0B, hop := 6, block := k }
  | none => {}

/-- ACK: every packet up to the one named is stored by the peer; with the copy's last one its descriptor completes (05 R160, 12
R357). -/
def ackBlock (l seq : Nat) (s : State) : State :=
  let x := s.link l
  match x.unacked.findIdx? (fun q => q.1 % 256 = seq) with
  | none => s
  | some k =>
    let s := s.setLink l { x with unacked := x.unacked.drop (k + 1),
                                  copy := x.copy.map (fun c => { c with left := c.left - (k + 1) }) }
    let s := match (s.link l).copy with
      | some c => if c.left = 0 then (s.setLink l { s.link l with copy := none }).finish c.desc (copyDone c) else s
      | none => s
    s.pump l pumpFuel

def execAck (link : LinkNo) (seq : Byte) (good : Bool) (s : State) : Host.Outcome State Fault Refusal :=
  answer (s.goodBlock link.toNat good (ackBlock link.toNat seq.toNat))

/-- NAK: the packets from the one named on are sent again; 32 replays within 1 ms retrain the link (05 R160). -/
def nakBlock (l seq : Nat) (s : State) : State :=
  let x := s.link l
  match x.unacked.findIdx? (fun q => q.1 % 256 = seq) with
  | none => s
  | some k =>
    let recent := s.tim.tick :: x.replayAt.filter (fun t => decide (s.tim.tick < t + usTicks 1000))
    let s := s.setLink l { x with replays := satAdd 16 x.replays 1, replayAt := recent }
    let s := (x.unacked.drop k).foldl (fun s q => s.sendBulk l q.1 q.2) s
    if 32 ≤ recent.length then s.beginTrain l 7 else s

def execNak (link : LinkNo) (seq : Byte) (good : Bool) (s : State) : Host.Outcome State Fault Refusal :=
  answer (s.goodBlock link.toNat good (nakBlock link.toNat seq.toNat))

/-- GEN's partition number (06 R173). -/
def genPart : Nat := 64

/-- The block a copy has delivered whole is checked against the value it carries, and stored with it inside GEN; one that fails is not
stored, which the source reports (12 R357, R359). -/
def State.storeCopy (s : State) (ws : List Nat) : State :=
  let a := ws.getD 0 0
  let check := ws.getD 1 0 % 2 ^ 32
  let data := wordBytes (ws.drop 2)
  if a % 4096 = 0 ∧ s.dvm.within genPart a 4096 = true ∧ s.dvm.ready = true ∧ (crc32c data).toNat = check then
    { s with dvm := s.dvm.store (a / 4096) data check }
  else s

/-- BULK_PACKET: a good packet in sequence is acknowledged and its credits returned; another is discarded, and the replay asked
for once (05 R160). -/
def bulkPacket (l : Nat) (ws : List Nat) (s : State) : State :=
  let x := s.link l
  if x.state ≠ 5 then s
  else if packetGood .bulk (some x.bulkRx) ws && decide (hdrLen (ws.headD 0) ≤ 256) then
    let words := x.rxWords ++ (ws.dropLast).drop 1
    let whole := decide (514 ≤ words.length)
    let s := s.setLink l { x with bulkRx := (x.bulkRx + 1) % 2 ^ 16, nakSent := false,
                                  rxWords := if whole then words.drop 514 else words }
    let s := if whole then s.storeCopy (words.take 514) else s
    (s.control l 6 (x.bulkRx % 256) 0).control l 5 0 (packetCredits ws)
  else if x.nakSent && decide (hdrSeq (ws.headD 0) ≠ x.bulkRx) then s
  else (s.setLink l { x with nakSent := true }).control l 7 (x.bulkRx % 256) 0

def execBulkPacket (link : LinkNo) (words : List Quad) (s : State) : Host.Outcome State Fault Refusal :=
  answer (bulkPacket link.toNat (words.map BitVec.toNat) s)

/-- The three packets' payloads of one block of a copy (12 R357). -/
def copyPayloads (d : Dvm) (b dest : Nat) : List (List Nat) :=
  let ws := (List.range 512).map (fun i => d.word (512 * b + i))
  [[dest, d.check.get checkReset b], ws.take 256, ws.drop 256]

/-- The first block of a range that fails its check or holds an uncorrectable line, by index (06 R177, R178). -/
def State.badDvmBlock (s : State) (addr blocks : Nat) (x : Ecc) : Option Nat :=
  (List.range blocks).find? fun k => s.dvm.blockFails x (addr / 4096 + k)

/-- SXL_COPY's effect once its descriptor has started (12 R357): `peerOk` says that the destination lies in the peer's GEN, `peerBad` which
block first fails its carried check value there; no block behind that one is sent (01 R19). DESIGN CHOICE (log entry 77): the rules do not
say how these answers reach the source; the second does with the acknowledgement of the block. -/
def sxlCopy (i : DescId) (src dst blocks l : Nat) (x : Ecc) (peerOk : Bool) (peerBad : Option Nat) (s : State) : State :=
  if s.dvm.trainOff then s.finish i { status := 2 }
  else if (s.link l).state ≠ 5 then s.finish i { status := 1, cause := 1 }
  else if !s.dvm.within genPart src (4096 * blocks) then s.finish i { status := 1 }
  else if !peerOk then s.finish i { status := 1, cause := 2 }
  else
    let s := s.dvmEcc x
    let bad := s.badDvmBlock src blocks x
    let own := bad.getD blocks
    let n := match peerBad with | some k => min own (k + 1) | none => own
    let pk := (List.range n).flatMap (fun k => copyPayloads s.dvm (src / 4096 + k) (dst + 4096 * k))
    let y := s.link l
    let refused := peerBad.filter (fun k => decide (k < own))
    match (if refused.isSome then none else bad) with
    | some k =>
      ((s.setLink l { y with waitTx := y.waitTx ++ pk }).pump l pumpFuel).finish i { status := 0x0B, hop := 3, block := k }
    | none =>
      if n = 0 then s.finish i {}
      else
        let c : Copy := { desc := i, left := y.unacked.length + y.waitTx.length + pk.length, bad := refused }
        (s.setLink l { y with waitTx := y.waitTx ++ pk, copy := some c }).pump l pumpFuel

/-- SXL_COPY (12 R357): it waits for the memory, and for a copy in progress on its link. -/
def execSxlCopy (d : DescRef) (source dest : Quad) (blocks : Word) (link : LinkNo) (ecc : Ecc) (peerOk : Bool)
    (peerBad : Option Word) (s : State) :
    Host.Outcome State Fault Refusal :=
  answer (s.runChecked (descId d 0x03) (rowFields (.sxlCopy d source dest blocks link ecc peerOk peerBad)) false
    (malformedCause false (decide (source.toNat % 4096 ≠ 0) || decide (dest.toNat % 4096 ≠ 0)) false)
    ((s.link link.toNat).copy.isSome || !s.dvm.answers) fun k =>
      sxlCopy k source.toNat dest.toNat blocks.toNat link.toNat ecc peerOk (peerBad.map (·.toNat)))

end Sys2Proof.Machine
end

