-- ==== Sys2Proof/Machine/Data.lean ====
section
/-! DEFINITION. Descriptors that move data between the host and the deep vector memory, the engines' local memory and the fail
memory (12 R356, R360, R361, 06 R175, 03 R102, R103, 04 R131). -/

namespace Sys2Proof.Machine

/-- Output blocks are written to the host one after another, each followed by its check value (12 R356, R361). -/
def State.outBlocks (s : State) (o : DataOut) : Nat → List (List Byte × Nat) → State
  | _, [] => s
  | k, (d, c) :: rest =>
    ((s.put (.host (o.addr.toNat + 4096 * k) d)).put (.host (o.checks.toNat + 4 * k) (leBytes 4 c))).outBlocks o (k + 1) rest

/-- Bytes cut into blocks of 4 KiB, the last padded with 0, each with its CRC-32C (12 R361). `n` bounds the blocks. -/
def cutBlocks : Nat → List Byte → List (List Byte × Nat)
  | 0, _ => []
  | n + 1, bs => (sliceAt bs 0 4096, (crc32c (sliceAt bs 0 4096)).toNat) :: cutBlocks n (bs.drop 4096)

/-- A range of whole blocks lies in one non-empty PATp or GEN partition (06 R175). -/
def Dvm.hostRange (d : Dvm) (addr len : Nat) : Bool :=
  decide (addr % 4096 = 0) && ((List.range 32).any (fun n => d.within n addr len) || d.within genPart addr len)

/-- Input blocks up to the first bad one stored in the memory, block by block (12 R360, 06 R178). -/
def Dvm.storeAll (d : Dvm) : Nat → List HostBlock → Dvm
  | _, [] => d
  | b, x :: xs => (d.store b x.data x.check.toNat).storeAll (b + 1) xs

/-- LOAD's effect once its descriptor has started (12 R360, 06 R175, R179, 07 R219). -/
def loadBlocks (i : DescId) (addr : Nat) (bs : List HostBlock) (s : State) : State :=
  if s.dvm.trainOff then s.finish i { status := 2 }
  else if !s.dvm.hostRange addr (4096 * bs.length) then s.finish i { status := 1 }
  else
    let bad := badBlock 0 bs
    let good := match bad with | some (k, _) => bs.take k | none => bs
    let s := { s with dvm := s.dvm.storeAll (addr / 4096) good }
    match bad with
    | some p => s.blockFail i bs p
    | none => (s.blockError bs).finish i {}

/-- LOAD (12 R360): it waits until the memory is trained and initialized (06 R179). -/
def execLoad (d : DescRef) (dvm : Quad) (blocks : List HostBlock) (s : State) : Host.Outcome State Fault Refusal :=
  if !blocks.all HostBlock.wellFormed then .fault .illFormed
  else answer (s.runChecked (descId d 0x01) (rowFields (.load d dvm blocks)) false (malformedCause false false blocks.isEmpty)
    (!s.dvm.answers) fun k => loadBlocks k dvm.toNat blocks)

/-- DVM_READ's effect once its descriptor has started: each block with its stored check value, up to the first that fails at hop 3
(12 R361, 06 R177, R178). -/
def dvmRead (i : DescId) (addr : Nat) (o : DataOut) (x : Ecc) (s : State) : State :=
  if s.dvm.trainOff then s.finish i { status := 2 }
  else if !s.dvm.hostRange addr (4096 * o.blocks.toNat) then s.finish i { status := 1 }
  else
    let s := s.dvmEcc x
    let bad := s.badDvmBlock addr o.blocks.toNat x
    let n := bad.getD o.blocks.toNat
    let s := s.outBlocks o 0 ((List.range n).map fun k =>
      (s.dvm.block (addr / 4096 + k), s.dvm.check.get checkReset (addr / 4096 + k)))
    match bad with
    | some k => s.finish i { status := 0x0B, hop := 3, block := k }
    | none => s.finish i {}

/-- DVM_READ (12 R361). -/
def execDvmRead (d : DescRef) (dvm : Quad) (out : DataOut) (ecc : Ecc) (s : State) : Host.Outcome State Fault Refusal :=
  answer (s.runChecked (descId d 0x02) (rowFields (.dvmRead d dvm out ecc)) false (malformedCause false false (outBad out))
    (!s.dvm.answers) fun k => dvmRead k dvm.toNat out ecc)

/-- LOCAL_LOAD's effect once its descriptor has started: every block is checked before any byte is written (03 R102, 12 R360,
15 R417). -/
def localLoad (i : DescId) (p mask off len : Nat) (bs : List HostBlock) (s : State) : State :=
  let es := (maskBits 32 mask).map (fun k => 32 * p + k)
  if !s.parcelOn p then s.finish i { status := 1, cause := 1 }
  else if es.any s.engActive then s.finish i { status := 1 }
  else match badBlock 0 bs with
    | some q => s.blockFail i bs q
    | none =>
      let data := (bs.flatMap HostBlock.data).take len
      ((s.blockError bs).each es fun s e => s.modE e fun x => { x with mem := x.mem.setList zeroByte off data }).finish i {}

/-- LOCAL_LOAD (03 R102). -/
def execLocalLoad (d : DescRef) (p : ParcelNo) (mask offset length : Word) (blocks : List HostBlock) (s : State) :
    Host.Outcome State Fault Refusal :=
  if !blocks.all HostBlock.wellFormed then .fault .illFormed
  else answer (s.runChecked (descId d 0x10) (rowFields (.localLoad d p mask offset length blocks)) false
    (malformedCause false (decide (mask = 0) || !localRangeOk offset.toNat length.toNat blocks.length) blocks.isEmpty) false
    fun k => localLoad k p.toNat mask.toNat offset.toNat length.toNat blocks)

/-- LOCAL_READ's effect once its descriptor has started; bytes of the last block beyond the length are 0 (03 R103, 15 R417). -/
def localRead (i : DescId) (e off len : Nat) (o : DataOut) (s : State) : State :=
  if !s.parcelOn (e / 32) then s.finish i { status := 1, cause := 1 }
  else
    let bytes := (s.e e).mem.getList zeroByte off len
    (s.outBlocks o 0 (cutBlocks (ceilDiv len 4096) bytes)).finish i {}

/-- LOCAL_READ (03 R103). -/
def execLocalRead (d : DescRef) (e : EngineNo) (offset length : Word) (out : DataOut) (s : State) :
    Host.Outcome State Fault Refusal :=
  answer (s.runChecked (descId d 0x11) (rowFields (.localRead d e offset length out)) false
    (malformedCause false (!localRangeOk offset.toNat length.toNat out.blocks.toNat) (outBad out)) false fun k =>
      localRead k e.toNat offset.toNat length.toNat out)

/-- A byte range of an area of a parcel's fail memory may be used: no run with engines in the parcel, and wholly inside (04
R131). -/
def State.fmRange (s : State) (p area off len : Nat) : Bool :=
  !s.parActive p && decide (off + len ≤ (s.fmArea p area).2) && decide ((s.fmArea p area).2 ≠ 0)

/-- FAIL_MEM_READ's effect once its descriptor has started (04 R131, 15 R417). -/
def failMemRead (i : DescId) (p area off : Nat) (o : DataOut) (s : State) : State :=
  if !s.parcelOn p then s.finish i { status := 1, cause := 1 }
  else if !s.fmRange p area off (4096 * o.blocks.toNat) then s.finish i { status := 1 }
  else
    let bytes := (s.f p).mem.getList zeroByte ((s.fmArea p area).1 + off) (4096 * o.blocks.toNat)
    (s.outBlocks o 0 (cutBlocks o.blocks.toNat bytes)).finish i {}

/-- FAIL_MEM_READ (04 R131). -/
def execFailMemRead (d : DescRef) (p : ParcelNo) (area : Byte) (offset : Word) (out : DataOut) (s : State) :
    Host.Outcome State Fault Refusal :=
  answer (s.runChecked (descId d 0x1A) (rowFields (.failMemRead d p area offset out)) false
    (malformedCause false (decide (2 ≤ area.toNat) || decide (offset.toNat % 4096 ≠ 0)) (outBad out)) false
    fun k => failMemRead k p.toNat area.toNat offset.toNat out)

/-- FAIL_MEM_CLEAR's effect once its descriptor has started (04 R131, 15 R417). -/
def failMemClear (i : DescId) (p area off len : Nat) (s : State) : State :=
  if !s.parcelOn p then s.finish i { status := 1, cause := 1 }
  else if !s.fmRange p area off len then s.finish i { status := 1 }
  else (s.modF p fun f => { f with mem := f.mem.clearRange ((s.fmArea p area).1 + off) len }).finish i {}

/-- FAIL_MEM_CLEAR (04 R131). -/
def execFailMemClear (d : DescRef) (p : ParcelNo) (area : Byte) (offset length : Word) (s : State) :
    Host.Outcome State Fault Refusal :=
  answer (s.runChecked (descId d 0x1B) (rowFields (.failMemClear d p area offset length)) false
    (malformedCause false (decide (2 ≤ area.toNat) || decide (offset.toNat % 4096 ≠ 0) || decide (length.toNat % 4096 ≠ 0)) false)
    false fun k => failMemClear k p.toNat area.toNat offset.toNat length.toNat)

end Sys2Proof.Machine
end

