-- ==== Sys2Proof/Machine/Benchmark.lean ====
section
/-! DEFINITION. The benchmark (05 R169 to R171): taking a capture of every engine's counters, and reading it. -/

namespace Sys2Proof.Machine

/-- A refused BENCH_TAKE is counted and raises BENCH_REFUSED; its descriptor, if it has one, completes with the status (05
R170). -/
def State.benchRefuse (s : State) (i : Option DescId) (id status : Nat) : State :=
  let s := { s with snp := { s.snp with refused := satAdd 16 s.snp.refused 1 } }
  let s := s.raise 0x0A02 [it2 id, it1 status]
  match i with
  | some i => s.finish i { status := status }
  | none => s

/-- The capture tick: timed, the first datum tick at or after T; immediate, 8 t after the strobe at the next tick (05 R169). -/
def State.benchTick (s : State) (timed : Bool) (t : Nat) : Nat :=
  if timed then s.tickOf (ofVisible t) else s.tim.tick + 9

/-- A benchmark asked for here: refused, or held until its strobe (05 R169, R170). -/
def State.benchAsk (s : State) (i : Option DescId) (id : Nat) (timed ovw : Bool) (t : Nat) : Bool × State :=
  let c := s.benchTick timed t
  if s.snp.unread && !ovw then (false, s.benchRefuse i id 1)
  else if s.snp.pend.isSome then (false, s.benchRefuse i id 3)
  else if timed && decide (c < s.tim.tick + 8) then (false, s.benchRefuse i id 4)
  else (true, { s with snp := { s.snp with pend := some { id := id, cap := c, timed := timed, ovw := ovw, time := t, desc := i } } })

/-- With fwd, BENCH goes to every joined device over version 2 links (05 R169, R170). -/
def State.benchForward (s : State) (but : Option Nat) (id : Nat) (ovw : Bool) (t : Nat) : State :=
  s.each ([0, 1, 2, 3].filter (fun l => decide ((s.link l).version = 2) && decide (some l ≠ but))) fun s l => s.sendOn l 0x0D (b2n ovw) id t

/-- BENCH_TAKE's effect once its descriptor has started (05 R169, R170). -/
def benchTake (i : DescId) (id : Nat) (timed ovw fwd : Bool) (t : Nat) (s : State) : State :=
  let c := s.benchTick timed t
  match s.benchAsk (some i) id timed ovw t with
  | (true, u) => if fwd then u.benchForward none id ovw (if timed then t else visible (s.valueAt c)) else u
  | (false, u) => u

/-- BENCH_TAKE (05 R169). -/
def execBenchTake (d : DescRef) (id : BitVec 16) (timed ovw fwd : Bool) (t : DatumTime) (s : State) :
    Host.Outcome State Fault Refusal :=
  answer (s.runDesc (descId d 0x18) (rowFields (.benchTake d id timed ovw fwd t)) false fun k =>
    benchTake k id.toNat timed ovw fwd t.toNat)

/-- The device holds this benchmark, pending or strobed. -/
def State.benchHeld (s : State) (id c : Nat) : Bool :=
  (s.snp.pend.toList ++ s.snp.flight).any (fun b => decide (b.id = id) && decide (b.cap = c))

/-- BENCH: the message is a BENCH_TAKE of the device's own, which reports on its own event ring only; a version 1 link carries none
(05 R163, R170). It goes on to the version 2 links it did not come by, so that it reaches every joined device. DESIGN CHOICE (log entry 33): the
rule names the devices and not the path; a BENCH that the device holds already, or that is late, goes no further. -/
def msgBench (h : MsgHead) (ovw : Bool) (id t : Nat) (s : State) : State :=
  let c := s.benchTick true t
  if (s.link h.link.toNat).version = 1 ∨ s.benchHeld id c = true then s
  else
    let s := if decide (4 * c < s.vco + 16) then s.raise 0x1014 [it1 h.site.toNat] else s
    let u := (s.benchAsk none id true ovw t).2
    if c < s.tim.tick + 8 then u else u.benchForward (some h.link.toNat) id ovw t

def execMsgBench (h : MsgHead) (ovw : Bool) (id : BitVec 16) (t : DatumTime) (s : State) :
    Host.Outcome State Fault Refusal :=
  answer (s.recv h (msgBench h ovw id.toNat t.toNat))

/-- BENCH_STROBE: the strobe enters the equalized tree and pending is cleared (05 R169). -/
def execBenchStrobe (s : State) : Host.Outcome State Fault Refusal :=
  match s.snp.pend with
  | none => answer s
  | some b => answer { s with snp := { s.snp with pend := none, flight := s.snp.flight ++ [b] } }

/-- Fails of an engine counted by a tick of its run: their compare result, two ticks after the sample, came before it (04 R110, 05
R169). -/
def State.failsBy (s : State) (r : Run) (e c : Nat) : Nat :=
  if r.phase = .running ∨ r.phase = .draining then
    min (2 ^ 32 - 1) (r.fails.filter (fun q => decide (q.2 = e) && decide (q.1 + 2 < (c : Int)) && r.sampled q.1)).length
  else (s.e e).failCnt

/-- One engine's counters as at the start of the capture tick (05 R169, R171). -/
def State.shadowOf (s : State) (e cap : Nat) : Shadow :=
  let site := s.siteOf e
  if !s.parcelOn (e / 32) then { site := site.getD 0, member := site.isSome, off := true }
  else
    let x := s.e e
    let cs := (List.range 8).map (s.counter e)
    let base : Shadow := { site := site.getD 0, member := site.isSome, cyc := x.cyc, vec := x.vec, fails := x.failCnt,
                           stall := x.stall, cs := if cs.all (fun c => c = 0) then [] else cs, halted := decide (x.seq = 4),
                           stalled := decide (x.seq = 3), barrier := decide (x.seq = 2) }
    match site.bind s.run with
    | none => base
    | some r =>
      let v := tickUp r.div (4 * cap)
      let c := r.tickAt v
      let ended := x.inPeriod && decide (x.pos ≤ 256 * c)
      let open_ := x.inPeriod && !ended && (match x.own with | some o => o.takes | none => false)
      let cs := match x.cntWrite with | some (k, w) => if ended then cs.set k w else cs | none => cs
      { base with running := decide (r.phase = .running), cs := if cs.all (fun c => c = 0) then [] else cs, cyc := x.cyc + b2n ended, vec := x.vec - b2n open_,
                  fails := s.failsBy r e c, stall := s.stallBy r e v }

/-- What an engine's shadow reads as before any capture. -/
def shadowReset (_ : Nat) : Shadow := {}

/-- Every BENCH_READ in progress ends at a capture that replaces the shadows (05 R171). -/
def State.benchBreak (s : State) : State :=
  s.snp.reading.foldl (fun s i => s.finish i { status := 6 }) { s with snp := { s.snp with reading := [] } }

/-- BENCH_CAPTURE: every engine's shadow takes its counts; the descriptor completes with the ID and the datum time of C, and
BENCH_TAKEN is raised (05 R169). -/
def benchCapture (s : State) : State :=
  match s.snp.flight with
  | [] => s
  | b :: rest =>
    let time := s.stampVco (4 * b.cap)
    let s := s.benchBreak
    let sh := (List.range 1024).foldl (fun m e => SMap.set shadowReset m e (s.shadowOf e b.cap)) ([] : SMap Shadow)
    let snp := { s.snp with flight := rest, lastId := b.id, unread := true, shadows := sh, timed := b.timed,
                            overwrote := s.snp.unread && b.ovw, capTime := time }
    let s := { s with snp := snp }.raise 0x0A01 [it2 b.id, itTime time]
    match b.desc with
    | some i => s.finish i { result := leBytes 2 b.id ++ leBytes 10 time }
    | none => s

def execBenchCapture (s : State) : Host.Outcome State Fault Refusal := answer (benchCapture s)

/-- The benchmark header (05 R171). -/
def State.benchHeader (s : State) (count parts : Nat) : List Byte :=
  sealRecord (leBytes 1 0x20 ++ leBytes 1 0 ++ leBytes 2 (s.devNum * 1024) ++ leBytes 2 s.snp.lastId ++ leBytes 2 count ++
    leBytes 1 parts ++ leBytes 1 (b2n s.snp.timed + 2 * b2n s.snp.overwrote) ++ leBytes 8 0 ++ leBytes 10 s.snp.capTime)

/-- Bytes 0 to 5 of an engine's record (05 R171). -/
def State.benchHead (s : State) (ty e : Nat) (x : Shadow) : List Byte :=
  leBytes 1 ty ++ leBytes 1 (x.site + 64 * b2n x.member + 128 * b2n x.running) ++ leBytes 2 (e + s.devNum * 1024) ++
    leBytes 2 s.snp.lastId

/-- The records of one engine, one for each part set (05 R171). -/
def State.benchRecords (s : State) (e parts : Nat) : List Byte :=
  let x := s.snp.shadows.get shadowReset e
  let c (k : Nat) := x.cs.getD k 0
  let r0 := sealRecord (s.benchHead 0x21 e x ++ leBytes 6 x.cyc ++ leBytes 6 x.vec ++ leBytes 4 x.fails ++ leBytes 4 x.stall ++
    leBytes 2 (b2n x.stalled + 2 * b2n x.halted + 4 * b2n x.barrier + 8 * b2n x.off))
  let rc (ty k : Nat) := sealRecord (s.benchHead ty e x ++ leBytes 2 0 ++
    [0, 1, 2, 3].flatMap (fun j => leBytes 4 (c (k + j))) ++ leBytes 4 0)
  (if parts.testBit 0 then r0 else []) ++ (if parts.testBit 1 then rc 0x22 0 else []) ++
    (if parts.testBit 2 then rc 0x23 4 else [])

/-- BENCH_READ's effect once its descriptor has started: the blocks are written in order, `upto` of them before a capture that
replaces the shadows ends the read (05 R171). -/
def benchRead (i : DescId) (id first count parts : Nat) (release : Bool) (o : DataOut) (upto : Nat) (s : State) : State :=
  if id ≠ s.snp.lastId then s.finish i { status := 1 }
  else
    let bytes := s.benchHeader count parts ++ (List.range count).flatMap (fun k => s.benchRecords (first + k) parts)
    let n := min o.blocks.toNat (ceilDiv bytes.length 4096)
    if upto < n then
      let s := s.outBlocks o 0 (cutBlocks upto bytes)
      { s with snp := { s.snp with reading := s.snp.reading ++ [i] } }
    else
      let s := s.outBlocks o 0 (cutBlocks n bytes)
      { s with snp := { s.snp with unread := s.snp.unread && !release, overwrote := false } }.finish i {}

/-- BENCH_READ (05 R171). -/
def execBenchRead (d : DescRef) (id first count : BitVec 16) (parts : Byte) (release : Bool) (out : DataOut) (upto : Word)
    (s : State) : Host.Outcome State Fault Refusal :=
  answer (s.runChecked (descId d 0x19) (rowFields (.benchRead d id first count parts release out upto)) false
    (malformedCause false (decide (1024 < first.toNat + count.toNat) || decide (8 ≤ parts.toNat)) (outBad out)) false fun k =>
      benchRead k id.toNat first.toNat count.toNat parts.toNat release out upto.toNat)

end Sys2Proof.Machine
end

