-- ==== Sys2Proof/Machine/Fabric.lean ====
section
/-! DEFINITION. What reaches the device from the fabric (08): slots and map addresses through a parcel port, region idle, RAM error
correction, and readback capture. -/

namespace Sys2Proof.Machine

/-- An overflow of engine index i of a parcel: sticky bits, and the event at the first of a run or stretch (08 R245). -/
def State.portOverflow (s : State) (p i : Nat) : State :=
  let raised := (s.p p).ovfRaised
  let s := s.modP p fun x => { x with ppOvf := x.ppOvf ||| 2 ^ i, ppOvfS := true, ovfRaised := true }
  if raised then s else s.raise 0x1060 [it1 p]

/-- PARCEL_PORT_WRITE: lane e delivers cnt + 1 slots at the net-0 edge, at most four of four bits; it is discarded whole where the edge
before presented PP_RDY = 0 (08 R244, R245). Until ports are enabled nothing arrives (08 R242). -/
def parcelPortWrite (e data cnt sel : Nat) (s : State) : State :=
  let p := e / 32
  if !s.portsOpen p then s
  else
    let q := s.v e
    if !q.rdy then s.portOverflow p (e % 32)
    else
      let n := if sel = 0 then min 4 (cnt + 1) else cnt + 1
      let w := slotWidth sel
      let new := (List.range n).map fun i => { raw := fld data (w * i) w, sel := sel, at_ := s.netEdge : PSlot }
      let s := s.setV e { q with buf := q.buf ++ new }
      if n < cnt + 1 then s.portOverflow p (e % 32) else s

def execParcelPortWrite (e : EngineNo) (data : BitVec 16) (cnt : BitVec 3) (sel : BitVec 2) (s : State) :
    Host.Outcome State Fault Refusal :=
  answer (parcelPortWrite e.toNat data.toNat cnt.toNat sel.toNat s)

/-- MAP_QUEUE_WRITE: map address 0, then 1, each with its valid bit; where the edge before presented PP_MARDY = 0 they are discarded, and in log mode ignored
(08 R247). -/
def mapQueueWrite (p : Nat) (new : List (Nat × Bool)) (s : State) : State :=
  if !s.portsOpen p || !s.mapMode p || new.isEmpty then s
  else
    let x := s.p p
    if !x.mardy then (s.setP p { x with mqOvf := true }).raise 0x1061 [it1 p]
    else s.setP p { x with mq := x.mq ++ new }

def execMapQueueWrite (p : ParcelNo) (ma0 ma1 : Option (BitVec 40 × Bool)) (s : State) : Host.Outcome State Fault Refusal :=
  answer (mapQueueWrite p.toNat ((ma0.toList ++ ma1.toList).map (fun q => (q.1.toNat, q.2))) s)

/-- Every slot buffer of a parcel is emptied (08 R250). -/
def State.emptyBufs (s : State) (p : Nat) : State :=
  s.each ((List.range 32).map (· + 32 * p)) fun s e =>
    if (s.v e).buf.isEmpty then s else s.modV e fun q => { q with buf := [] }

/-- A command bit of PCL_PP_CMD: not while a site with engines in the parcel has a run active (08 R257). -/
def State.portCmd (s : State) (p : Nat) (f : State → State) : State :=
  s.toParcel p (parBase p + 0x25008) fun s =>
    if s.parActive p then s.writeInRun 0xFFFF (parBase p + 0x25008) else f s

/-- BUF_FLUSH (08 R250). -/
def execBufFlush (p : ParcelNo) (s : State) : Host.Outcome State Fault Refusal :=
  answer (s.hostAccess fun s => s.portCmd p.toNat fun s => s.emptyBufs p.toNat)

/-- MQ_FLUSH (08 R250). -/
def execMqFlush (p : ParcelNo) (s : State) : Host.Outcome State Fault Refusal :=
  answer (s.hostAccess fun s => s.portCmd p.toNat fun s => s.emptyMq p.toNat)

/-- REGION_IDLE: RGN_IDLE as sampled on net 0; a region is gated while its bit and its gate_en are 1 (08 R239). -/
def execRegionIdle (idle : BitVec 16) (s : State) : Host.Outcome State Fault Refusal :=
  answer (if s.fab.clocks then { s with fab := { s.fab with idle := idle.toNat } } else s)

/-- The number of wrong bits of a fabric RAM word, of its 72 data and 8 check bits (08 R232). -/
def State.ramErrors (s : State) (w : Nat) : Nat := (maskBits 80 (s.fab.ramFlip.get zeroNat w)).length

/-- The 72 data bits that SECDED makes of a fabric RAM word: corrected, or as stored where it is uncorrectable (08 R232). -/
def State.ramWordAt (s : State) (w : Nat) : Nat :=
  let v := s.fab.ram.get zeroNat w
  if s.ramErrors w < 2 then v else v ^^^ s.fab.ramFlip.get zeroNat w % 2 ^ 72

/-- An uncorrectable word is counted and reported by RAM column, block and word (08 R232). -/
def State.ramUnc (s : State) (w : Nat) : State :=
  { s with fab := { s.fab with eccUnc := satAdd 16 s.fab.eccUnc 1 } }.raise 0x0380 [it1 (w / 512 / 72), it2 (w / 512 % 72), it2 (w % 512)]

/-- A word is read, as it was before the edge: its data and the number `n` of its wrong bits give SBE and DBE; a corrected one is counted,
and waits to be written back where it has not been written at this edge (08 R231, R232). -/
def State.readRam (s : State) (w old n : Nat) : Nat × Bool × Bool × State :=
  if n = 0 then (old, false, false, s)
  else if n = 1 then
    (old, true, false, { s with fab := { s.fab with eccCorr := satAdd 16 s.fab.eccCorr 1,
                                                    ramBack := if s.ramErrors w = 0 then s.fab.ramBack else w :: s.fab.ramBack.filter (fun k => decide (k ≠ w)) } })
  else (old, false, true, s.ramUnc w)

/-- The lanes of a mask are written: check bits are made afresh over the merged word, a write-back that waits is dropped, and a partial
write into an uncorrectable word counts and reports it (08 R230, R232). -/
def State.writeRam (s : State) (w mask data : Nat) : State :=
  let v := s.ramWordAt w
  let s := if 2 ≤ s.ramErrors w ∧ mask ≠ 2 ^ 72 - 1 then s.ramUnc w else s
  { s with fab := { s.fab with ram := s.fab.ram.set zeroNat w ((v ^^^ (v &&& mask)) ||| (data &&& mask)),
                               ramFlip := s.fab.ramFlip.set zeroNat w 0,
                               ramBack := s.fab.ramBack.filter (fun k => decide (k ≠ w)) } }

/-- FABRIC_RAM_READ: a port reads a physical word, in which bits have turned since it was written (08 R230, R232). Under GSR it returns
0 (08 R242). -/
def fabricRamRead (block : Nat) (portB : Bool) (word flips : Nat) (s : State) : State :=
  if s.fab.gsr || !s.cfg.loaded then s
  else
    let w := 512 * block + word
    let s := { s with fab := { s.fab with ramFlip := s.fab.ramFlip.set zeroNat w (s.fab.ramFlip.get zeroNat w ^^^ flips) } }
    let (v, sbe, dbe, s) := s.readRam w (s.ramWordAt w) (s.ramErrors w)
    let out := v + 2 ^ 72 * b2n sbe + 2 ^ 73 * b2n dbe
    { s with fab := { s.fab with ramOut := s.fab.ramOut.set zeroNat (2 * block + b2n portB) out } }

def execFabricRamRead (block : Fin 4608) (portB : Bool) (word : BitVec 9) (flips : List (Fin 80)) (s : State) :
    Host.Outcome State Fault Refusal :=
  answer (fabricRamRead block.val portB word.toNat ((flips.dedup.map (fun i => 2 ^ i.val)).sum) s)

/-- ECC_WRITE_BACK: the corrected word is stored, unless a write has come first (08 R232). -/
def execEccWriteBack (block : Fin 4608) (word : BitVec 9) (s : State) : Host.Outcome State Fault Refusal :=
  let w := 512 * block.val + word.toNat
  answer (if s.fab.ramBack.contains w then
    { s with fab := { s.fab with ramFlip := s.fab.ramFlip.set zeroNat w 0, ramBack := s.fab.ramBack.filter (fun k => decide (k ≠ w)) } }
  else s)

/-- A frame of configuration SRAM before any load. -/
def zeroFrame (_ : Nat) : List Byte := List.replicate 512 0

/-- The frames of a contention sweep in order: 135 to 142 of every column (11 R331). -/
def sweepFrame (k : Nat) : Nat := 144 * (k / 8) + 135 + k % 8

/-- Frames 135 to 142 of every column, as SRAM holds them. -/
def State.sramLong (s : State) : List (Nat × List Byte) :=
  (List.range 1536).map fun k => (sweepFrame k, s.fab.sram.get zeroFrame (sweepFrame k))

/-- The design that configuration SRAM holds, with the long-line drivers that its bits enable; none while no design is loaded (08 R226,
R234). -/
def State.design (s : State) : Design :=
  if s.cfg.loaded then (Config.netlist s.fab.sram).withTaps (Config.tapBits s.sramLong) else {}

/-- A flip-flop whose output the design does not use (08 R228). -/
def State.unusedFf (s : State) (n : Nat) : Bool := !(s.design.cell n).used

/-- READBACK_CAPTURE's effect once its descriptor has started (08 R253, R254). -/
def readbackCapture (i : DescId) (id net : Nat) (timed ovw : Bool) (t : Nat) (s : State) : State :=
  if (s.fab.rbUnread && !ovw) || s.fab.gsr || !s.cfg.loaded then s.finish i { status := 1 }
  else if s.fab.rbPend.isSome then s.finish i { status := 3 }
  else if timed && decide (ofVisible t < s.tim.value) then s.finish i { status := 4 }
  else { s with fab := { s.fab with rbPend := some { desc := i, id := id, net := net, ovw := ovw, timed := timed, t := ofVisible t, from_ := s.tim.tick } } }

/-- READBACK_CAPTURE (08 R253). -/
def execReadbackCapture (d : DescRef) (id : BitVec 16) (net : BitVec 5) (timed ovw : Bool) (t : DatumTime) (s : State) :
    Host.Outcome State Fault Refusal :=
  answer (s.runDesc (descId d 0x27) (rowFields (.readbackCapture d id net timed ovw t)) false fun k =>
    readbackCapture k id.toNat net.toNat timed ovw t.toNat)

/-- Bytes of flags, bit 0 first. -/
def flagBytes : Nat → (Nat → Bool) → List Byte
  | 0, _ => []
  | n + 1, f => BitVec.ofNat 8 (((List.range 8).map fun i => if f i then 2 ^ i else 0).sum) :: flagBytes n (fun i => f (i + 8))

/-- Capture frame 2 × column + index: the flip-flop of cell k of row r at bit 16r + k, 256 rows in a frame of index 0 and the other 128
in one of index 1 (08 R255). -/
def captureFrame (ffs : SMap Bool) (k : Nat) : List Byte :=
  let first := 6144 * (k / 2) + 4096 * (k % 2)
  if k % 2 = 0 then flagBytes 512 (fun i => ffs.get noFlag (first + i))
  else flagBytes 256 (fun i => ffs.get noFlag (first + i)) ++ List.replicate 256 0

/-- READBACK_CAPTURE_EDGE, once the edge E has come: every flip-flop's shadow holds its Q of then, one whose output the design does not use
0, and the descriptor completes with the ID and the datum time of E (08 R228, R253). -/
def captureEdge (s : State) : State :=
  match s.fab.rbPend.bind fun b => b.shot.map fun e => (b, e) with
  | none => s
  | some (b, ff, at_) =>
    let m := ff.filter (fun q => !s.unusedFf q.1)
    { s with fab := { s.fab with rbPend := none, rbId := b.id, rbUnread := true, rbHeld := true, rbFf := m } }.finish
      b.desc { result := leBytes 2 b.id ++ leBytes 10 at_ }

def execReadbackCaptureEdge (s : State) : Host.Outcome State Fault Refusal := answer (captureEdge s)

/-- 1 ms has passed since T, or since the descriptor executed (08 R254). -/
def State.captureLate (s : State) (b : RbPend) : Bool :=
  if b.timed then decide (b.t + 1000000 * 2 ^ 40 ≤ s.tim.value) else decide (b.from_ + usTicks 1000 ≤ s.tim.tick)

/-- READBACK_TIMEOUT: the net gave no edge within 1 ms (08 R254). -/
def execReadbackTimeout (s : State) : Host.Outcome State Fault Refusal :=
  match s.fab.rbPend with
  | none => answer s
  | some b =>
    answer (if b.shot.isNone && s.captureLate b then { s with fab := { s.fab with rbPend := none } }.finish b.desc { status := 5 } else s)

/-- A load ends a capture that waits and discards the shadows (08 R254, 10 R317). -/
def State.readbackLoad (s : State) : State :=
  let s := match s.fab.rbPend with
    | some b => { s with fab := { s.fab with rbPend := none } }.finish b.desc { status := 6 }
    | none => s
  { s with fab := { s.fab with rbUnread := false, rbHeld := false, rbFf := [] } }

/-- READBACK_READ's effect once its descriptor has started: frames in blocks of eight; the scrubber's read port is lent for the time of the
read, 200 µs for 384 frames (08 R255, 11 R333). DESIGN CHOICE (log entry 74): the rule bounds that time. -/
def readbackRead (i : DescId) (id first count : Nat) (release : Bool) (o : DataOut) (s : State) : State :=
  if !s.fab.rbHeld || decide (id ≠ s.fab.rbId) then s.finish i { status := 1 }
  else
    let bytes := (List.range count).flatMap fun k => captureFrame s.fab.rbFf (first + k)
    let s := s.outBlocks o 0 (cutBlocks (ceilDiv count 8) bytes)
    { s with fab := { s.fab with rbUnread := s.fab.rbUnread && !release },
             scb := { s.scb with lentTo := max s.scb.lentTo (s.tim.tick + usTicks 200 * count / 384) } }.finish i {}

/-- READBACK_READ (08 R255). -/
def execReadbackRead (d : DescRef) (id : BitVec 16) (first : Word) (count : BitVec 16) (release : Bool) (out : DataOut)
    (s : State) : Host.Outcome State Fault Refusal :=
  answer (s.runChecked (descId d 0x28) (rowFields (.readbackRead d id first count release out)) false
    (malformedCause false (decide (count = 0) || decide (384 < first.toNat + count.toNat) ||
      (decide (out.blocks ≠ 0) && decide (out.blocks.toNat ≠ ceilDiv count.toNat 8))) (outBad out)) false fun k =>
        readbackRead k id.toNat first.toNat count.toNat release out)

end Sys2Proof.Machine
end

