-- ==== Sys2Proof/Machine/Pins.lean ====
section
/-! DEFINITION. General-purpose pins (14): what a pad shows, the function switch, locks, serial masters, run triggers. -/

namespace Sys2Proof.Machine

/-- PIN_FUNCn (14 R403). -/
def funcOff (n : Nat) : Nat := 0x700000 + 4 * n
def State.pinFunc (s : State) (n : Nat) : Nat := s.regF (funcOff n) 0 4

/-- The bit of pin n in a group of three registers that starts at an offset (14 R403). -/
def State.pinBit (s : State) (off n : Nat) : Bool := (s.reg (off + 4 * (n / 32))).testBit (n % 32)

/-- A sensed bank supply where no change has been commanded: present, at 1.8 V. -/
def bankReset (_ : Nat) : Nat := 1

/-- The sensed supply level of a pin's bank (14 R385). -/
def State.bankLevel (s : State) (n : Nat) : Nat := s.pins.bank.get bankReset (n / 32)

/-- Output enable and value of a pin boot table state (10 R297). -/
def bootDrive (st : Nat) : Bool × Bool := (decide (st = 3) || decide (st = 4), decide (st = 4))

/-- The datum tick whose free levels the pads show: in Sleep the levels at its entry are held (15 R404). -/
def State.padTick (s : State) : Nat := if s.pwr.state = .sleep then s.pwr.sleepAt else s.tim.tick

/-- An SPI master (14 R401). -/
def State.spi (s : State) (m : Nat) : Spi := s.pins.spi.get (fun _ => {}) m
def State.setSpi (s : State) (m : Nat) (x : Spi) : State :=
  { s with pins := { s.pins with spi := s.pins.spi.set (fun _ => {}) m x } }

/-- The bits of a word that a master shifts: len + 1 (14 R401). -/
def State.spiBits (s : State) (m : Nat) : Nat := s.regF (0x700600 + 0x10 * m) 10 5 + 1

/-- Half a period of SCLK in cycles of the control clock: div + 1, div below 3 taken as 3 (14 R401, R403). -/
def State.spiHalf (s : State) (m : Nat) : Nat := max 3 (s.regF (0x700600 + 0x10 * m) 0 8) + 1

/-- Cycles of the control clock since a transfer began: the system clock's, or FIO's, which are free (01, Clock sources; 14 R401). -/
def State.spiCycles (s : State) (m : Nat) : Nat :=
  if s.pwr.coreClk then 4 * (s.padTick - (s.spi m).start) / 15 else Config.fioCycles (s.spi m).start s.padTick

/-- Edges of SCLK passed in a transfer: the first comes one period after CS#, and there are two for each bit (14 R401). -/
def State.spiEdges (s : State) (m : Nat) : Nat :=
  let h := s.spiHalf m
  if s.spiCycles m < 2 * h then 0 else min (2 * s.spiBits m) ((s.spiCycles m - 2 * h) / h + 1)

/-- The transfer has come to its end: CS# is released one period after the last edge (14 R401). -/
def State.spiOver (s : State) (m : Nat) : Bool := decide ((2 * s.spiBits m + 3) * s.spiHalf m ≤ s.spiCycles m)

/-- The place in the word of the k-th bit shifted: from the most significant down, or with lsb from the least significant up (14 R401). -/
def State.spiPlace (s : State) (m k : Nat) : Nat :=
  if (s.reg (0x700600 + 0x10 * m)).testBit 15 then k else s.spiBits m - 1 - k

/-- SCLK: at cpol, and inverted between an odd edge and the next (14 R401). -/
def State.sclk (s : State) (m : Nat) : Bool :=
  let rest := (s.reg (0x700600 + 0x10 * m)).testBit 8
  if (s.spi m).busy then xor rest (decide (s.spiEdges m % 2 = 1)) else rest

/-- MOSI of a master in a transfer: with cpha = 0 a bit lasts up to its second edge, with cpha = 1 from its first edge to the next bit's;
outside a transfer, and before the first bit, the rules give no level (14 R401). -/
def State.mosi (s : State) (m n : Nat) : Bool :=
  let e := s.spiEdges m
  let cpha := (s.reg (0x700600 + 0x10 * m)).testBit 9
  if (s.spi m).busy = false ∨ (cpha = true ∧ e = 0) then Config.padFree (288 + n) s.padTick
  else (s.spi m).send.testBit (s.spiPlace m (min (s.spiBits m - 1) (if cpha then (e - 1) / 2 else e / 2)))

/-- Output enable and value that a function gives a pin (14 R386). DESIGN CHOICE (log entry 64): en = 0 holds a FAIL_OUT source deasserted
and does not clear what a level-mode output has latched, so en = 1 shows it again (04 R133, R136). -/
def State.funcDrive (s : State) (n f : Nat) : Bool × Bool :=
  if f = 0 then (s.pinBit 0x700210 n, s.pinBit 0x700200 n)
  else if f = 1 then ((s.fab.fio.get zeroNat n).testBit 1, (s.fab.fio.get zeroNat n).testBit 0)
  else if f = 3 then
    (let m := n / 4 % 4
     if n % 4 = 2 then (false, false)
     else if n % 4 = 3 then (true, !(s.spi m).busy)
     else (true, if n % 4 = 0 then s.sclk m else s.mosi m n))
  else if f = 5 then
    (let v := s.reg (0x700510 + 4 * (n % 2))
     let on := s.pins.runOut.get noFlag (n % 2)
     let shown := if s.padTick < s.pins.runOutAt.get zeroNat (n % 2) then !on else on
     (true, xor (v.testBit 0 && shown) (v.testBit 1)))
  else if f = 6 then
    (let v := s.failOutReg (n % 4)
     (true, xor (v.testBit 0 && s.pins.failOut.get noFlag (n % 4)) (v.testBit 2)))
  else if f = 7 then (true, s.tim.ppsOut)
  else if f = 8 then (if n % 2 = 0 then (true, Config.padFree (288 + n) s.padTick) else (false, false))
  else if f = 11 then (true, s.pwr.warn)
  else if f = 12 then (true, s.cfg.base)
  else (false, false)

/-- The pin shows its boot state: until it leaves it, and with a fabric function while no design runs, and up to release + 64 t
(10 R314, 14 R388, R390). -/
def State.showsBoot (s : State) (n : Nat) : Bool :=
  (s.pin n).boot ||
    ((decide ((s.pin n).func = 1) || decide ((s.pin n).func = 2)) && (!s.designRuns || decide (s.cfg.phase < 4)))

/-- Output enable and value of a pad: weakly pulled down until a cold start has read the pin boot table, the boot state, the hold latch
during a switch, or the function (10 R314, 14 R385, R386, R388, R391; 15 R404). -/
def State.padDrive (s : State) (n : Nat) : Bool × Bool :=
  if s.bankLevel n = 0 ∨ s.pwr.state = .deepSleep ∨ s.pwr.state = .off then (false, false)
  else if s.showsBoot n then (if s.pins.unread then (false, false) else bootDrive (s.pin n).bootState)
  else match (s.pin n).hold with
    | some h => h
    | none => s.funcDrive n (s.pin n).func

/-- The level at a pad; one that nothing on the device drives has the level its surroundings give it (14 R385, R386). -/
def State.padLevel (s : State) (n : Nat) : Bool :=
  if s.bankLevel n = 0 then false
  else
    let d := s.padDrive n
    if d.1 then d.2 else Config.padFree n s.tim.tick

/-- A pin's input serves its function: out of the boot state, no switch in progress, its bank supplied (14 R385, R386). -/
def State.pinServes (s : State) (n f : Nat) : Bool :=
  decide ((s.pin n).func = f) && !s.showsBoot n && (s.pin n).hold.isNone && decide (s.bankLevel n ≠ 0)

/-- The pin from which an input of a function is taken: the lowest-numbered of those that select it (14 R386). -/
def State.inputPin (s : State) (f : Nat) (of : Nat → Bool) : Option Nat :=
  (List.range 96).find? fun n => of n && decide (s.pinFunc n = f)

/-- That pin serves the input, which is otherwise at its idle level (14 R386). -/
def State.inputServed (s : State) (f : Nat) (of : Nat → Bool) : Bool := (s.inputPin f of).any (s.pinServes · f)

/-- PIN_FUNC_INVALID: what a write of PIN_FUNCn may not hold (14 R387). -/
def funcInvalid (n v : Nat) : Bool :=
  decide (13 ≤ fld v 0 4) || (decide (fld v 0 4 = 2) && decide (n % 8 ≠ 0)) || (decide (fld v 0 4 = 9) && decide (2 ≤ n)) ||
    decide (5 ≤ fld v 4 3) || decide (fld v 8 2 = 3)

/-- A write to a locked pin: its PIN_VIOL bit is set, and the first is reported (14 R395). -/
def State.lockViolation (s : State) (n : Nat) : State :=
  let off := 0x700320 + 4 * (n / 32)
  let t := s.setReg off (s.reg off ||| 2 ^ (n % 32))
  if s.pinBit 0x700320 n then t else t.raise 0x0701 [it1 n, it4 (funcOff n)]

/-- PIN_FUNC_WRITE: a change of function freezes the pad in the hold latch; a second write before the takeover keeps what was
captured; in the boot state the write is only recorded (14 R387, R389, R391, R392, R395, R397). -/
def pinFuncWrite (n v : Nat) (s : State) : State :=
  let locked := s.pinBit 0x700310 n
  let bad := funcInvalid n v
  let s := if locked then s.lockViolation n else s
  let s := if bad then s.raise 0x0703 [it1 n, it4 v] else s
  if locked || bad then s
  else
    let old := s.padDrive n
    let s := s.setReg (funcOff n) (v % 2 ^ 10)
    let s := if n < 2 then
      { s with pins := { s.pins with tamper := s.pins.tamper.set noFlag n (decide (fld v 0 4 = 9)) } } else s
    let x := s.pin n
    if x.hold.isSome || s.showsBoot n || decide (fld v 0 4 = x.func) then s else s.setPin n { x with hold := some old }

def execPinFuncWrite (pin : Fin 96) (value : Word) (s : State) : Host.Outcome State Fault Refusal :=
  answer (s.hostAccess (pinFuncWrite pin.val value.toNat))

/-- FUNCTION_TAKEOVER: at edge +2 the new function takes the pad over (14 R391). -/
def functionTakeover (n : Nat) (s : State) : State :=
  if (s.pin n).hold.isSome then s.setPin n { s.pin n with hold := none, func := s.pinFunc n } else s

def execFunctionTakeover (pin : Fin 96) (s : State) : Host.Outcome State Fault Refusal :=
  answer (functionTakeover pin.val s)

/-- Every pin leaves its boot state; one whose function, as recorded meanwhile, is another than it had switches to it (14 R390, R392, 10
R309). -/
def State.leaveBoot (s : State) : State :=
  s.each (List.range 96) fun s n =>
    let x := s.pin n
    if !s.showsBoot n || x.hold.isSome then s
    else s.setPin n { x with boot := false, hold := if s.pinFunc n = x.func then none else some (bootDrive x.bootState) }

/-- The key sequence allows 64 control-clock cycles between its steps (14 R393). -/
def keyWindow : Nat := 64

/-- PIN_LOCK_KEY_WRITE: the sequence advances, or is abandoned (14 R393). -/
def pinLockKeyWrite (v cycles : Nat) (s : State) : State :=
  let st := if v % 2 ^ 16 = 0x5A1C then 1
    else if s.pins.keyStage = 1 ∧ v % 2 ^ 16 = 0xC3E5 ∧ cycles ≤ keyWindow then 2 else 0
  { s with pins := { s.pins with keyStage := st } }

/-- PIN_LOCK_KEY_WRITE; `cycles` counts the control-clock cycles since the write before it in the sequence. -/
def execPinLockKeyWrite (value : Word) (cycles : Word) (s : State) : Host.Outcome State Fault Refusal :=
  answer (s.hostAccess (pinLockKeyWrite value.toNat cycles.toNat))

/-- PIN_LOCK_WRITE: in the window its bits lock their pins; outside it is ignored and reported, and one that comes late abandons the
sequence (14 R393, R394). -/
def pinLockWrite (k v cycles : Nat) (s : State) : State :=
  let off := 0x700310 + 4 * k
  if s.pins.keyStage = 2 ∧ cycles ≤ keyWindow then s.setReg off (s.reg off ||| v)
  else { s with pins := { s.pins with keyStage := if s.pins.keyStage = 2 then 0 else s.pins.keyStage } }.raise 0x0704 [it4 off]

/-- PIN_LOCK_WRITE; `cycles` counts the control-clock cycles since step 2 of the sequence. -/
def execPinLockWrite (k : Fin 3) (value : Word) (cycles : Word) (s : State) : Host.Outcome State Fault Refusal :=
  answer (s.hostAccess (pinLockWrite k.val value.toNat cycles.toNat))

def execPinFailoutClear (n : BitVec 2) (value : Word) (s : State) : Host.Outcome State Fault Refusal :=
  answer (s.hostAccess (pinFailoutClear n.toNat value.toNat))

/-- SPI_DATA_WRITE: the word starts shifting; while busy the write is ignored and sets err (14 R401). -/
def spiDataWrite (m v : Nat) (s : State) : State :=
  let off := 0x700600 + 0x10 * m
  if (s.spi m).busy then s.setReg off (s.reg off ||| 2 ^ 17)
  else
    let w := v % 2 ^ s.spiBits m
    (s.setSpi m { s.spi m with busy := true, start := s.tim.tick, send := w }).put (.spi m w)

def execSpiDataWrite (m : BitVec 2) (value : Word) (s : State) : Host.Outcome State Fault Refusal :=
  answer (s.hostAccess (spiDataWrite m.toNat value.toNat))

/-- A pin carries the MISO of a master (14 R386). -/
def State.misoServed (s : State) (m : Nat) : Bool := s.inputServed 3 fun n => decide (n / 4 % 4 = m) && decide (n % 4 = 2)

/-- The word that the levels of MISO make, bit k of `v` being the k-th sampled (14 R401). -/
def State.spiWord (s : State) (m v : Nat) : Nat := bitsMask (((List.range (s.spiBits m)).filter v.testBit).map (s.spiPlace m))

/-- SPI_TRANSFER_DONE: the word received is right-aligned; with no pin as MISO the input has read 0. On the system clock it comes once the
transfer's cycles have passed (14 R386, R401). -/
def spiTransferDone (m v : Nat) (s : State) : State :=
  if (s.spi m).busy && (!s.pwr.coreClk || s.spiOver m) then
    s.setSpi m { s.spi m with busy := false, recv := if s.misoServed m then s.spiWord m v else 0 }
  else s

def execSpiTransferDone (m : BitVec 2) (miso : Word) (s : State) : Host.Outcome State Fault Refusal :=
  answer (spiTransferDone m.toNat miso.toNat s)

/-- The external flash is being read: a staging from it is in progress (10 R302, R305, R314). -/
def State.xspiReads (s : State) : Bool :=
  match s.cfg.stage with
  | some x => (match x.src with | .host _ f _ => f && !x.arrived | .boot _ => !x.arrived | .jtag => false)
  | none => false

/-- The lands of the external flash port, in the order SCK, CS#, DS, IO0 to IO7: CS# high and the others weakly pulled down while the
flash is not read (16 R441, 10 R314). -/
def State.xspiLand (s : State) (n : Nat) : XspiLand :=
  if !s.aon.pwrGood then .unpowered else if s.xspiReads then .reading else if n = 1 then .high else .pullDown

/-- RUN_IN_EDGE: the fourth consecutive sample of the new level on the pin that serves the instance (14 R386, R400). -/
def runInEdge (k : Nat) (rise : Bool) (s : State) : State :=
  let v := s.reg (0x700500 + 4 * k)
  let served := s.inputServed 4 fun n => decide (n % 2 = k)
  if v.testBit 0 && served && decide (v.testBit 1 ≠ rise) then
    let s := s.raise 0x0702 [it1 k, itTime (s.stampVco (4 * (s.tim.tick - 3)))]
    if v.testBit 2 then s.abortSite (fld v 8 6) 3 else s
  else s

def execRunInEdge (k : BitVec 1) (rise : Bool) (s : State) : Host.Outcome State Fault Refusal :=
  answer (runInEdge k.toNat rise s)

/-- PIN_BANK_CHANGE: a bank's sensed supply level changes (14 R385). -/
def pinBankChange (b l : Nat) (s : State) : State :=
  if s.pins.bank.get bankReset b = l then s
  else { s with pins := { s.pins with bank := s.pins.bank.set bankReset b l } }.raise 0x0705 [it1 b, it1 l]

def execPinBankChange (bank : Fin 3) (level : BitVec 2) (s : State) : Host.Outcome State Fault Refusal :=
  answer (pinBankChange bank.val level.toNat s)

end Sys2Proof.Machine
end

