-- ==== Sys2Proof/Machine/Logic.lean ====
section
/-! DEFINITION. The user design at work (08): values of its wires, flip-flops and carry (R227 to R229), RAM ports (R230 to R232), long-line
segments (R234), clock nets and regions (R237 to R240). The frames' meaning is a free value, Config.netlist (R226). -/

namespace Sys2Proof.Machine

/-- A flip-flop's output: 0 under GSR (08 R228, R242). -/
def State.ffQ (s : State) (n : Nat) : Bool := !s.fab.gsr && s.fab.ff.get noFlag n

/-- A lane of PP_RES: the results of the last net-0 clock, engine stalled, engine running (08 R248). -/
def State.ppRes (s : State) (e : Nat) : Nat :=
  (s.v e).res + 2 ^ 6 * b2n (decide ((s.e e).seq = 3)) + 2 ^ 7 * b2n (decide ((s.e e).seq = 1))

/-- PP_MARDY, 1 in log mode (08 R247). -/
def State.ppMardy (s : State) (p : Nat) : Bool := !s.mapMode p || (s.p p).mardy

/-- The outbound signals of a parcel port, by kind as Src.port numbers them: what its registers at the boundary have held since the last
net-0 edge; 0 for a parcel whose domain is off (08 R248, R249, 01 R24). -/
def State.portSig (s : State) (p kind i : Nat) : Bool :=
  let x := s.p p
  s.parcelOn p && match kind with
  | 0 => (s.ppRes (32 * p + i / 8)).testBit (i % 8)
  | 1 => (s.v (32 * p + i)).rdy
  | 2 => s.ppMardy p
  | 3 => (x.cqShow.elim 0 CqShow.word).testBit i
  | 4 => x.cqShow.isSome
  | 5 => x.cqShow.any CqShow.first
  | 6 => x.cqShow.any CqShow.last
  | _ => x.cqEndShow

/-- The value of a wire of a design. `fuel` bounds its depth; past it lies a combinational loop, whose value is free. A segment with no
driver has its bus keeper's value, one whose drivers differ a free value (08 R227, R229, R230, R234, R236). -/
def State.wire (s : State) (d : Design) : Nat → Src → Bool
  | 0, _ => Config.unsettled 24576 s.tim.tick
  | fuel + 1, src =>
    match src with
    | .const v => v
    | .lut n =>
      let x := d.cell n
      let v := s.wire d fuel
      let p := x.lut.testBit (8 * b2n (v x.d) + 4 * b2n (v x.c) + 2 * b2n (v x.b) + b2n (v x.a))
      if x.carry then xor p (v (d.cinOf n)) else p
    | .carry n =>
      let x := d.cell n
      let v := s.wire d fuel
      if x.lut.testBit (8 * b2n (v x.d) + 4 * b2n (v x.c) + 2 * b2n (v x.b) + b2n (v x.a)) then v (d.cinOf n) else v x.a
    | .ff n => s.ffQ n
    | .ram b portB bit =>
      let reg := (entryOf d.rams b).any (fun q => if portB then q.2.outReg else q.1.outReg)
      !s.fab.gsr && ((if reg then s.fab.ramReg else s.fab.ramOut).get zeroNat (2 * b + b2n portB)).testBit bit
    | .seg n =>
      if s.fab.gsr then s.fab.seg.get noFlag n
      else match (d.drivers n).map (s.wire d fuel) with
        | [] => s.fab.seg.get noFlag n
        | v :: vs => if vs.all (· == v) then v else Config.unsettled n s.tim.tick
    | .port p kind i => s.portSig p kind i
    | .win kind i => s.winSig kind i
    | .pin n => (s.pinServes n 1 || s.pinServes n 2) && s.padLevel n

/-- A wire of a design may pass every cell and segment on its way. -/
def wireFuel : Nat := 1300000

/-- The value of a wire. -/
def State.sig (s : State) (d : Design) (x : Src) : Bool := s.wire d wireFuel x

/-- The cluster set/reset that a cell listens to is asserted. -/
def State.srOn (s : State) (d : Design) (n : Nat) : Bool :=
  let x := d.cell n
  let k := d.cluster n
  (decide (x.sr = 1) && s.sig d k.sr0) || (decide (x.sr = 2) && s.sig d k.sr1)

/-- What a flip-flop takes at its active edge: set or reset, asynchronous before synchronous, else D where its CE is asserted (08
R228). -/
def State.ffNext (s : State) (d : Design) (n : Nat) : Bool :=
  let x := d.cell n
  let k := d.cluster n
  let ce := decide (x.ce = 0) || (decide (x.ce = 1) && s.sig d k.ce0) || (decide (x.ce = 2) && s.sig d k.ce1)
  if s.srOn d n then x.srSet
  else if ce then s.sig d (x.bypass.getD (.lut n))
  else s.ffQ n

/-- Asynchronous sets and resets act at once: those asserted now set their flip-flops (08 R228, R243). -/
def State.asyncOnce (s : State) (d : Design) : State :=
  { s with fab := { s.fab with ff := d.cells.foldl (fun m q =>
      if q.2.used && q.2.srAsync && s.srOn d q.1 then m.set noFlag q.1 q.2.srSet else m) s.fab.ff } }

/-- One asynchronous action may assert another. `fuel` bounds the chain. -/
def State.async (s : State) (d : Design) : Nat → State
  | 0 => s
  | fuel + 1 => let t := s.asyncOnce d; if t.fab.ff = s.fab.ff then s else t.async d fuel

/-- Bus keepers take the values of the segments that are driven (08 R234). -/
def State.keepSegs (s : State) (d : Design) : State :=
  { s with fab := { s.fab with seg := d.segs.foldl (fun m q =>
      if q.2.isEmpty then m else m.set noFlag q.1 (s.sig d (.seg q.1))) s.fab.seg } }

/-- What the design drives at the general-purpose pins (14 R386). -/
def State.drivePins (s : State) (d : Design) : State :=
  let levels := d.fio.foldl (fun m q => SMap.set zeroNat m q.1 (b2n (s.sig d q.2.1) + 2 * b2n (s.sig d q.2.2))) ([] : SMap Nat)
  { s with fab := { s.fab with fio := levels } }

/-- The design settles: asynchronous controls, bus keepers and its outputs at pins (08 R228, R234). -/
def State.settleLogic (s : State) (d : Design) : State := ((s.async d (d.cells.length + 1)).keepSegs d).drivePins d

/-- The address a RAM port presents, as a view word (08 R230). -/
def State.portAddr (s : State) (d : Design) (p : RamPort) : Nat :=
  ((p.addr.mapIdx fun i x => if s.sig d x then 2 ^ i else 0).sum)

/-- What a RAM port does at an edge: physical word, first bit, lanes written and data in place. -/
def State.portUse (s : State) (d : Design) (b : Nat) (p : RamPort) : Nat × Nat × Nat × Nat :=
  let (w, at_) := viewPlace p.width (s.portAddr d p)
  let mask := laneMask p.width at_ (p.we.map (s.sig d))
  let data := ((p.din.take p.width).mapIdx fun i x => if s.sig d x then 2 ^ (i + at_) else 0).sum
  (512 * b + w, at_, mask, data &&& mask)

/-- The read data a port shows of a 72-bit word, with SBE and DBE. -/
def portView (width at_ word : Nat) (sbe dbe : Bool) : Nat :=
  word / 2 ^ at_ % 2 ^ width + 2 ^ 72 * b2n sbe + 2 ^ 73 * b2n dbe

/-- A port presents the word that a read of it gives: its data, of which `n` bits are wrong (08 R232). -/
def State.showRam (s : State) (out width at_ w old n : Nat) : State :=
  let (v, sbe, dbe, s) := s.readRam w old n
  { s with fab := { s.fab with ramOut := s.fab.ramOut.set zeroNat out (portView width at_ v sbe dbe) } }

/-- An access of one port at an edge of its net, the word and its wrong bits as they were before the edge (08 R230 to R232). `swap` says that an access of the
other port on another net within 1 ns, which came first, takes effect after it (08 R231). -/
def State.ramAccess (s : State) (d : Design) (sig : State) (b : Nat) (portB : Bool) (p : RamPort) (old wrong : Nat) : State :=
  let (w, at_, mask, data) := sig.portUse d b p
  let out := 2 * b + b2n portB
  let now := s.vco
  let near := s.fab.recent.find? (fun a => a.word == w && a.portB != portB && a.net != p.net && decide (now ≤ a.at_ + 6))
  let swap := near.isSome && Config.ramSwap w s.tim.tick
  let acc : RamAcc := { word := w, portB := portB, net := p.net, at_ := now, write := decide (mask ≠ 0), before := old, wrong := wrong,
                        width := p.width, place := at_, mask := mask, data := data }
  let s := { s with fab := { s.fab with recent := acc :: s.fab.recent.filter (fun a => decide (now ≤ a.at_ + 6)) } }
  if mask = 0 then
    match near, swap with
    | some a, true => s.showRam out p.width at_ w a.before a.wrong
    | _, _ => s.showRam out p.width at_ w old wrong
  else
    let s1 := s.writeRam w mask data
    let s1 := match near, swap with
      | some a, true =>
        if a.write then s1.writeRam w a.mask a.data
        else s1.showRam (2 * b + b2n a.portB) a.width a.place w (s1.ramWordAt w) 0
      | _, _ => s1
    match p.mode with
    | .noChange => s1
    | .readFirst => s1.showRam out p.width at_ w old wrong
    | .writeFirst => s1.showRam out p.width at_ w (s1.ramWordAt w) 0

/-- A RAM block at rising edges of some nets: output registers, then the accesses of its enabled ports; where both write a lane, port A's
data is stored (08 R230, R231, R239). -/
def State.ramEdge (s : State) (d : Design) (sig : State) (hit : Nat → Nat → Bool) (b : Nat) (pa pb : RamPort) : State :=
  let clk (p : RamPort) := hit p.net (ramRegion b)
  let reg (portB : Bool) (p : RamPort) (s : State) : State :=
    if clk p && p.outReg then
      let k := 2 * b + b2n portB
      { s with fab := { s.fab with ramReg := s.fab.ramReg.set zeroNat k (s.fab.ramOut.get zeroNat k) } }
    else s
  let s := reg true pb (reg false pa s)
  let use (portB : Bool) (p : RamPort) (s : State) : State :=
    let w := (sig.portUse d b p).1
    if clk p && sig.sig d p.en then s.ramAccess d sig b portB p (sig.ramWordAt w) (sig.ramErrors w) else s
  use false pa (use true pb s)

/-- Edges of some nets at one instant: every flip-flop and RAM port that one of them clocks takes what the design showed before it (08
R227, R228, R230). `hit net rising region`. -/
def State.clockNets (s : State) (d : Design) (hit : Nat → Bool → Nat → Bool) : State :=
  let ff := d.cells.foldl (fun m q =>
    if q.2.used && hit (d.clockOf q.1) (!q.2.falling) (cellRegion q.1) then m.set noFlag q.1 (s.ffNext d q.1) else m) s.fab.ff
  let t := d.rams.foldl (fun t q => t.ramEdge d s (fun g r => hit g true r) q.1 q.2.1 q.2.2) s
  { t with fab := { t.fab with ff := ff } }.settleLogic d

/-- A divided net of ratio n and phase p rises, or falls, at net-0 edge k; with n = 1 it is a copy of net 0 (08 R238). -/
def dividedRises (n p k : Nat) : Bool := decide ((k + n - p % n) % n = 0)
def dividedFalls (n p k : Nat) : Bool := decide (2 ≤ n) && decide ((k + n - p % n) % n = n / 2)

/-- A net rises, or falls, with the net-0 edge k (08 R237, R238). -/
def netWithEdge (d : Design) (k g : Nat) (rising : Bool) : Bool :=
  if g = 0 then rising
  else match d.net g with
    | .divided n p => if rising then dividedRises n p k else dividedFalls n p k
    | _ => false

/-- Nets that fall with net 0, between its edges. -/
def netFalls (d : Design) (g : Nat) (rising : Bool) : Bool :=
  !rising && (decide (g = 0) || (match d.net g with | .divided n _ => decide (n = 1) | _ => false))

/-- A global net carries a user clock: from a clock entry cell, or from a clock pin that serves it (08 R238, 14 R386). -/
def State.userNet (s : State) (d : Design) (g : Nat) : Bool :=
  match d.net g with
  | .entry => true
  | .clkin k => s.pinServes (8 * k) 2
  | _ => false

/-- A user clock's edge in a datum tick: which, and when, is a free value (08 R238). -/
def State.userEdge (s : State) (d : Design) (g : Nat) (rising : Bool) : Bool :=
  s.userNet d g && (if rising then Config.userRises g s.tim.tick else Config.userFalls g s.tim.tick)

/-- Regions gated at the next net-0 edge k: idle, and permitted, at edges k − 2 and k − 3; and between edges k and k + 1: at edge k − 2
(08 R239). -/
def Fab.gatedAt (x : Fab) : Nat := x.gate.getD 1 0 &&& x.gate.getD 2 0
def Fab.gatedAfter (x : Fab) : Nat := x.gate.getD 2 0

/-- The CQ word that a parcel presents from now on, and PP_CQ_END (08 R248, R249). -/
def State.showCq (s : State) (p : Nat) : State :=
  s.modP p fun x =>
    let cq := x.cq.cqSkip s.netEdge x.cq.q.length
    { x with cq := cq, cqEndShow := cq.cqEnd s.netEdge,
             cqShow := (cq.cqWord s.netEdge).map fun w => { word := w, first := cq.cqFirst s.netEdge, last := cq.cqLast s.netEdge } }

/-- A rising edge of net 0: the nets that rise or fall with it clock the design, then the registers of the parcel ports take what they
present, the request of the host window passes, and the region samples move (08 R237 to R239, R245, R247 to R249, R252). -/
def State.netZeroRises (s : State) (d : Design) : State :=
  let k := s.fab.edges
  let gated := s.fab.gatedAt
  let s := s.clockNets d fun g up r => netWithEdge d k g up && d.receives r g && !gated.testBit r
  let s := { s with fab := { s.fab with edges := k + 1, fallAt := some (s.netEdge + levelDiv s.pwr.fabLevel), gate := ((s.fab.idle &&& s.reg 0x308008) :: s.fab.gate).take 3 },
                    hif := { s.hif with fab := match s.hif.fab with | a :: l => { a with shown := true } :: l | [] => [] } }
  let s := s.each (s.vq.map (·.1)) fun s e =>
    s.modV e fun q => { q with res := q.resNext, resNext := 0, rdy := decide (q.buf.length ≤ 56) }
  s.each (s.par.map (·.1)) fun s p =>
    (s.modP p fun x => { x with mardy := decide (x.mq.length ≤ 126) }).showCq p

/-- Net 0 falls, half a fabric clock after its rise at the level of then (08 R237, R240). -/
def State.netZeroFalls (s : State) (d : Design) : State :=
  { s with fab := { s.fab with fallAt := none } }.clockNets d fun g u r => netFalls d g u && d.receives r g && !s.fab.gatedAfter.testBit r

/-- Net 0's next rise lies in the present datum tick, in which the tick PLL counts and no level change pauses the nets (08 R237, R240). -/
def State.risesNow (s : State) : Bool :=
  s.pllCounts && decide (s.netEdge < s.vco + 4) && decide (s.fab.pauseTo ≤ s.tim.tick)

/-- The edge E of a readback capture that waits lies in the present datum tick: the first rise of its net, at or after T in the timed mode
(08 R253). -/
def State.captureNow (s : State) (d : Design) (b : RbPend) : Bool :=
  b.shot.isNone && (!b.timed || decide (b.t ≤ s.tim.value)) &&
    ((s.risesNow && netWithEdge d s.fab.edges b.net true) || s.userEdge d b.net true)

/-- The flip-flops' values that a capture at this tick takes, given those before the edges of user clocks in it: of one that such an edge
clocks, the old or the new value (08 R253). -/
def State.captured (s : State) (d : Design) (before : SMap Bool) : SMap Bool :=
  d.cells.foldl (fun m q =>
    if s.userNet d (d.clockOf q.1) && Config.rbOld q.1 s.tim.tick then m.set noFlag q.1 (before.get noFlag q.1) else m) s.fab.ff

/-- The clock edges of a datum tick: those of net 0 that lie in it, and the user clocks', with the edge of a readback capture (08 R237,
R238, R240, R253). -/
def State.tickEdges (s0 : State) (d : Design) : State :=
  if !s0.fab.clocks then s0
  else
    let rise := s0.risesNow
    let falls (s : State) : Bool := s.pllCounts && s.fab.fallAt.any fun c => decide (c < s.vco + 4)
    let s := if falls s0 then s0.netZeroFalls d else s0
    let s := if rise then s.netZeroRises d else s
    let before := s.fab.ff
    let s := if d.nets.any (fun q => s.userEdge d q.1 true || s.userEdge d q.1 false) then
      s.clockNets d fun g u r => s.userEdge d g u && d.receives r g && !s.fab.gatedAfter.testBit r
    else s
    match s0.fab.rbPend with
    | none => s
    | some b =>
      if s0.captureNow d b then
        { s with fab := { s.fab with rbPend := some { b with shot := some (s.captured d before, s.stampNow) } } }
      else s

/-- The fabric through a datum tick: its clock edges, and the design settles on what its inputs have become; nothing under GSR, with no
design, outside Run and Idle, or before CLK_SWITCH after a wake from Sleep (08 R242, 15 R404, R412). -/
def State.fabricTick (s : State) : State :=
  if s.designRuns && (decide (s.pwr.state = .run) || decide (s.pwr.state = .idle)) && !s.pwr.fromSleep then (s.tickEdges s.design).settleLogic s.design
  else s

/-- Release tick 0 for the design: flip-flops take their init values, segments read 0 until driven, asynchronous controls act (08 R234,
R243). -/
def State.startDesign (s : State) : State :=
  let d := s.design
  let ff := d.cells.foldl (fun m q => SMap.set noFlag m q.1 q.2.init) ([] : SMap Bool)
  let s := s.each (s.vq.map (·.1)) fun s e => s.modV e fun q => { q with rdy := true }
  let s := s.each (s.par.map (·.1)) fun s p => s.modP p fun x => { x with mardy := true, cqShow := none, cqEndShow := false }
  { s with fab := { s.fab with ff := ff, seg := [], ramOut := [], ramReg := [], recent := [], edges := 0, gate := [], fallAt := none } }.settleLogic d

end Sys2Proof.Machine
end

