-- ==== Sys2Proof/Machine/Aes.lean ====
section
/-! DEFINITION. The three standards that the chapter on images names (10, R298, R299): AES-256 (FIPS 197), Galois/Counter Mode
(NIST SP 800-38D) and the AES key wrap (RFC 3394). Blocks are lists of 16 bytes. -/

namespace Sys2Proof.Machine

/-- A byte times x in the field of AES. -/
def aesX (b : Byte) : Byte := (b <<< 1) ^^^ (if b.msb then 0x1B#8 else 0#8)

/-- The product of two bytes in the field of AES. `n` bits of the second are still to use, lowest first. -/
def aesMulN : Nat → Byte → Byte → Byte
  | 0, _, _ => 0
  | n + 1, a, b => (if b.getLsbD 0 then a else 0#8) ^^^ aesMulN n (aesX a) (b >>> 1)

def aesMul (a b : Byte) : Byte := aesMulN 8 a b

/-- The inverse in the field: the 254th power; 0 for 0. -/
def aesInv (b : Byte) : Byte :=
  let p2 := aesMul b b
  let p4 := aesMul p2 p2
  let p8 := aesMul p4 p4
  let p16 := aesMul p8 p8
  let p32 := aesMul p16 p16
  let p64 := aesMul p32 p32
  let p128 := aesMul p64 p64
  aesMul p2 (aesMul p4 (aesMul p8 (aesMul p16 (aesMul p32 (aesMul p64 p128)))))

/-- SubBytes of one byte. -/
def aesSub (b : Byte) : Byte :=
  let x := aesInv b
  x ^^^ x.rotateLeft 1 ^^^ x.rotateLeft 2 ^^^ x.rotateLeft 3 ^^^ x.rotateLeft 4 ^^^ 0x63#8

/-- The inverse of SubBytes. -/
def aesSubInv (y : Byte) : Byte := aesInv (y.rotateLeft 1 ^^^ y.rotateLeft 3 ^^^ y.rotateLeft 6 ^^^ 0x05#8)

/-- Two byte strings combined bit by bit. -/
def xorBytes (a b : List Byte) : List Byte := List.zipWith (fun x y => x ^^^ y) a b

/-- The round constant of a key word. -/
def aesRcon : Nat → Byte
  | 0 => 0x8D
  | n + 1 => aesX (aesRcon n)

/-- Key words from number i on, `n` of them, put in front of those before, newest first. -/
def aesWords : Nat → Nat → List (List Byte) → List (List Byte)
  | 0, _, acc => acc
  | n + 1, i, acc =>
    let p := acc.getD 0 []
    let t := if i % 8 = 0 then xorBytes ((p.rotateLeft 1).map aesSub) [aesRcon (i / 8), 0, 0, 0]
      else if i % 8 = 4 then p.map aesSub else p
    aesWords n (i + 1) (xorBytes (acc.getD 7 []) t :: acc)

/-- The fifteen round keys of a 256-bit key. -/
def aesRoundKeys (key : List Byte) : List (List Byte) :=
  let first := (List.range 8).map (fun i => sliceAt key (4 * i) 4)
  let w := (aesWords 52 8 first.reverse).reverse
  (List.range 15).map (fun r => w.getD (4 * r) [] ++ w.getD (4 * r + 1) [] ++ w.getD (4 * r + 2) [] ++ w.getD (4 * r + 3) [])

/-- Byte i of a block. -/
def blkAt (b : List Byte) (i : Nat) : Byte := b.getD i 0

/-- ShiftRows, by `d` columns for each row number: 1 forward, 3 back. -/
def aesShift (d : Nat) (b : List Byte) : List Byte :=
  (List.range 16).map (fun k => blkAt b (k % 4 + 4 * ((k / 4 + d * (k % 4)) % 4)))

/-- A column multiplied by the circulant matrix whose first row is given. -/
def aesMixCol (m : List Byte) (c : List Byte) : List Byte :=
  (List.range 4).map fun r => (List.range 4).foldl (fun acc k => acc ^^^ aesMul (m.getD ((k + 4 - r) % 4) 0) (c.getD k 0)) 0

/-- MixColumns or its inverse, by the matrix's first row. -/
def aesMix (m : List Byte) (b : List Byte) : List Byte := (List.range 4).flatMap fun c => aesMixCol m (sliceAt b (4 * c) 4)

/-- The rounds of the cipher after the first key addition. -/
def aesRounds : List (List Byte) → List Byte → List Byte
  | [], b => b
  | [k], b => xorBytes (aesShift 1 (b.map aesSub)) k
  | k :: ks, b => aesRounds ks (xorBytes (aesMix [2, 3, 1, 1] (aesShift 1 (b.map aesSub))) k)

/-- AES-256 of a block under the round keys. -/
def aesWith (ks : List (List Byte)) (b : List Byte) : List Byte :=
  match ks with
  | [] => b
  | k :: rest => aesRounds rest (xorBytes b k)

/-- AES-256 of a block under a key. -/
def aes256 (key b : List Byte) : List Byte := aesWith (aesRoundKeys key) b

/-- The inverse rounds, with the round keys from the last but one to the first. -/
def aesRoundsInv : List (List Byte) → List Byte → List Byte
  | [], b => b
  | [k], b => xorBytes ((aesShift 3 b).map aesSubInv) k
  | k :: ks, b => aesRoundsInv ks (aesMix [14, 11, 13, 9] (xorBytes ((aesShift 3 b).map aesSubInv) k))

/-- The inverse of AES-256 on a block. -/
def aes256Inv (key b : List Byte) : List Byte :=
  match (aesRoundKeys key).reverse with
  | [] => b
  | k :: rest => aesRoundsInv rest (xorBytes b k)

/-- The n big-endian bytes of a number. -/
def beBytes (n v : Nat) : List Byte := (leBytes n v).reverse

/-- The number that big-endian bytes spell. -/
def beNat (b : List Byte) : Nat := leNat b.reverse

/-- The key stream of counter mode: `n` blocks from counter c on, after a 96-bit initialization vector. -/
def gcmStream (ks : List (List Byte)) (iv : List Byte) : Nat → Nat → List Byte
  | 0, _ => []
  | n + 1, c => aesWith ks (iv ++ beBytes 4 (c % 2 ^ 32)) ++ gcmStream ks iv n (c + 1)

/-- Decryption in Galois/Counter Mode: the first `n` bytes of the text. -/
def gcmPlain (key iv cipher : List Byte) : List Byte :=
  xorBytes cipher (gcmStream (aesRoundKeys key) iv (ceilDiv cipher.length 16) 2)

/-- The steps of a product in the field of GCM: `n` bits of x are still to use, highest first. -/
def ghashMulN : Nat → BitVec 128 → BitVec 128 → BitVec 128 → BitVec 128
  | 0, _, _, z => z
  | n + 1, x, v, z =>
    ghashMulN n (x <<< 1) (if v.getLsbD 0 then (v >>> 1) ^^^ (0xE1#128 <<< 120) else v >>> 1) (if x.msb then z ^^^ v else z)

def ghashMul (x y : BitVec 128) : BitVec 128 := ghashMulN 128 x y 0

/-- GHASH over `n` blocks of bytes, the last padded with 0. -/
def ghashN (h : BitVec 128) : Nat → List Byte → BitVec 128 → BitVec 128
  | 0, _, y => y
  | n + 1, bs, y => ghashN h n (bs.drop 16) (ghashMul (y ^^^ BitVec.ofNat 128 (beNat (sliceAt bs 0 16))) h)

/-- The tag of Galois/Counter Mode over the additional data and the ciphertext. -/
def gcmTag (key iv aad cipher : List Byte) : List Byte :=
  let ks := aesRoundKeys key
  let h := BitVec.ofNat 128 (beNat (aesWith ks (leBytes 16 0)))
  let y := ghashN h (ceilDiv aad.length 16) aad 0
  let y := ghashN h (ceilDiv cipher.length 16) cipher y
  let y := ghashN h 1 (beBytes 8 (8 * aad.length) ++ beBytes 8 (8 * cipher.length)) y
  xorBytes (beBytes 16 y.toNat) (aesWith ks (iv ++ beBytes 4 1))

/-- The unwrapping steps of RFC 3394 for four registers: step t, from 24 down to 1. -/
def unwrapSteps (key : List Byte) : Nat → List Byte → List (List Byte) → List Byte × List (List Byte)
  | 0, a, r => (a, r)
  | t + 1, a, r =>
    let i := t % 4
    let b := aes256Inv key (xorBytes a (beBytes 8 (t + 1)) ++ r.getD i [])
    unwrapSteps key t (b.take 8) (r.set i (b.drop 8))

/-- A 256-bit key unwrapped from 40 bytes; none where the integrity check fails (RFC 3394). -/
def keyUnwrap (key wrapped : List Byte) : Option (List Byte) :=
  let r := (List.range 4).map (fun i => sliceAt wrapped (8 + 8 * i) 8)
  let q := unwrapSteps key 24 (sliceAt wrapped 0 8) r
  if q.1 = List.replicate 8 0xA6 then some q.2.flatten else none

end Sys2Proof.Machine
end

