-- ==== Sys2Proof/Machine/Flash.lean ====
section
/-! DEFINITION. The flash array and its controller (09): where data lies, the queue of programs and erases of each bank, suspends and
the bank limit, wear signs and retirement. -/

namespace Sys2Proof.Machine

/-- Banks of the array, and of them column and RAM banks (09 R258). -/
def bankCount : Nat := 260
def frameBanks : Nat := 256

/-- A bank above a fabric column; the others up to 255 are RAM banks, and from 256 on system banks (09 R258). -/
def isColumn (b : Nat) : Bool := decide (b < 192)

/-- Roles of a bank, each one sector (09 R258, R260, R262). -/
def roleCount (b : Nat) : Nat := if b < 192 then 8 else if b < 256 then 32 else 128

/-- Main sectors of a slot in a column or RAM bank, the tail's role, and the frames of a slot (09 R260, R261). -/
def mainSectors (b : Nat) : Nat := if isColumn b then 2 else 10
def tailRole (b : Nat) : Nat := if isColumn b then 6 else 30
def bankFrames (b : Nat) : Nat := if isColumn b then 144 else 648
def mainFrames (b : Nat) : Nat := 64 * mainSectors b
def tailFrames (b : Nat) : Nat := bankFrames b - mainFrames b

/-- Role and page of frame f of slot s in a column or RAM bank (09 R261). -/
def frameLoc (b s f : Nat) : Nat × Nat :=
  if f < mainFrames b then (s * mainSectors b + f / 64, f % 64)
  else (tailRole b, tailFrames b * s + (f - mainFrames b))

/-- The role of a user sector in its system bank, and the bank (09 R262). -/
def userBank (u : Nat) : Nat := 256 + u / 64
def userRole (u : Nat) : Nat := 32 + u % 64

/-- The bank map as shipped: every role on the sector of its own number (09 R260). -/
def mapReset (k : Nat) : Nat := k % 128
/-- The free sectors of a bank as shipped (09 R260, R262). -/
def freeReset (b : Nat) : List Nat := if b < 192 then [7] else if b < 256 then [31] else [30, 31]
/-- An unlisted page is erased, an unlisted sector never erased. -/
def pageReset (_ : Nat) : Page := {}
def sectorReset (_ : Nat) : Sector := {}
def queueReset (_ : Nat) : List FlashOp := []
def slotReset (_ : Nat) : Slot := {}
def stickyReset (_ : Nat) : Nat := 0

/-- The physical sector of a role (09 R260). -/
def Flash.phys (f : Flash) (b role : Nat) : Nat := f.map.get mapReset (b * 128 + role)
/-- The free sectors of a bank. -/
def Flash.freeOf (f : Flash) (b : Nat) : List Nat := f.free.get freeReset b
/-- A page of a physical sector. -/
def pageKey (b sector page : Nat) : Nat := b * 8192 + sector * 64 + page
/-- A page as the controller programs it: data, and the spare area's address and code (09 R259). -/
def Page.written (st : PageState) (key : Nat) (data : List Byte) : Page :=
  { state := st, data := sliceAt data 0 512, addr := key, code := Config.pageCode (sliceAt data 0 512) key }
def Flash.page (f : Flash) (b sector page : Nat) : Page := f.pages.get pageReset (pageKey b sector page)
def Flash.sector (f : Flash) (b n : Nat) : Sector := f.sectors.get sectorReset (b * 128 + n)
/-- The 512 bytes of a frame of a slot (09 R261). -/
def Flash.frame (f : Flash) (b s k : Nat) : List Byte :=
  let l := frameLoc b s k
  (f.page b (f.phys b l.1) l.2).data
def Flash.slot (f : Flash) (n : Nat) : Slot := f.slots.get slotReset n

def State.setFlash (s : State) (g : Flash → Flash) : State := { s with flash := g s.flash }
def State.setPage (s : State) (b sector page : Nat) (x : Page) : State :=
  s.setFlash fun f => { f with pages := f.pages.set pageReset (pageKey b sector page) x }
def State.modSector (s : State) (b n : Nat) (g : Sector → Sector) : State :=
  s.setFlash fun f => { f with sectors := f.sectors.modify sectorReset (b * 128 + n) g }
def State.setFree (s : State) (b : Nat) (l : List Nat) : State :=
  s.setFlash fun f => { f with free := f.free.set freeReset b l }
def State.setRole (s : State) (b role n : Nat) : State :=
  s.setFlash fun f => { f with map := f.map.set mapReset (b * 128 + role) n }
def State.setSlot (s : State) (n : Nat) (x : Slot) : State :=
  s.setFlash fun f => { f with slots := f.slots.set slotReset n x }
/-- A page is programmed. -/
def State.writePage (s : State) (b sector page : Nat) (st : PageState) (data : List Byte) : State :=
  s.setPage b sector page (Page.written st (pageKey b sector page) data)
/-- A page whose stored address is not its own: a read of it is treated as uncorrectable (09 R259). -/
def Flash.strays (f : Flash) (b sector page : Nat) : Bool :=
  decide ((f.page b sector page).state ≠ .erased) && decide ((f.page b sector page).addr ≠ pageKey b sector page)
/-- An update of a bank map or of the slot table: its journal entry is written before it and cleared after it (09 R264, R276). -/
def State.journaled (s : State) (g : State → State) : State :=
  (g (s.setFlash fun f => { f with journal := f.journal ++ [.update] })).setFlash fun f => { f with journal := f.journal.erase .update }
/-- Every page of a physical sector erased. -/
def State.blankSector (s : State) (b n : Nat) : State :=
  s.setFlash fun f => { f with pages := f.pages.clearRange (pageKey b n 0) 64 }

/-- The queue of a bank: programs and erases in arrival order, the one in progress first (09 R267). -/
def State.bankQ (s : State) (b : Nat) : List FlashOp := s.nvm.queue.get queueReset b
def State.setBankQ (s : State) (b : Nat) (q : List FlashOp) : State :=
  { s with nvm := { s.nvm with queue := s.nvm.queue.set queueReset b q } }

/-- The operation in progress in a bank, running or suspended. -/
def State.current (s : State) (b : Nat) : Option FlashOp :=
  match s.bankQ b with
  | o :: _ => if o.started then some o else none
  | [] => none

/-- The operation in progress of a bank changed. -/
def State.modCurrent (s : State) (b : Nat) (g : FlashOp → FlashOp) : State :=
  match s.bankQ b with
  | o :: rest => if o.started then s.setBankQ b (g o :: rest) else s
  | [] => s

/-- The operation applies pulses. -/
def FlashOp.running (o : FlashOp) : Bool := o.started && !o.suspended

/-- The number of banks that may be active: the smaller of max_banks and the grant (09 R267, R287). -/
def State.bankLimit (s : State) : Nat := min (min 260 (max 1 (s.regF 0x400004 8 9))) s.pwr.grantNvm

/-- A supply warning or the host holds every operation (09 R273). -/
def State.nvmHold (s : State) : Bool := s.nvm.supplyHold || s.nvm.hostHold

/-- The operation running in a bank is suspended; 64 suspends in one window of erase time are reported once for the erase (09 R273,
R274). -/
def State.suspendBank (s : State) (b : Nat) (byWarn : Bool) : State :=
  match s.current b with
  | none => s
  | some o =>
    if o.suspended then s
    else
      let w := if o.erase then min 64 (o.winSus + 1) else 0
      let starve := o.erase && decide (w = 64) && !o.starved
      let s := s.modCurrent b fun o =>
        { o with suspended := true, suspends := o.suspends + 1, winSus := w, starved := o.starved || starve, byWarn := o.byWarn || byWarn }
      if starve then s.raise 0x0404 [it2 b, it2 o.sector] else s

/-- Every running operation is suspended (09 R273, R275). -/
def State.suspendAll (s : State) (byWarn : Bool) : State := s.each (s.nvm.queue.map (·.1)) fun s b => s.suspendBank b byWarn

/-- The bank whose running operation started last, and the one whose suspended operation started first. -/
def State.newestRunning (s : State) : Option Nat :=
  (s.nvm.queue.filterMap (fun p => match p.2 with | o :: _ => if o.running then some (o.order, p.1) else none | [] => none)).foldl
    (fun m x => match m with | none => some x | some y => if y.1 < x.1 then some x else some y) none |>.map (·.2)
def State.oldestSuspended (s : State) : Option Nat :=
  (s.nvm.queue.filterMap (fun p => match p.2 with
    | o :: _ => if o.started && o.suspended then some (o.order, p.1) else none | [] => none)).foldl
    (fun m x => match m with | none => some x | some y => if x.1 < y.1 then some x else some y) none |>.map (·.2)

/-- One bank suspended to meet the limit, or one suspended operation resumed within it (09 R267). -/
def State.balanceOne (s : State) : State :=
  if s.bankLimit < s.activeBanks then (match s.newestRunning with | some b => s.suspendBank b false | none => s)
  else if s.activeBanks < s.bankLimit && !s.nvmHold && !s.nvm.heldAfter then
    (match s.oldestSuspended with | some b => s.modCurrent b fun o => { o with suspended := false } | none => s)
  else s

/-- The limit is met: the operations started last are suspended first, suspended ones resume oldest first (09 R267). -/
def State.balance (s : State) : State := s.each (s.nvm.queue.map (·.1)) fun s _ => s.balanceOne

/-- Staging operations wait in the order of the steps of R264; a user's in arrival order. -/
def FlashOp.goesBefore (new o : FlashOp) : Bool := decide (new.who = .stage) && decide (o.who = .stage) && !o.started && decide (new.cls < o.cls)

/-- An operation put in a queue. -/
def queueOp (new : FlashOp) : List FlashOp → List FlashOp
  | [] => [new]
  | o :: os => if new.goesBefore o then new :: o :: os else o :: queueOp new os

def State.enqueue (s : State) (b : Nat) (o : FlashOp) : State := s.setBankQ b (queueOp o (s.bankQ b))

/-- An operation is a user command's. -/
def FlashOp.user (o : FlashOp) : Bool := match o.who with | .user _ => true | _ => false

/-- The journal entry of an operation (09 R276). -/
def FlashOp.entry (b : Nat) (o : FlashOp) : JEntry :=
  if o.erase then .erase b o.sector o.user else .program b o.sector o.page o.user

/-- A read at NORMAL is counted, and an uncorrectable one reported (09 R280). -/
def State.countRead (s : State) (b page bits : Nat) (unc : Bool) : State :=
  let n := s.nvm
  let n := { n with eccCorr := satAdd 16 n.eccCorr (b2n (decide (0 < bits) && !unc)),
                    eccHigh := satAdd 8 n.eccHigh (b2n (decide (6 ≤ bits) && !unc)),
                    eccUnc := satAdd 8 n.eccUnc (b2n unc) }
  let s := { s with nvm := n }
  if unc then s.raise 0x0405 [it2 b, it2 page] else s

/-- What an interrupted or uncorrectable page reads as (09 R277, R285). -/
def rawPage (b sector page : Nat) : List Byte := (List.range 512).map (Config.flashRaw (pageKey b sector page))

/-- A copy reads its source page at NORMAL as it starts; `read` is the outcome of BCH (09 R259, R264, R279, R280). DESIGN CHOICE (log
entry 73): an uncorrectable page is copied as it reads. -/
def State.copyRead (s : State) (b : Nat) (o : FlashOp) (read : PageRead) : List Byte × State :=
  match o.src with
  | none => (o.data, s)
  | some (n, p) =>
    let unc := read.unc || s.flash.strays b n p
    (if unc then rawPage b n p else (s.flash.page b n p).data, s.countRead b (64 * n + p) read.bits.toNat unc)

/-- The first operation of a bank's queue starts: its journal entry is written; an erase leaves the sector erase-incomplete until it
completes, a program its page interrupted (09 R268, R276, R277). -/
def State.startOp (s : State) (b : Nat) (read : PageRead) : State :=
  match s.bankQ b with
  | [] => s
  | o0 :: rest =>
    let o := { o0 with data := (s.copyRead b o0 read).1 }
    let s := (s.copyRead b o0 read).2
    let s := s.setBankQ b ({ o with started := true, order := s.nvm.starts } :: rest)
    let s := { s with nvm := { s.nvm with starts := s.nvm.starts + 1 } }
    let s := s.setFlash fun f => { f with journal := f.journal ++ [o.entry b] }
    if o.erase then (s.blankSector b o.sector).modSector b o.sector fun x => { x with incomplete := true }
    else s.writePage b o.sector o.page .interrupted o.data

/-- The operation in progress leaves its bank and its journal entry is cleared (09 R276). -/
def State.dropOp (s : State) (b : Nat) : State :=
  match s.bankQ b with
  | [] => s
  | o :: rest => (s.setBankQ b rest).setFlash fun f => { f with journal := f.journal.erase (o.entry b) }

/-- A wear sign of a bank: its sticky flag, and NVM_WEAR_SIGN the first time (09 R278). -/
def State.wearSign (s : State) (b sign : Nat) : State :=
  let v := s.flash.sticky.get stickyReset b
  if v.testBit (sign - 1) then s
  else
    let s := s.setFlash fun f => { f with sticky := f.sticky.set stickyReset b (v ||| 2 ^ (sign - 1)) }
    if sign ≤ 3 then s.raise 0x0401 [it2 b, it1 sign] else s

/-- The page of the operation in progress is programmed (09 R271, R278). -/
def State.pageDone (s : State) (b : Nat) (o : FlashOp) (pulses : Nat) (margin3 : Bool) : State :=
  let s := s.writePage b o.sector o.page .programmed o.data
  let s := s.modSector b o.sector fun x => { x with maxPulses := max x.maxPulses pulses, m3fail := x.m3fail || !margin3 }
  let s := if 12 < pulses then s.wearSign b 1 else s
  if margin3 then s else s.wearSign b 2

/-- A sector is erased: what the wear report keeps of its last erase and programming starts anew (09 R272, R278, R282). -/
def State.sectorDone (s : State) (b n us : Nat) : State :=
  let s := (s.blankSector b n).modSector b n fun x =>
    { x with erases := x.erases + 1, eraseUs := us, maxPulses := 0, m3fail := false, incomplete := false }
  if 2500 < us then s.wearSign b 3 else s

/-- Erase time of the current erase so far, in µs (09 R272, R274, R287). -/
def FlashOp.eraseShown (o : FlashOp) : Nat := if o.erase && o.started then o.eraseUs + o.winTicks / usTicks 1 else 0

/-- Pulses applied to the current page so far (09 R287). -/
def FlashOp.pulsesShown (o : FlashOp) : Nat := if !o.erase && o.started then o.pulses else 0

/-- A datum tick of an operation that applies pulses: erase time stands at 200 µs in a window until the window is reset, and a page has
at most 32 pulses (09 R271, R272, R274). -/
def FlashOp.passTick (o : FlashOp) (gains : Bool) : FlashOp :=
  if !o.running || !gains then o
  else if o.erase then { o with winTicks := min (usTicks 200) (o.winTicks + 1) }
  else { o with pulses := min 32 (o.pulses + 1) }

/-- A datum tick of every bank's operation (09 R271, R272). -/
def State.flashTick (s : State) : State :=
  s.each (s.nvm.queue.map (·.1)) fun s b => s.modCurrent b fun o => o.passTick (Config.flashPulse b s.tim.tick)

/-- The operations of a retirement: the replacement is erased, every programmed page of the failing sector is copied, and a failed
program is repeated (09 R279, steps 1 to 3). -/
def State.retireOps (s : State) (b : Nat) (o : FlashOp) (r : Nat) : List FlashOp :=
  { erase := true, sector := r, page := 0, data := [], who := .retire } ::
    ((List.range 64).filter fun p => decide ((s.flash.page b o.sector p).state = .programmed)).map (fun p =>
      ({ erase := false, sector := r, page := p, data := [], src := some (o.sector, p), who := .retire } : FlashOp)) ++
    (if o.erase then [] else [{ erase := false, sector := r, page := o.page, data := o.data, who := .retire }])

/-- A retirement begins: its operations go before those that wait, and its journal entry is written (09 R276, R279). -/
def State.beginRetire (s : State) (b : Nat) (o : FlashOp) (r : Nat) : State :=
  let s := s.setBankQ b (s.retireOps b o r ++ s.bankQ b)
  let s := { s with nvm := { s.nvm with retiring := s.nvm.retiring.set (fun _ => none) b (some { op := o, repl := r }) } }
  s.setFlash fun f => { f with journal := f.journal ++ [.retire b o.sector r] }

/-- A retirement leaves its bank, with its journal entry. -/
def State.clearRetire (s : State) (b : Nat) (x : Retire) : State :=
  let s := { s with nvm := { s.nvm with retiring := s.nvm.retiring.set (fun _ => none) b none } }
  s.setFlash fun f => { f with journal := f.journal.erase (.retire b x.op.sector x.repl) }

/-- A sector is retired for good: NVM_SECTOR_RETIRED (09 R279, R287). -/
def State.retireSector (s : State) (b n : Nat) : State :=
  (s.modSector b n fun x => { x with retired := true }).raise 0x0402 [it2 b, it2 n]

/-- Step 4 of R279: the replacement takes over the role of the failing sector, or its place as the free sector, with the operations that
wait for it, and the failing sector is retired. -/
def State.endRetire (s : State) (b : Nat) (x : Retire) : State :=
  let free := s.flash.freeOf b
  let n := x.op.sector
  let s := s.setFree b (free.filter (fun k => k ≠ (if free.contains n then n else x.repl)))
  let s := s.journaled fun s =>
    s.each (List.range (roleCount b)) fun s k => if s.flash.phys b k = n then s.setRole b k x.repl else s
  let s := s.setBankQ b ((s.bankQ b).map (fun q => if q.sector = n ∧ q.started = false then { q with sector := x.repl } else q))
  (s.clearRetire b x).retireSector b n

/-- No free sector is left for a retirement: the sticky flag, NVM_SPARES_EXHAUSTED, and a failing free sector is retired with no
replacement and NVM_SECTOR_RETIRED (09 R265, R278, R279, R287). -/
def State.exhausted (s : State) (b : Nat) (o : FlashOp) : State :=
  let s := if (s.flash.freeOf b).contains o.sector then
    (s.setFree b ((s.flash.freeOf b).filter (fun n => n ≠ o.sector))).retireSector b o.sector else s
  (s.wearSign b 5).raise 0x0403 [it2 b]

/-- The user command that an operation belongs to. -/
def State.jobOf (s : State) (o : FlashOp) : Option NvmJob :=
  match o.who with
  | .user i => s.nvm.jobs.find? (fun j => j.desc == i)
  | _ => none

/-- A user command leaves the controller and completes (09 R285). -/
def State.jobDone (s : State) (j : NvmJob) (status cause : Nat) : State :=
  let s := { s with nvm := { s.nvm with jobs := s.nvm.jobs.erase j } }
  s.finish j.desc { status := status, cause := cause, flags := j.flags,
                    result := if j.erase then leBytes 4 j.eraseUs ++ leBytes 4 j.suspends else [] }

/-- The flags an operation gives its command (09 R285). -/
def FlashOp.flags (o : FlashOp) (retired : Bool) : Nat :=
  8 * b2n (o.byWarn && !o.erase) + 32 * b2n retired + 64 * b2n (decide (0 < o.suspends)) + 128 * b2n o.starved

/-- An operation of a user command has completed: with its last one the command does (09 R285). -/
def State.jobStep (s : State) (o : FlashOp) (us : Nat) (retired : Bool) : State :=
  match s.jobOf o with
  | none => s
  | some j =>
    let j2 := { j with left := j.left - 1, flags := j.flags ||| o.flags retired, eraseUs := us, suspends := o.suspends }
    let s := { s with nvm := { s.nvm with jobs := s.nvm.jobs.map (fun x => if x = j then j2 else x) } }
    if j2.left = 0 then s.jobDone j2 0 0 else s

/-- A user command fails on a verify failure with no free sector: its other operations are not done (09 R279, R285). -/
def State.jobFail (s : State) (b : Nat) (o : FlashOp) (us cause : Nat) : State :=
  match s.jobOf o with
  | none => s
  | some j =>
    let s := s.setBankQ b ((s.bankQ b).filter (fun q => q.who ≠ o.who))
    let j2 := { j with flags := j.flags ||| o.flags false, eraseUs := us, suspends := o.suspends }
    let s := { s with nvm := { s.nvm with jobs := s.nvm.jobs.map (fun x => if x = j then j2 else x) } }
    s.jobDone j2 2 cause

end Sys2Proof.Machine
end

