-- ==== Sys2Proof/Machine/Image.lean ====
section
/-! DEFINITION. The image (10 R290 to R297): its header, the sections of its body, and the checks of both, as the bytes arrive. -/

namespace Sys2Proof.Machine

/-- Configuration frames and RAM initialization frames of the device; a RAM frame is numbered after the configuration frames (08
R225). -/
def cfgFrames : Nat := 27648
def ramFrames : Nat := 41472

/-- The number of the frame with an address, of a kind: 144 per column, 648 per RAM group; none outside the frame map (08 R225). -/
def frameNumber (kind addr : Nat) : Option Nat :=
  let bank := fld addr 0 8
  let idx := fld addr 8 10
  if addr / 2 ^ 20 ≠ 0 ∨ fld addr 18 2 ≠ kind then none
  else if kind = 0 then (if bank < 192 ∧ idx < 144 then some (144 * bank + idx) else none)
  else if bank < 64 ∧ idx < 648 then some (cfgFrames + 648 * bank + idx) else none

/-- The address of a frame number (08 R225). -/
def frameAddr (n : Nat) : Nat :=
  if n < cfgFrames then n / 144 + 256 * (n % 144)
  else (n - cfgFrames) / 648 + 256 * ((n - cfgFrames) % 648) + 2 ^ 18

/-- The frame number of the i-th configuration frame in ascending frame address (11 R325). -/
def addrOrder (i : Nat) : Nat := 144 * (i % 192) + i / 192

/-- The flash bank of a frame number and its index in the bank (09 R261). -/
def frameBank (n : Nat) : Nat × Nat :=
  if n < cfgFrames then (n / 144, n % 144) else (192 + (n - cfgFrames) / 648, (n - cfgFrames) % 648)

/-- The frame holds driver-enable and joint bits (08 R226). -/
def longLineFrame (n : Nat) : Bool := decide (n < cfgFrames) && decide (135 ≤ n % 144) && decide (n % 144 ≤ 142)

/-- Fields of an image header (10 R290). -/
structure Header where
  version : Nat
  scope : Nat
  keySel : Nat
  policy : Nat
  id : Nat
  len : Nat                       -- L
  timeout : Nat
  iv : List Byte

def readHeader (h : List Byte) : Header :=
  { version := leAt h 4 1, scope := leAt h 5 1, keySel := leAt h 6 1, policy := leAt h 7 1, id := leAt h 8 8, len := leAt h 16 4,
    timeout := leAt h 20 2, iv := sliceAt h 24 12 }

/-- A header is invalid, reason 0x01; its scope is judged apart (10 R290 to R292). -/
def headerInvalid (h : List Byte) : Bool :=
  let x := readHeader h
  decide (leAt h 0 4 ≠ 0x7D1E0C55) || !(x.version == 2 || x.version == 3) || decide (2 < x.keySel) ||
    decide (fld x.policy 1 2 = 3) || decide (x.policy / 16 ≠ 0) || decide (x.len = 0) || decide (36700160 < x.len) ||
    decide (x.len % 16 ≠ 0) || decide (x.timeout = 0) || decide (1000 < x.timeout) || decide (leAt h 22 2 ≠ 0x7A10) ||
    decide (leAt h 36 8 ≠ 0) || (decide (x.version = 2) && decide (leAt h 44 4 ≠ 0)) || decide (leAt h 48 12 ≠ 0) ||
    decide (leAt h 60 4 ≠ (crc32c (h.take 60)).toNat)

/-- The offset of the register that a static entry writes, for its n-th engine or parcel (10 R295). -/
def StaticEntry.regOff (x : StaticEntry) (n : Nat) : Nat :=
  if x.parcel then parBase n + 0x20000 + x.off else engBase n + x.off

/-- Offsets that a static entry may write (10 R295). -/
def staticEngine (o : Nat) : Bool :=
  decide (o < 0xC) || (decide (0x20 ≤ o) && decide (o < 0x40)) || (decide (0x100 ≤ o) && decide (o < 0x10C)) ||
    (decide (0x220 ≤ o) && decide (o < 0x234)) || (decide (0x300 ≤ o) && decide (o < 0x308)) || (decide (0x400 ≤ o) && decide (o < 0x1000))
def staticParcel (o : Nat) : Bool :=
  decide (o < 0xC) || (decide (0x2000 ≤ o) && decide (o < 0x2010)) || (decide (0x5000 ≤ o) && decide (o < 0x5008))

/-- A value sets a reserved field of a register (10 R295). -/
def reservedBits (off v : Nat) : Bool :=
  match regInfo off with
  | some r => decide (v &&& (r.rw ||| r.w1c) ≠ v)
  | none => true

/-- A static entry of 16 bytes, if it keeps the rules (10 R295). -/
def readStatic (b : List Byte) : Option StaticEntry :=
  let par := decide (leAt b 3 1 = 1)
  let x : StaticEntry := { parcel := par, off := leAt b 0 3, value := leAt b 4 4, first := leAt b 8 2, last := leAt b 10 2 }
  let inRange := if par then decide (x.last < 32) && staticParcel x.off else decide (x.last < 1024) && staticEngine x.off
  if 1 < leAt b 3 1 ∨ leAt b 12 4 ≠ 0 ∨ x.off % 4 ≠ 0 ∨ x.last < x.first ∨ inRange = false ∨ reservedBits (x.regOff x.first) x.value = true
  then none else some x

/-- The entries of a static configuration section (10 R295). -/
def readStatics : Nat → List Byte → Option (List StaticEntry)
  | 0, _ => some []
  | n + 1, b =>
    match readStatic (b.take 16), readStatics n (b.drop 16) with
    | some x, some xs => some (x :: xs)
    | _, _ => none

/-- One pin boot table entry of a format version (10 R297). -/
def readPin (version : Nat) (b : List Byte) : Option PinEntry :=
  let a := leAt b 0 1
  if 4 < a then none
  else if version = 2 then some { st := a, drive := 2, slew := 0 }
  else
    let c := leAt b 1 1
    if 4 < c % 8 ∨ c / 16 ≠ 0 then none else some { st := a, drive := c % 8, slew := fld c 3 1 }

/-- The pin boot table (10 R297). -/
def readPins (version : Nat) : Nat → List Byte → Option (List PinEntry)
  | 0, _ => some []
  | n + 1, b =>
    match readPin version b, readPins version n (b.drop (version - 1)) with
    | some x, some xs => some (x :: xs)
    | _, _ => none

/-- Why a body fails: a frame address, or none that the rules name (10 R293 to R297), or the long-line rule (08 R235). -/
inductive BodyBad where
  | structure (frame : Option Nat)
  | longLine (frame : Nat)
deriving DecidableEq, Repr

/-- What the bytes of a body have given so far. -/
structure Body where
  frames : List (Nat × List Byte) := []     -- frame number and data, newest first
  statics : Option (List StaticEntry) := none
  sig : Option (List Byte) := none
  pins : Option (List PinEntry) := none
  ended : Bool := false
  bad : Option BodyBad := none

/-- A frame of a run joins the body: outside the map, of the wrong kind or a second time it is the first offending frame; the
long-line rule is judged over the frames so far (10 R294, R302, 08 R235). -/
def Body.addFrame (b : Body) (kind addr : Nat) (data : List Byte) : Body :=
  match frameNumber kind addr with
  | none => { b with bad := some (.structure (some addr)) }
  | some n =>
    if b.frames.any (fun f => f.1 == n) then { b with bad := some (.structure (some addr)) }
    else
      let b := { b with frames := (n, data) :: b.frames }
      if longLineFrame n then
        (match Config.longLine ((b.frames.filter (fun f => longLineFrame f.1)).mergeSort (fun x y => x.1 ≤ y.1)) with
         | some a => { b with bad := some (.longLine a) }
         | none => b)
      else b

/-- The frames of one run that have arrived whole; `n` of the run's frames are left. -/
def Body.addRun (kind : Nat) : Nat → Nat → List Byte → Body → Body
  | 0, _, _, b => b
  | n + 1, addr, bs, b =>
    if b.bad.isSome ∨ bs.length < 512 then b
    else Body.addRun kind n (addr + 256) (bs.drop 512) (b.addFrame kind addr (bs.take 512))

/-- The runs of a frame section: `len` payload bytes are left, of which those in `bs` have arrived; `fuel` bounds the runs (10
R294). -/
def Body.addRuns (kind : Nat) : Nat → Nat → List Byte → Body → Body
  | 0, _, _, b => b
  | fuel + 1, len, bs, b =>
    if b.bad.isSome ∨ len = 0 ∨ bs.length < 8 then b
    else
      let count := leAt bs 4 4
      if len < 8 ∨ count = 0 ∨ len < 8 + 512 * count then { b with bad := some (.structure (some (leAt bs 0 4))) }
      else
        Body.addRuns kind fuel (len - 8 - 512 * count) (bs.drop (8 + 512 * count))
          (Body.addRun kind count (leAt bs 0 4) (bs.drop 8) b)

/-- The lowest frame number that no frame of the body has. -/
def Body.missing (b : Body) : Option Nat :=
  let seen := (b.frames.map (·.1)).mergeSort (· ≤ ·)
  let m := seen.foldl (fun k n => if n = k then k + 1 else k) 0
  if m < cfgFrames + ramFrames then some m else none

/-- The payload of a section of type 0x03, 0x04 or 0x05, or the end of the body (10 R293, R295 to R297). -/
def Body.payload (b : Body) (version ty : Nat) (bs : List Byte) (last : Bool) : Body :=
  let fail : Body := { b with bad := some (.structure none) }
  if ty = 3 then
    (if b.statics.isSome ∨ 262144 < bs.length ∨ bs.length % 16 ≠ 0 then fail
     else match readStatics (bs.length / 16) bs with | some l => { b with statics := some l } | none => fail)
  else if ty = 4 then (if b.sig.isSome ∨ bs.length ≠ 442368 then fail else { b with sig := some bs })
  else if ty = 5 then
    (if b.pins.isSome ∨ bs.length ≠ 96 * (version - 1) then fail
     else match readPins version 96 bs with | some l => { b with pins := some l } | none => fail)
  else if bs.length ≠ 0 ∨ last = false ∨ b.statics.isNone ∨ b.sig.isNone ∨ b.pins.isNone then fail
  else match b.missing with
    | some n => { b with bad := some (.structure (some (frameAddr n))) }
    | none => { b with ended := true }

/-- The sections of a body of `left` bytes still to come, of which those in `bs` have arrived; `fuel` bounds the sections (10
R293). -/
def Body.sections (version : Nat) : Nat → Nat → List Byte → Body → Body
  | 0, _, _, b => b
  | fuel + 1, left, bs, b =>
    if b.bad.isSome || b.ended then b
    else if left < 16 then { b with bad := some (.structure none) }
    else if bs.length < 16 then b
    else
      let ty := leAt bs 0 1
      let len := leAt bs 4 4
      if !(ty ∈ [1, 2, 3, 4, 5, 15]) ∨ leAt bs 1 3 ≠ 0 ∨ leAt bs 8 8 ≠ 0 ∨ len % 8 ≠ 0 ∨ left < 16 + len then
        { b with bad := some (.structure none) }
      else
        let pay := (bs.drop 16).take len
        let b := if ty = 1 ∨ ty = 2 then Body.addRuns (ty - 1) (len / 8 + 1) len pay b
          else if pay.length < len then b else b.payload version ty pay (decide (left = 16 + len))
        if pay.length < len then b else Body.sections version fuel (left - 16 - len) (bs.drop (16 + len)) b

/-- The body as far as its plaintext has arrived (10 R293). -/
def readBody (version len : Nat) (plain : List Byte) : Body := Body.sections version (len / 16 + 1) len plain {}

/-- The slot entry that an accepted image leaves in the system part; the frame checks are added by the staging (10 R290, R296, R307). -/
def slotOf (h : Header) (b : Body) (checks : SMap Nat) : Slot :=
  { valid := true, id := h.id, version := h.version, keySel := h.keySel, policy := h.policy, timeout := h.timeout,
    statics := b.statics.getD [],
    sig := (List.range cfgFrames).foldl (fun m k => SMap.set (fun _ => 0) m (addrOrder k) (leAt (b.sig.getD []) (16 * k) 16)) ([] : SMap Nat),
    pins := b.pins.getD [], checks := checks }

end Sys2Proof.Machine
end

