-- ==== Sys2Proof/Machine/Parcel.lean ====
section
/-! DEFINITION. Static configuration applied by a load or a power-on (10 R295, R308, 15 R417), and switching parcel domains on and
off. -/

namespace Sys2Proof.Machine

/-- A static entry's write of one register: stored, with the ring flushes of a changed ring size (10 R308, 06 R185). -/
def State.applyStatic (s : State) (off v : Nat) : State :=
  let mask := match regInfo off with | some r => r.rw | none => 0
  let t := s.setReg off (v &&& mask)
  let r := off % 0x40000
  if 0x1000000 ≤ off ∧ r < 0x20000 ∧ r % 0x1000 = 0x220 then t.clearRings (movedRings s t ((off - 0x1000000) / 0x40000)) else t

/-- The numbers of an entry's range that lie in the parcels of a mask. -/
def StaticEntry.targets (x : StaticEntry) (mask : Nat) : List Nat :=
  ((List.range (x.last + 1 - x.first)).map (· + x.first)).filter (fun n => mask.testBit (if x.parcel then n else n / 32))

/-- The static entries of a slot applied in order to the parcels of a mask that are on (10 R295, R308, 15 R417). -/
def State.applyStatics (s : State) (l : List StaticEntry) (mask : Nat) : State :=
  l.foldl (fun s x => s.each (x.targets (mask &&& s.pwr.pclOn)) fun s n => s.applyStatic (x.regOff n) x.value) s

/-- The offset is one that static entries may write (10 R295). -/
def isStaticOff (off : Nat) : Bool :=
  decide (0x1000000 ≤ off) && decide (off < 0x1800000) &&
    (let r := off % 0x40000
     if r < 0x20000 then staticEngine (r % 0x1000) else staticParcel (r - 0x20000))

/-- The parcels that have a register listed with another ring size than at reset. -/
def State.relaidParcels (s : State) : List Nat :=
  ((s.regs.filter (fun p => decide (0x1000000 ≤ p.1) && decide (p.1 % 0x40000 < 0x20000) && decide (p.1 % 0x1000 = 0x220))).map
    (fun p => (p.1 - 0x1000000) / 0x40000)).dedup

/-- Every register that a static entry may write returns to its reset value, with the ring flushes that follow (10 R308). -/
def State.resetStatics (s : State) : State :=
  let t := { s with regs := s.regs.filter (fun p => !isStaticOff p.1) }
  t.each s.relaidParcels fun t p => t.clearRings (movedRings s t p)

/-- Everything of a parcel's domain takes its reset value: registers, engines with their memory, queues, fail memory, port and
calibration (15 R404, R417). -/
def State.blankParcel (s : State) (p : Nat) : State :=
  { s with regs := s.regs.clearRange (parBase p) 0x40000, eng := s.eng.clearRange (32 * p) 32, vq := s.vq.clearRange (32 * p) 32,
           fm := s.fm.clearRange p 1, par := s.par.clearRange p 1 }

/-- What is in progress for a parcel that switches off completes as its descriptors do while the domain is off (15 R417). DEDUCED (log
entry 80). -/
def State.endParcelWork (s : State) (p : Nat) : State :=
  let off (s : State) (i : DescId) : State := s.finish i { status := 1, cause := 1 }
  let s := match (s.p p).push with | some u => off s u.desc | none => s
  match (s.p p).meas with | some m => off s m.desc | none => s

/-- A parcel's domain is switched off (15 R417). -/
def State.switchOff (s : State) (p : Nat) : State :=
  if s.parcelOn p then
    let s := (s.endParcelWork p).blankParcel p
    { s with pwr := { s.pwr with pclOn := s.pwr.pclOn &&& (0xFFFFFFFF ^^^ 2 ^ p) } }
  else s

/-- A parcel's domain is switched on: its registers at reset, the active image's static entries applied again, and the level recorded
for it in force (15 R417). -/
def State.switchOn (s : State) (p : Nat) : State :=
  if s.parcelOn p then s
  else
    let s := s.blankParcel p
    let s := { s with pwr := { s.pwr with pclOn := s.pwr.pclOn ||| 2 ^ p } }
    if s.cfg.loaded && decide (s.cfg.active < 3) then s.applyStatics (s.flash.slot s.cfg.active).statics (2 ^ p) else s

/-- The highest VCORE target among the levels in use: the fabric's, unless its domain is off, and those of the parcels that are on; 0.65 V
when none is (15 R420). -/
def State.railInUse (s : State) : Nat :=
  let l := ((List.range 32).filter s.parcelOn).map s.pclLevel
  listMax 650 ((if s.cfg.base then l else s.pwr.fabLevel :: l).map levelMv)

/-- The VCORE request that the levels in use, and the changes that wait for the rail, call for (15 R420). -/
def State.railNeed (s : State) : Nat :=
  listMax s.railInUse ((s.pwr.jobs.filter (·.railWait)).map fun j => levelMv j.level)

/-- The request follows the levels in use; a rail that has reached a request has reached every lower one (15 R420). -/
def State.railSync (s : State) : State :=
  { s with pwr := { s.pwr with railReq := s.railNeed, reached := s.pwr.reached && decide (s.railNeed ≤ s.pwr.railReq) } }

/-- Every site is dissolved: no engine is in a site, every channel safe; what runs is stopped or cancelled first (10 R308, 02 R61). -/
def State.dissolveAll (s : State) : State :=
  let s := s.each s.activeSites fun s n =>
    match s.run n with
    | none => s
    | some r =>
      if r.waiting then s.cancelStart n
      else
        let d : Done := { cause := 3, result := leBytes 10 s.stampNow }
        let s := s.settleSite n
        let s := s.each (s.engines n) fun s e => s.modE e fun x =>
          if 1 ≤ x.seq ∧ x.seq ≤ 3 then { x with seq := 6, own := none, inPeriod := false, samples := [], arrive := none } else x
        let s := if r.phase = .draining then s else s.raise 0x1011 [it1 n, it1 3]
        let s := (s.setRunOut n false ((s.vco + 4 * r.div) / 4)).closeRun n
        let s := match r.desc with | some i => s.finish i d | none => s
        s.siteQuiet n r.aborts r.resets
  let s := s.each (s.sites.map (·.1)) fun s n => s.setMembers n []
  { s with sites := [] }

end Sys2Proof.Machine
end

