-- ==== Sys2Proof/Machine/Scrub.lean ====
section
/-! DEFINITION. The scrubber (11): traverses and their steps, the contention sweep, restarts, and its registers' commands. -/

namespace Sys2Proof.Machine

/-- The majority of three copies, bit by bit (11 R337). -/
def majority (a b c : Nat) : Nat := (a &&& b) ||| (b &&& c) ||| (a &&& c)

/-- A part of the copies in force, their majority; and the settings in force (11 R337). -/
def State.scbVote (s : State) (part : ScbCopy → Nat) : Nat :=
  majority (part (s.scb.copies.getD 0 {})) (part (s.scb.copies.getD 1 {})) (part (s.scb.copies.getD 2 {}))
def State.scbSet (s : State) : Nat := s.scbVote (·.ctl)

/-- The copy that the majority makes (11 R337). -/
def State.scbVoted (s : State) : ScbCopy :=
  { ctl := s.scbSet, ptrs := s.scbVote (·.ptrs), closure := s.scbVote (·.closure) }

def State.scbEn (s : State) : Bool := s.scbSet.testBit 0
/-- The schedule; 3 is 1 (11 R325, R341). -/
def State.scbMode (s : State) : Nat := if fld s.scbSet 1 2 = 3 then 1 else fld s.scbSet 1 2
def State.scbRatio (s : State) : Nat := max 1 (fld s.scbSet 8 4)
/-- The step interval in units of 10 ns (11 R341). -/
def State.scbStep (s : State) : Nat := max 10 (fld s.scbSet 16 8)

/-- The slot whose image is loaded. -/
def State.activeSlot (s : State) : Slot := s.flash.slot s.cfg.active

/-- The scrubber works: a design is loaded, no load in progress, enabled, and powered (11 R334, R335, R340). -/
def State.scrubs (s : State) : Bool :=
  s.cfg.loaded && !s.cfg.base && s.cfg.load.isNone && !s.scb.disabled && (decide (s.pwr.state = .run) || decide (s.pwr.state = .idle))

/-- The page of the significance map that covers a frame: 32 frames of 16 bytes a page, in order of frame address (10 R296). DESIGN
CHOICE (log entry 40): the map begins at the start of a page. -/
def sigPage (n : Nat) : Nat := (192 * (n % 144) + n / 144) / 32

/-- The significance mask of a frame of the active slot; every word is significant where the map's page was uncorrectable (10 R296,
11 R330). -/
def State.sigMask (s : State) (n : Nat) : Nat :=
  if s.scb.sigBad.contains (sigPage n) then 2 ^ 128 - 1 else s.activeSlot.sig.get zeroNat n

/-- The frames a traverse checks, in order (11 R325). -/
def State.traverseFrames (s : State) (sig : Bool) : List Nat :=
  let all := (List.range cfgFrames).map addrOrder
  if sig then all.filter (fun n => s.sigMask n ≠ 0) else all

/-- The map pointers of the active slot in the system area: its main sectors and the tail of every column bank (11 R338). -/
def State.mapPointers (s : State) : List Byte :=
  ((List.range 192).flatMap fun c =>
    [s.flash.phys c (2 * s.cfg.active), s.flash.phys c (2 * s.cfg.active + 1), s.flash.phys c (tailRole c)]).flatMap (leBytes 1)

/-- The three copies all hold one value (11 R337, R340). -/
def State.setCopies (s : State) (c : ScbCopy) : State := { s with scb := { s.scb with copies := [c, c, c] } }

/-- The closure check's value: the CRC of the settings in force and of the map pointers of the active slot (11 R338). -/
def State.closureValue (s : State) : Nat := (crc32c (leBytes 4 s.scbSet ++ leBytes 576 (s.scbVote (·.ptrs)))).toNat

/-- The map pointers are taken from the system area, and the closure word is computed over them and the settings and programmed (11 R334,
R337, R341). -/
def State.programClosure (s : State) : State :=
  let s := s.setCopies { s.scbVoted with ptrs := leNat s.mapPointers }
  (s.setCopies { s.scbVoted with closure := s.closureValue }).setFlash fun f => { f with closure := s.closureValue }

/-- The value of SCB_CTL takes effect: the copies hold it, and it is programmed with the closure word (11 R341). -/
def State.settleScb (s : State) : State :=
  let v := s.scb.ctl
  ((s.setCopies { s.scbVoted with ctl := v }).setFlash fun f => { f with scbCtl := v }).programClosure

/-- Settings written since the last traverse began take effect (11 R341). -/
def State.settleWritten (s : State) : State := if s.scb.ctl = s.scbSet then s else s.settleScb

/-- A traverse begins, with its sweep to be made first; settings written since the last one take effect (11 R324, R331, R341). -/
def State.beginTraverse (s : State) (sig : Bool) : State :=
  let s := s.settleWritten
  { s with scb := { s.scb with trav := some { sig := sig }, stopping := false, restarting := false } }

/-- A full traverse begins, where the scrubber works and is enabled (11 R334, R340, R341). -/
def State.beginFull (s : State) : State := if s.scrubs && s.scbEn then s.beginTraverse false else s

/-- The traverse that follows a completed one, by the settings that take effect at its start (11 R325, R341). -/
def State.nextTraverse (s : State) (wasSig : Bool) : State :=
  let s := s.settleWritten
  let left := if wasSig then s.scb.sigLeft else s.scbRatio
  if s.scbMode = 0 then s.beginTraverse false
  else if s.scbMode = 2 then s.beginTraverse true
  else if left = 0 then s.beginTraverse false
  else ({ s with scb := { s.scb with sigLeft := left - 1 } }).beginTraverse true

/-- One second in datum ticks. -/
def secondTicks : Nat := usTicks 1000000

/-- A restart: the traverse ends and settings and map pointers are reloaded from the system area; a reload that is uncorrectable, or the
third restart within a second, disables the scrubber instead of beginning a full traverse (11 R340). DESIGN CHOICE (log entry 74): the
traverse begins at the next step, and SCB_STAT shows "restarting" until then. -/
def State.scrubRestart (s : State) (cause : Nat) (reloadBad : Bool) : State :=
  let recent := s.scb.restarts.filter (fun t => decide (s.tim.tick < t + secondTicks))
  let s := if reloadBad then s
    else s.setCopies { s.scbVoted with ctl := s.flash.scbCtl, ptrs := leNat s.mapPointers }
  let s := { s with scb := { s.scb with trav := none, stopping := false, restarting := false, restarts := s.tim.tick :: recent,
                                        cntRestart := satAdd 8 s.scb.cntRestart 1 } }
  if reloadBad then { s with scb := { s.scb with disabled := true } }.raise 0x0505 [it1 4]
  else if 2 ≤ recent.length then { s with scb := { s.scb with disabled := true } }.raise 0x0505 [it1 cause]
  else { s with scb := { s.scb with restarting := true } }.raise 0x0504 [it1 cause]

/-- A load ends the traverse (11 R334); so does entry to Sleep (11 R335). -/
def State.scrubEnd (s : State) : State := { s with scb := { s.scb with trav := none, stopping := false, restarting := false } }

/-- Nominal time of a traverse in µs, rounded up (11 R326). -/
def State.nominalUs (s : State) (frames : Nat) : Nat := 2 + ceilDiv (frames * s.scbStep) 100

/-- Release tick 0 of a load: the restart history is cleared, closure word and nominal times are computed, a full traverse begins
(11 R334, R340). -/
def State.scrubRelease (s : State) : State :=
  let s := { s with scb := { s.scb with restarts := [], disabled := false, trav := none, restarting := false, sigBad := [], equalAt := [], releaseAt := s.stampNow } }
  let s := s.programClosure
  let s := { s with scb := { s.scb with
    nomFull := s.nominalUs cfgFrames % 2 ^ 24, nomSig := s.nominalUs (s.traverseFrames true).length % 2 ^ 24 } }
  s.beginFull

/-- Bits of a frame inverted, by bit number (08 R226, 11 R324). -/
def flipBits (bits : List Nat) (d : List Byte) : List Byte :=
  (List.range 512).map fun i => bits.foldl (fun b k => if k / 8 = i then b ^^^ BitVec.ofNat 8 (2 ^ (k % 8)) else b) (d.getD i 0)

/-- Bits set in a list of bytes. -/
def onesIn (d : List Byte) : Nat := (d.map (fun b => (maskBits 8 b.toNat).length)).sum

/-- The 32-bit words of a frame in which two contents differ (11 R327). -/
def diffWords (a b : List Byte) : List Nat := (List.range 128).filter fun w => sliceAt a (4 * w) 4 ≠ sliceAt b (4 * w) 4

/-- The image's upset policy (10 R290). -/
def State.upsetPolicy (s : State) : Nat := fld s.activeSlot.policy 1 2

/-- The upset policy acts on every site with a run active (11 R329). -/
def State.applyPolicy (s : State) : State :=
  if s.upsetPolicy = 1 then
    s.each s.activeSites fun s n => s.modRun n fun r => { r with flagUpset := some (r.flagUpset.getD s.vco) }
  else if s.upsetPolicy = 2 then s.each s.activeSites fun s n => s.abortSite n 3
  else s

/-- A difference found and rewritten: classified by the significance map and reported (11 R327, R328). -/
def State.upsetFound (s : State) (n : Nat) (found ref : List Byte) : State :=
  let words := diffWords found ref
  let sig := words.filter (fun w => (s.sigMask n).testBit w)
  let bits := onesIn (xorBytes found ref)
  let s := { s with scb := { s.scb with last := frameAddr n } }
  if sig.isEmpty then { s with scb := { s.scb with cntNsig := satAdd 16 s.scb.cntNsig 1 } }
  else
    let prev := s.scb.equalAt.get (fun _ => s.scb.releaseAt) n
    let stops := if s.upsetPolicy = 2 then [it8 (bitsMask s.activeSites)] else []
    let s := { s with scb := { s.scb with cntSig := satAdd 16 s.scb.cntSig 1 } }
    (s.raise 0x0501 ([it4 (frameAddr n), it4 bits, it4 sig.length, itTime s.stampNow, itTime prev] ++ stops)).applyPolicy

/-- A configuration frame in SRAM. -/
def State.sramFrame (s : State) (n : Nat) : List Byte := s.fab.sram.get zeroFrame n
def State.setSram (s : State) (n : Nat) (d : List Byte) : State :=
  { s with fab := { s.fab with sram := s.fab.sram.set zeroFrame n d } }

/-- The configuration read port is lent to a READBACK_READ (11 R333). -/
def State.portLent (s : State) : Bool := decide (s.tim.tick < s.scb.lentTo)

/-- The traverse is paused (11 R333). -/
def State.scrubPaused (s : State) : Bool := s.pwr.warn || !s.pwr.grantScrub || s.portLent

/-- The closure check at the end of a traverse (11 R338). -/
def State.endTraverse (s : State) (sig closureBad reloadBad : Bool) : State :=
  let s := s.setCopies { s.scbVoted with closure := s.closureValue }
  if closureBad || decide (s.closureValue ≠ s.flash.closure) then s.scrubRestart 1 reloadBad
  else ({ s with scb := { s.scb with count := satAdd 32 s.scb.count 1, trav := none } }).nextTraverse sig

/-- A frame found equal to flash (11 R328). -/
def State.foundEqual (s : State) (n : Nat) : State :=
  { s with scb := { s.scb with equalAt := s.scb.equalAt.set (fun _ => s.scb.releaseAt) n s.stampNow } }

/-- Bank and physical page of a page of a slot's system part: page j lies in bank 256 + j mod 4 (09 R262). DESIGN CHOICE (log entry 38). -/
def Flash.systemPage (f : Flash) (slot j : Nat) : Nat × Nat :=
  (frameBanks + j % 4, 64 * f.phys (frameBanks + j % 4) (10 * slot + j / 256) + j / 4 % 64)

/-- The page of the significance map that covers a frame reads as uncorrectable: it is counted and reported, and its frames are
significant until the next load (09 R280, 11 R330). -/
def State.mapLost (s : State) (n : Nat) (unc : Bool) : State :=
  if unc && !s.scb.sigBad.contains (sigPage n) then
    let p := s.flash.systemPage s.cfg.active (Config.sigPlace (sigPage n) % 2560)
    { s with scb := { s.scb with sigBad := sigPage n :: s.scb.sigBad } }.countRead p.1 p.2 0 true
  else s

/-- The tail of a bank moves from a sector during the traverse; the sector of the first move counts (09 R264). -/
def Traverse.keepTail (b sector : Nat) (t : Traverse) : Traverse :=
  if t.tails.any (fun m => m.1 == b) then t else { t with tails := (b, sector) :: t.tails }

/-- The physical sector in which the traverse finds a role of a bank: it finishes through the bank map it started with (09 R264, 11
R324). -/
def State.scrubSector (s : State) (b role : Nat) : Nat :=
  let moved : Option (Nat × Nat) := match s.scb.trav with | some t => t.tails.find? (fun m => m.1 == b) | none => none
  match moved with
  | some m => if role = tailRole b then m.2 else s.flash.phys b role
  | none => s.flash.phys b role

/-- Bank, sector and page in which the scrubber finds a frame of the active slot (09 R261, R264, 11 R324). -/
def State.refPlace (s : State) (n : Nat) : Nat × Nat × Nat :=
  let b := (frameBank n).1
  let loc := frameLoc b s.cfg.active (frameBank n).2
  (b, s.scrubSector b loc.1, loc.2)

/-- A frame of the active slot as flash holds it. -/
def State.refFrame (s : State) (n : Nat) : List Byte :=
  let l := s.refPlace n
  sliceAt (s.flash.page l.1 l.2.1 l.2.2).data 0 512

/-- The scrubber reads the flash page of a frame: the outcome is counted, and an uncorrectable page reported; it says whether the page is
uncorrectable (09 R259, R280, 11 R330). -/
def State.refRead (s : State) (n : Nat) (read : PageRead) : Bool × State :=
  let l := s.refPlace n
  let unc := read.unc || s.flash.strays l.1 l.2.1 l.2.2
  let s := s.countRead l.1 (64 * l.2.1 + l.2.2) read.bits.toNat unc
  (unc, if unc then { s with scb := { s.scb with cntUnc := satAdd 8 s.scb.cntUnc 1 } }.raise 0x0503 [it4 (frameAddr n)] else s)

/-- Upsets have changed bits of a frame in SRAM (11 R324). -/
def State.upsetBits (s : State) (n : Nat) (flips : List Nat) : State :=
  if flips.isEmpty then s else s.setSram n (flipBits flips (s.sramFrame n))

/-- A step checks one frame: `flips` names the bits that upsets have changed in SRAM since its last check (11 R324, R328, R330). -/
def State.checkFrame (s : State) (n : Nat) (flips : List Nat) (read : PageRead) : State :=
  let s := s.upsetBits n flips
  let (unc, s) := s.refRead n read
  let s := { s with scb := { s.scb with pos := frameAddr n } }
  let found := s.sramFrame n
  let ref := s.refFrame n
  if unc then s
  else if found = ref then s.foundEqual n
  else (s.setSram n ref).upsetFound n found ref

/-- One copy that disagrees is rewritten and counted (11 R337). -/
def State.outvote (s : State) (k : Nat) : State :=
  { s with scb := { s.scb with copies := s.scb.copies.set k s.scbVoted, cntTmr := satAdd 8 s.scb.cntTmr 1 } }

/-- The vote of a cycle: one copy that disagrees is outvoted, and with no majority the scrubber restarts (11 R337). -/
def State.scbVotes (s : State) (outvoted : Option Nat) (reloadBad : Bool) : State :=
  match outvoted with
  | none => s
  | some 3 => s.scrubRestart 3 reloadBad
  | some k => s.outvote k

/-- The next frame of a traverse, and its place in the order of frame addresses (11 R325). -/
def State.nextFrame (s : State) (t : Traverse) : Option Nat :=
  (List.range' t.pos (cfgFrames - t.pos)).find? fun i => !t.sig || decide (s.sigMask (addrOrder i) ≠ 0)

/-- SCRUB_STEP: one frame of the traverse, once its sweep has been made; with the last the closure check. A traverse that en = 0 ends
stops at this boundary, and one that a restart is to begin begins. The copies are voted first (11 R324, R325, R333, R337, R338, R340,
R341). -/
def scrubStep (flips : List Nat) (read : PageRead) (mapUnc : Bool) (outvoted : Option Nat) (closureBad reloadBad : Bool)
    (s : State) : State :=
  let s := if s.scrubs then s.scbVotes outvoted reloadBad else s
  if s.scb.stopping then s.scrubEnd
  else if s.scb.restarting then (if outvoted = some 3 then s else { s with scb := { s.scb with restarting := false } }.beginFull)
  else match s.scb.trav with
    | none => s
    | some t =>
      if !s.scrubs || s.scrubPaused || !t.swept then s
      else match s.nextFrame t with
        | none => s.endTraverse t.sig closureBad reloadBad
        | some i =>
          let s := (s.mapLost (addrOrder i) mapUnc).checkFrame (addrOrder i) flips read
          let u := { t with pos := i + 1 }
          let s := { s with scb := { s.scb with trav := some u } }
          if (s.nextFrame u).isSome then s else s.endTraverse t.sig closureBad reloadBad

def execScrubStep (flips : List (BitVec 12)) (read : PageRead) (mapUnc : Bool) (outvoted : Option (BitVec 2))
    (closureBad reloadBad : Bool) (s : State) : Host.Outcome State Fault Refusal :=
  answer (scrubStep (flips.map (·.toNat)) read mapUnc (outvoted.map (·.toNat)) closureBad reloadBad s)

/-- The sweep's frames as flash holds them, or as SRAM does, one replaced (08 R226, 11 R332). -/
def State.sweepWith (s : State) (sram : Bool) (n : Nat) (frame : List Byte) : List (Nat × List Byte) :=
  (List.range 1536).map fun k =>
    let m := sweepFrame k
    (m, if m = n then frame else if sram then s.sramFrame m else s.refFrame m)

/-- The difference in a frame gives a segment a second driver: by itself, or with the others that SRAM holds; the segment (11 R332). -/
def State.contends (s : State) (n : Nat) (found ref : List Byte) : Option Nat :=
  let alone := s.sweepWith false n found
  let all := s.sweepWith true n found
  if (Config.longLine alone).isSome then some (Config.segment alone)
  else if (Config.longLine all).isSome ∧ (Config.longLine (s.sweepWith true n ref)).isNone then some (Config.segment all)
  else none

/-- A frame of the sweep: a second driver is a contention upset, another difference is classified as at a step; a frame whose page is
uncorrectable is not compared (11 R328, R330, R332). DESIGN CHOICE (log entry 74) of the last. -/
def State.sweepOne (s : State) (n : Nat) (read : PageRead) : State :=
  let (unc, s) := s.refRead n read
  let found := s.sramFrame n
  let ref := s.refFrame n
  if unc then s
  else if found = ref then s.foundEqual n
  else
    let bad := s.contends n found ref
    let s := s.setSram n ref
    match bad with
    | some seg =>
      let s := { s with scb := { s.scb with cntCont := satAdd 8 s.scb.cntCont 1, cntSig := satAdd 16 s.scb.cntSig 1, last := frameAddr n } }
      (s.raise 0x0502 [it4 (frameAddr n), it2 seg]).applyPolicy
    | none => s.upsetFound n found ref

/-- CONTENTION_SWEEP: frames 135 to 142 of every column; it runs under a supply warning, a revoked grant and a lent port too (11 R331 to
R333). `flips` names the bits that upsets have changed, `reads` the outcomes of reading flash pages that BCH had to correct or could
not. -/
def contentionSweep (flips : List (Nat × List Nat)) (reads : List (Nat × PageRead)) (s : State) : State :=
  if !s.scrubs || !s.scbEn then s
  else
    let s := flips.foldl (fun s f => s.upsetBits (sweepFrame f.1) f.2) s
    let s := s.each (List.range 1536) fun s k =>
      s.sweepOne (sweepFrame k) ((reads.find? (fun r => r.1 == k)).map (·.2) |>.getD { bits := 0, unc := false })
    { s with scb := { s.scb with trav := s.scb.trav.map (fun t => { t with swept := true }) } }

def execContentionSweep (flips : List (Fin 1536 × List (BitVec 12))) (reads : List (Fin 1536 × PageRead)) (s : State) :
    Host.Outcome State Fault Refusal :=
  answer (contentionSweep (flips.map (fun f => (f.1.val, f.2.map (·.toNat)))) (reads.map (fun r => (r.1.val, r.2))) s)

/-- SCRUB_WATCHDOG: the traverse has exceeded twice its nominal time, pauses not counted (11 R339). -/
def execScrubWatchdog (reloadBad : Bool) (s : State) : Host.Outcome State Fault Refusal :=
  answer (if s.scb.trav.isSome && s.scrubs && !s.scrubPaused then s.scrubRestart 2 reloadBad else s)

/-- SCRUB_HELD: the grant has been revoked for longer than the nominal time; once for the traverse (11 R336). -/
def execScrubHeld (s : State) : Host.Outcome State Fault Refusal :=
  match s.scb.trav with
  | none => answer s
  | some t =>
    if s.pwr.grantScrub || t.held then answer s
    else answer ({ s with scb := { s.scb with trav := some { t with held := true } } }.raise 0x0506 [])

/-- The bits of SCB_CTL that a write stores (11 R341). -/
def scbMask : Nat := 0xFFFF0F07

/-- SCB_CTL_WRITE: a changed en acts at once, every other change at the start of the next traverse (11 R341). -/
def scbCtlWrite (v : Nat) (s : State) : State :=
  let was := s.scbEn
  let s := { s with scb := { s.scb with ctl := v &&& scbMask } }
  let on := v.testBit 0
  if was = on then s
  else
    let s := s.settleScb
    if on then s.beginFull
    else if s.scb.trav.isSome then { s with scb := { s.scb with stopping := true } } else s

def execScbCtlWrite (value : Word) (s : State) : Host.Outcome State Fault Refusal :=
  answer (s.hostAccess (scbCtlWrite value.toNat))

/-- recover of SCB_CMD: the restart history is cleared and a full traverse begins (11 R340). -/
def scbRecover (s : State) : State :=
  ({ s.scrubEnd with scb := { s.scrubEnd.scb with restarts := [], disabled := false } }).beginFull

def execScbRecover (s : State) : Host.Outcome State Fault Refusal := answer (s.hostAccess scbRecover)

/-- restart of SCB_CMD: the traverse ends without a closure check and a full one begins (11 R341). -/
def scbRestartCmd (s : State) : State := s.scrubEnd.beginFull

def execScbCmdRestart (s : State) : Host.Outcome State Fault Refusal := answer (s.hostAccess scbRestartCmd)

end Sys2Proof.Machine
end

