-- ==== Sys2Proof/Machine/Boot.lean ====
section
/-! DEFINITION. Keys (10 R298 to R301), loads and their release (10 R307 to R310), boot sequences (10 R311 to R313), switch-over (10
R315, R316) and base mode (10 R318, R319). -/

namespace Sys2Proof.Machine

/-- The key that a selector names, if it is available (10 R298). -/
def State.keyFor (s : State) (sel : Nat) : Option (List Byte) :=
  let fuse (k : FuseKey) (bit : Nat) := if s.flash.keyEn.testBit bit && k.prog && !k.revoked then some k.key else none
  if sel = 0 then fuse s.keys.f0 0
  else if sel = 1 then fuse s.keys.f1 1
  else if sel = 2 ∧ s.flash.keyEn.testBit 2 = true then s.keys.ram
  else none

/-- A source tried is recorded in the boot history, the newest of eight first (10 R311, R323). -/
def State.recordAttempt (s : State) (source reason : Nat) : State :=
  s.setFlash fun f => { f with bootSeq := f.bootSeq + 1,
                               boots := ({ source := source, reason := reason, seq := f.bootSeq + 1 } :: f.boots).take 8 }

/-- A failed attempt: recorded, and START_FAILED raised (10 R311, R323). -/
def State.attemptFailed (s : State) (source reason : Nat) : State :=
  ({ s.recordAttempt source reason with cfg := { s.cfg with lastReason := reason } }).raise 0x0303 [it1 source, it1 reason]

/-- pref_slot; 2 and 3 are treated as 0 (10 R323). -/
def State.pref (s : State) : Nat := if s.flash.prefSlot = 1 then 1 else 0

/-- The sources of a boot sequence in order: slots 0 to 2, flash primary 3, flash golden 4 (10 R311). -/
def State.bootOrder (s : State) : List Nat :=
  (if s.cfg.wakeSlot < 3 then [s.cfg.wakeSlot] else []) ++ [s.pref, 1 - s.pref, 2] ++ (if s.flash.extEn then [3, 4] else [])

/-- The first source left that is neither invalid nor tried, with those after it (10 R311). -/
def State.pickSource (s : State) : List Nat → Option (Nat × List Nat)
  | [] => none
  | k :: rest =>
    if 3 ≤ k ∨ ((s.flash.slot k).valid = true ∧ s.cfg.tried.contains k = false) then some (k, rest) else s.pickSource rest

/-- The key_bound check of a slot: the key it is bound to, if any, is available (10 R301). -/
def State.boundKeyOk (s : State) (slot : Nat) : Bool :=
  !(s.flash.slot slot).policy.testBit 3 || (s.keyFor (s.flash.slot slot).keySel).isSome

/-- A load begins: its key is checked, sites dissolved, channels-live cleared, static registers at reset, port buffers emptied, readback shadows
discarded, the scrubber ended, GSR asserted, the counters of FAB_RAM_ECC at 0, no design running, and the AON flag set (10 R308, R312,
R323, 08 R241, R250, R256, 11 R334). DESIGN CHOICE (log entry 71): a load makes its key_bound check as it begins. -/
def State.beginLoad (s : State) (slot : Nat) (why : LoadFor) (source : Nat) : State :=
  let prev := s.cfg.active
  let s := s.dissolveAll.readbackLoad.scrubEnd.resetStatics.dropWindow
  let s := s.each (List.range 32) fun s p => (s.emptyBufs p).emptyMq p
  { s with fab := { s.fab with gsr := true, clocks := false, ports := false, eccCorr := 0, eccUnc := 0 },
           aon := { s.aon with loadFlag := true, loadSource := source },
           cfg := { s.cfg with live := false, loaded := false, confirmed := false, active := 3, released := none, phase := 0,
                               source := 7,
                               load := some { slot := slot, why := why, prev := prev, keyOk := s.boundKeyOk slot } } }

/-- A pin in base mode: it is in its boot state under the table in force, but for one that a device function drives (10 R318, 14 R388,
R396). DEDUCED (log entry 72): a pin out of its boot state with a device function other than GPIO keeps it. -/
def State.pinToBase (s : State) (n : Nat) : State :=
  let x := s.pin n
  let st := (s.flash.pinTable.get (fun _ => {}) n).st
  if x.boot || decide (x.func < 3) then s.setPin n { x with func := 0, hold := none, boot := true, bootState := st }
  else s.setPin n { x with bootState := st }

/-- The FAB domain and every parcel are off, pins go to their base state, and BASE_MODE is raised (10 R318). -/
def State.enterBase (s : State) : State :=
  let s := s.dissolveAll.readbackLoad.scrubEnd.dropWindow
  let s := s.each (List.range 32) State.switchOff
  let s := s.each (List.range 96) State.pinToBase
  let reason := match s.flash.boots with | r :: _ => r.reason | [] => 0
  let s := { s with fab := {}, cfg := { s.cfg with
    live := false, loaded := false, confirmed := false, active := 3, released := none, load := none, phase := 0, source := 7,
    booting := false, base := true, baseReason := reason } }
  s.railSync.raise 0x0304 [it1 reason, it1 s.aon.bootCount]

/-- A staging begins; one into G clears g_stage_en (10 R289, R323). -/
def State.openStage (s : State) (x : Staging) : State :=
  { s with cfg := { s.cfg with stage := some x, stageSlot := x.slot, stageReason := 0, banksDone := 0,
                               gStageEn := s.cfg.gStageEn && decide (x.slot ≠ 2) } }

/-- A flash source of the boot sequence is staged into the update slot that pref_slot does not name, once no other staging is in
progress (10 R311). DESIGN CHOICE (log entry 71): it waits for the other. -/
def State.bootStage (s : State) (golden : Bool) : State :=
  if s.cfg.stage.isSome then { s with cfg := { s.cfg with stageNext := some golden } }
  else ({ s with cfg := { s.cfg with stageNext := none } }).openStage { src := .boot golden, slot := 1 - s.pref }

/-- A staging has ended: a flash source that waits for it is staged (10 R311). -/
def State.stageEnded (s : State) : State := match s.cfg.stageNext with | some g => s.bootStage g | none => s

/-- A source is tried: a slot is loaded, a flash image first staged (10 R311). -/
def State.trySource (s : State) (k : Nat) (rest : List Nat) : State :=
  let s := { s with cfg := { s.cfg with todo := rest, tried := k :: s.cfg.tried } }
  if k < 3 then s.beginLoad k (.boot k) k
  else s.bootStage (decide (k = 4))

/-- A boot sequence goes on with the sources left; when none is left it has failed, and a new one begins, or base mode at the third
failure in a row (10 R311 to R313). `fuel` bounds the sequences that fail without an attempt. -/
def State.bootOn : Nat → List Nat → State → State
  | 0, _, s => s.enterBase
  | fuel + 1, todo, s =>
    match s.pickSource todo with
    | some (k, rest) => s.trySource k rest
    | none =>
      let n := min 3 (s.aon.bootCount + 1)
      let s := { s with aon := { s.aon with bootCount := n }, cfg := { s.cfg with tried := [], wakeSlot := 3 } }
      if 3 ≤ n then s.enterBase else s.bootOn fuel s.bootOrder

/-- Sequences that can fail in a row before base mode. -/
def bootFuel : Nat := 4

/-- A boot sequence begins (10 R311 to R313): an attempt that a reset cut is recorded first. -/
def State.startBoot (s : State) : State :=
  let s := if s.aon.loadFlag then
      { s.attemptFailed s.aon.loadSource (if s.aon.cutBySupply then 9 else 0x0D) with aon := { s.aon with loadFlag := false } }
    else s
  if 3 ≤ s.aon.bootCount then s.enterBase
  else
    let s := { s with cfg := { s.cfg with booting := true, tried := [], base := false } }
    s.bootOn bootFuel s.bootOrder

/-- The frame check of a bank: CRC-32C over its frames of a slot in index order (10 R307). -/
def Flash.bankCheck (f : Flash) (b s : Nat) : Nat :=
  (crc32c ((List.range (bankFrames b)).flatMap fun k => sliceAt (f.frame b s k) 0 512)).toNat

/-- Frames 135 to 142 of every column of a slot (08 R226). -/
def Flash.longFrames (f : Flash) (s : Nat) : List (Nat × List Byte) :=
  (List.range 1536).map fun k => (sweepFrame k, sliceAt (f.frame (k / 8) s (135 + k % 8)) 0 512)

/-- Why a load fails before release, and the frame address reported with it: the first of 0x01, 0x04, 0x07, 0x03 and 0x05; `keyOk` is
its key_bound check, `headerBad` says that the header read from the system part fails R291 (10 R301, R307, R317, R320). -/
def State.loadFault (s : State) (slot : Nat) (keyOk headerBad badPages : Bool) : Option (Nat × Option Nat) :=
  let x := s.flash.slot slot
  if headerBad || !x.valid then some (1, none)
  else if !keyOk then some (4, none)
  else if badPages then some (7, none)
  else if (List.range frameBanks).any (fun b => decide (s.flash.bankCheck b slot ≠ x.checks.get zeroNat b)) then some (3, none)
  else (Config.longLine (s.flash.longFrames slot)).map (fun a => (5, some a))

/-- A rejection's frame address is kept (10 R320). -/
def State.rejected (s : State) (frame : Option Nat) : State :=
  match frame with
  | some a => { s with cfg := { s.cfg with rejValid := true, rejFrame := a } }
  | none => s

/-- A switch-over that has not confirmed, or whose load failed, reloads the slot active before; without one a boot sequence runs (10
R316). -/
def State.revertTo (s : State) (prev : Nat) : State :=
  if prev < 3 then s.beginLoad prev .revert prev else s.startBoot

/-- A load fails before release: the next source, the slot active before, or a boot sequence (10 R307, R311, R316, R322). -/
def State.loadFailed (s : State) (l : Load) (reason : Nat) (frame : Option Nat) : State :=
  let s := (s.rejected frame)
  let s := { s with cfg := { s.cfg with load := none }, aon := { s.aon with loadFlag := false } }
  match l.why with
  | .boot k => let s := s.attemptFailed k reason; s.bootOn bootFuel s.cfg.todo
  | .switch d _ => (s.finish d { status := 2, cause := reason, flags := 1 }).revertTo l.prev
  | .jtag _ => { s with cfg := { s.cfg with jtagStatus := 3, jtagReason := reason } }.revertTo l.prev
  | .revert => s.startBoot

/-- Configuration SRAM as a slot's frames give it (10, R307). -/
def Flash.sramOf (f : Flash) (s : Nat) : SMap (List Byte) :=
  (List.range cfgFrames).foldl (fun m n => SMap.set zeroFrame m n (sliceAt (f.frame (n / 144) s (n % 144)) 0 512))
    ([] : SMap (List Byte))

/-- The 72-bit words of a fabric RAM block: nine frames in sequence, word a at bits 72a on (08 R226). -/
def Flash.ramWord (f : Flash) (s block word : Nat) : Nat :=
  let b := 192 + block / 72
  let bytes := (List.range 9).flatMap fun k => sliceAt (f.frame b s (9 * (block % 72) + k)) 0 512
  leAt bytes (9 * word) 9

/-- Fabric RAM as a slot's frames give it (08 R226, R233). -/
def Flash.ramOf (f : Flash) (s : Nat) : SMap Nat :=
  (List.range 4608).foldl (fun m b => (List.range 512).foldl (fun m w => SMap.set zeroNat m (512 * b + w) (f.ramWord s b w)) m)
    ([] : SMap Nat)

/-- The source code of a load in CFG_BOOT_REC and the boot history (10 R323). -/
def Load.source (l : Load) : Nat := match l.why with | .boot k => k | _ => l.slot

/-- Release tick 0 (10 R309, 08 R243, 11 R334): SRAM and fabric RAM hold the image, static entries are applied, GSR deasserts, the
design starts, the start-confirm timer runs, the scrubber starts. -/
def State.release (s : State) (l : Load) : State :=
  let s := { s with fab := { s.fab with sram := s.flash.sramOf l.slot, ram := s.flash.ramOf l.slot, ramFlip := [],
                                        ramBack := [], gsr := false } }
  let s := { s with aon := { s.aon with loadFlag := false },
                    cfg := { s.cfg with load := none, released := some l, phase := 1, active := l.slot, loaded := true, source := l.source } }
  let s := (s.startDesign.applyStatics s.activeSlot.statics 0xFFFFFFFF).scrubRelease
  match l.why with
  | .boot k => s.raise 0x0301 [it1 k, it8 s.activeSlot.id]
  | .switch d _ => s.finish d { result := leBytes 8 s.activeSlot.id }
  | .jtag _ => { s with cfg := { s.cfg with jtagStatus := 0, jtagReason := 0 } }
  | .revert => s

/-- The pages of a slot, of its frames and of its system part, by bank and page, whose stored address is not their own (09 R259, R261,
R262). -/
def Flash.strayPages (f : Flash) (slot : Nat) : List (Nat × Nat) :=
  ((List.range frameBanks).flatMap fun b => ((List.range (bankFrames b)).map (frameLoc b slot)).filterMap fun l =>
    if f.strays b (f.phys b l.1) l.2 then some (b, 64 * f.phys b l.1 + l.2) else none) ++
  ((List.range 2560).map (f.systemPage slot)).filter fun p => f.strays p.1 (p.2 / 64) (p.2 % 64)

/-- GSR_RELEASE: the load's reads end, with the pages that were uncorrectable and the number of reads corrected, `high` of
them in 6 bits or more, and what R291 says of the header in the system part; it fails, or releases (09 R280, 10 R307, R309). Slots are read once the journal is resolved (09 R277). -/
def gsrRelease (bad : List (Nat × Nat)) (corrected high : Nat) (headerBad : Bool) (s : State) : State :=
  match s.cfg.load with
  | none => s
  | some l =>
    if s.nvm.journalBusy then s
    else
      let s := { s with nvm := { s.nvm with eccCorr := satAdd 16 s.nvm.eccCorr corrected,
                                            eccHigh := satAdd 8 s.nvm.eccHigh (min high corrected) } }
      let bad := bad ++ (s.flash.strayPages l.slot).filter (fun p => !bad.contains p)
      let s := bad.foldl (fun s p => s.countRead p.1 p.2 0 true) s
      match s.loadFault l.slot l.keyOk headerBad (!bad.isEmpty) with
      | some (r, f) => s.loadFailed l r f
      | none => s.release l

def execGsrRelease (badPages : List (Fin 260 × BitVec 13)) (corrected : BitVec 16) (high : BitVec 8) (headerBad : Bool) (s : State) :
    Host.Outcome State Fault Refusal :=
  answer (gsrRelease (badPages.map (fun p => (p.1.val, p.2.toNat))) corrected.toNat high.toNat headerBad s)

/-- FABRIC_CLOCKS_ENABLE: release + 16 t (10 R309). -/
def execFabricClocksEnable (s : State) : Host.Outcome State Fault Refusal :=
  answer (if s.cfg.phase = 1 then
    { s with cfg := { s.cfg with phase := 2 }, fab := { s.fab with clocks := true, edges := 0 } } else s)

/-- PARCEL_PORTS_ENABLE: release + 32 t (10 R309). -/
def execParcelPortsEnable (s : State) : Host.Outcome State Fault Refusal :=
  answer (if s.cfg.phase = 2 then
    { s with cfg := { s.cfg with phase := 3 }, fab := { s.fab with ports := true } } else s)

/-- GPIO_BOOT_EXIT: release + 64 t; pins leave their boot state, and an image with live = 1 sets channels-live (10 R309). -/
def gpioBootExit (s : State) : State :=
  if s.cfg.phase = 3 then
    let s := s.leaveBoot
    { s with cfg := { s.cfg with phase := 4, live := s.cfg.live || s.activeSlot.policy.testBit 0 } }
  else s

def execGpioBootExit (s : State) : Host.Outcome State Fault Refusal := answer (gpioBootExit s)

/-- The pin boot table of a slot becomes the one in force (10 R310). -/
def State.adoptPins (s : State) (l : List PinEntry) : State :=
  if l.isEmpty then s
  else s.setFlash fun f => { f with
    pinTable := (List.range 96).foldl (fun m n => SMap.set (fun _ => {}) m n (l.getD n {})) ([] : SMap PinEntry) }

/-- The slot that a confirmed start makes preferred (10 R311, R315). -/
def Load.makesPref (l : Load) : Option Nat :=
  match l.why with
  | .boot k => if 3 ≤ k then some l.slot else none
  | .switch _ p => if p ∧ l.slot < 2 then some l.slot else none
  | .jtag p => if p ∧ l.slot < 2 then some l.slot else none
  | .revert => none

/-- A start is confirmed (10 R310, R311, R312). -/
def State.confirm (s : State) : State :=
  match s.cfg.released with
  | none => s
  | some l =>
    let s := (s.recordAttempt l.source 0).adoptPins s.activeSlot.pins
    let s := match l.makesPref with | some k => s.setFlash fun f => { f with prefSlot := k } | none => s
    let s := { s with aon := { s.aon with bootCount := 0 },
                      cfg := { s.cfg with released := none, confirmed := true, booting := false, todo := [], tried := [], wakeSlot := 3 } }
    s.raise 0x0302 []

/-- CFG_START_OK (10 R310). -/
def cfgStartOk (v : Nat) (s : State) : State := if v.testBit 0 then s.confirm else s

def execCfgStartOk (value : Word) (s : State) : Host.Outcome State Fault Refusal :=
  answer (s.hostAccess (cfgStartOk value.toNat))

/-- START_OK_SIGNAL: the fabric's START_OK, sampled on net 0 from release + 16 t, or a pin that serves START_OK, which none does before
release + 64 t (10 R309, R310, 14 R386, R398). -/
def execStartOkSignal (fabric pad : Bool) (s : State) : Host.Outcome State Fault Refusal :=
  answer (if s.fab.clocks && (fabric || (s.inputServed 10 (fun _ => true) && pad)) then s.confirm else s)

/-- START_CONFIRM_TIMEOUT: channels safe, GSR asserted, the attempt failed with reason 0x06; the next source, or a reversion (10 R310,
R311, R316). DEDUCED (log entry 70): R310 counts a start after a switch-over as an attempt too. -/
def startConfirmTimeout (s : State) : State :=
  match s.cfg.released with
  | none => s
  | some l =>
    let s := s.dissolveAll.scrubEnd.dropWindow
    let s := { s with fab := { s.fab with gsr := true, clocks := false, ports := false },
                      cfg := { s.cfg with released := none, live := false, loaded := false, phase := 0, active := 3, source := 7 } }
    let s := s.attemptFailed l.source 6
    match l.why with
    | .boot _ => s.bootOn bootFuel s.cfg.todo
    | .revert => s.startBoot
    | _ => (s.raise 0x0307 []).revertTo l.prev

def execStartConfirmTimeout (s : State) : Host.Outcome State Fault Refusal := answer (startConfirmTimeout s)

/-- A load is a switch-over's, by descriptor or by the JTAG port (10 R315, R322). -/
def Load.switches (l : Load) : Bool := match l.why with | .switch _ _ => true | .jtag _ => true | _ => false

/-- SWITCH_OVER is refused (10 R315). -/
def State.switchRefused (s : State) (slot : Nat) : Bool :=
  !s.activeSites.isEmpty || !(s.flash.slot slot).valid || s.cfg.stage.any (fun x => x.slot == slot) || s.cfg.load.any Load.switches ||
    s.cfg.base

/-- A switch-over begins its load; it takes the place of a boot sequence, or of a reload, in progress, and a staging of that sequence
goes on without it (10 R315). DESIGN CHOICE (log entry 71). -/
def State.switchLoad (s : State) (slot : Nat) (why : LoadFor) : State :=
  let stage := s.cfg.stage.map fun x => match x.src with | .boot _ => { x with stale := true } | _ => x
  ({ s with cfg := { s.cfg with booting := false, todo := [], tried := [], stageNext := none, stage := stage } }).beginLoad slot why slot

/-- SWITCH_OVER (10 R315, R316). -/
def execSwitchOver (d : DescRef) (slot : Byte) (makePref : Bool) (s : State) : Host.Outcome State Fault Refusal :=
  let n := slot.toNat
  answer (s.runChecked (descId d 0x21) (rowFields (.switchOver d slot makePref)) false (malformedCause false (decide (3 ≤ n)) false) false
    fun k s => if s.switchRefused n then s.finish k { status := 1 } else s.switchLoad n (.switch k makePref))

/-- Base mode is left for a boot sequence, with the counter cleared and the domains powered (10 R319). -/
def State.bootRetry (s : State) : State :=
  let s := { s with aon := { s.aon with bootCount := 0 }, cfg := { s.cfg with base := false } }
  (s.each (List.range 32) State.switchOn).railSync.startBoot

/-- BOOT_RETRY (10 R319). -/
def execBootRetry (d : DescRef) (s : State) : Host.Outcome State Fault Refusal :=
  answer (s.runDesc (descId d 0x22) [] true fun k s => if s.cfg.base then (s.finish k {}).bootRetry else s.finish k { status := 1 })

/-- A fuse slot. -/
def Keys.fuse (k : Keys) (n : Nat) : FuseKey := if n = 0 then k.f0 else k.f1
def Keys.setFuse (k : Keys) (n : Nat) (x : FuseKey) : Keys := if n = 0 then { k with f0 := x } else { k with f1 := x }

/-- KEY_FUSE_PROGRAM's effect once its descriptor has started (10 R299, 12 R360). -/
def keyFuseProgram (i : DescId) (n : Nat) (b : HostBlock) (vppOk : Bool) (s : State) : State :=
  match badBlock 0 [b] with
  | some p => s.blockFail i [b] p
  | none =>
    let s := s.blockError [b]
    let k := s.keys.fuse n
    if !s.cfg.fuseProgEn || !vppOk || k.prog || k.revoked then s.finish i { status := 1 }
    else { s with keys := s.keys.setFuse n { k with prog := true, key := sliceAt b.data 0 32 },
                  cfg := { s.cfg with fuseProgEn := false } }.finish i {}

def execKeyFuseProgram (d : DescRef) (slot : Byte) (block : HostBlock) (vppOk : Bool) (s : State) :
    Host.Outcome State Fault Refusal :=
  if !block.wellFormed then .fault .illFormed
  else answer (s.runChecked (descId d 0x23) (rowFields (.keyFuseProgram d slot block vppOk)) false
    (malformedCause false (decide (2 ≤ slot.toNat)) false) false fun k => keyFuseProgram k slot.toNat block vppOk)

/-- KEY_FUSE_REVOKE (10 R299). -/
def execKeyFuseRevoke (d : DescRef) (slot : Byte) (s : State) : Host.Outcome State Fault Refusal :=
  answer (s.runChecked (descId d 0x24) (rowFields (.keyFuseRevoke d slot)) false (malformedCause false (decide (2 ≤ slot.toNat)) false)
    false fun i s =>
    let k := s.keys.fuse slot.toNat
    if k.revoked then s.finish i { status := 1 }
    else { s with keys := s.keys.setFuse slot.toNat { k with revoked := true } }.finish i {})

/-- KEY_RAM_LOAD's effect once its descriptor has started (10 R299). -/
def keyRamLoad (i : DescId) (n : Nat) (b : HostBlock) (s : State) : State :=
  match badBlock 0 [b] with
  | some p => s.blockFail i [b] p
  | none =>
    let s := s.blockError [b]
    match s.keyFor (n % 2) with
    | none => s.finish i { status := 1, cause := 4 }
    | some k => match keyUnwrap k (sliceAt b.data 0 40) with
      | none => s.finish i { status := 2 }
      | some x => { s with keys := { s.keys with ram := some x } }.finish i {}

def execKeyRamLoad (d : DescRef) (slot : Byte) (block : HostBlock) (s : State) : Host.Outcome State Fault Refusal :=
  if !block.wellFormed then .fault .illFormed
  else answer (s.runChecked (descId d 0x25) (rowFields (.keyRamLoad d slot block)) true
    (malformedCause false (decide (2 ≤ slot.toNat)) false) false fun k => keyRamLoad k slot.toNat block)

/-- KEY_RAM_CLEAR (10 R299). -/
def execKeyRamClear (d : DescRef) (s : State) : Host.Outcome State Fault Refusal :=
  answer (s.runDesc (descId d 0x26) [] false fun k s => { s with keys := { s.keys with ram := none } }.finish k {})

/-- CTL is powered, so that an event can be raised (01, power domains). -/
def State.ctlOn (s : State) : Bool := decide (s.pwr.state ≠ .deepSleep) && decide (s.pwr.state ≠ .off)

/-- KEY_ZEROIZED, now or once CTL is powered (10 R300). -/
def State.keyEvent (s : State) (cause : Nat) : State :=
  if s.ctlOn then s.raise 0x0308 [] else { s with keys := { s.keys with eventDue := s.keys.eventDue ++ [cause] } }

/-- TAMPER: asserted for 100 ns on a pin that selects it (10 R300, 14 R397). -/
def tamper (n : Nat) (s : State) : State :=
  if s.pins.tamper.get noFlag n then { s with keys := { s.keys with ram := none, tamper := true } }.keyEvent 0 else s

def execTamper (pin : Fin 2) (s : State) : Host.Outcome State Fault Refusal := answer (tamper pin.val s)

/-- VBAT_LOST (10 R300). -/
def execVbatLost (s : State) : Host.Outcome State Fault Refusal :=
  answer ({ s with keys := { s.keys with ram := none, vbatLost := true } }.keyEvent 1)

/-- A keyed write of the CFG block: without the key 0xC5A7 it only raises KEY_WRITE_REFUSED (10 R323). -/
def State.keyed (s : State) (off v : Nat) (f : State → State) : State :=
  if v / 2 ^ 16 = 0xC5A7 then f s else s.raise 0x0309 [it4 off]

/-- CFG_BOOT_POLICY written (10 R323). -/
def cfgBootPolicyWrite (v : Nat) (s : State) : State :=
  s.keyed 0x300008 v fun s =>
    ({ s with cfg := { s.cfg with gStageEn := v.testBit 3 } }).setFlash fun f =>
      { f with prefSlot := fld v 0 2, extEn := v.testBit 2 }

def execCfgBootPolicyWrite (value : Word) (s : State) : Host.Outcome State Fault Refusal :=
  answer (s.hostAccess (cfgBootPolicyWrite value.toNat))

/-- CFG_KEY_POLICY written: ignored while locked (10 R323). -/
def cfgKeyPolicyWrite (v : Nat) (s : State) : State :=
  s.keyed 0x30000C v fun s =>
    if s.aon.keyLock then s
    else ({ s with cfg := { s.cfg with fuseProgEn := v.testBit 3 }, aon := { s.aon with keyLock := v.testBit 4 } }).setFlash
      fun f => { f with keyEn := fld v 0 3 }

def execCfgKeyPolicyWrite (value : Word) (s : State) : Host.Outcome State Fault Refusal :=
  answer (s.hostAccess (cfgKeyPolicyWrite value.toNat))

/-- CFG_JTAG_CTL written (10 R323). -/
def cfgJtagCtlWrite (v : Nat) (s : State) : State :=
  s.keyed 0x300028 v fun s => { s with cfg := { s.cfg with jtagCtl := fld v 0 3 } }

def execCfgJtagCtlWrite (value : Word) (s : State) : Host.Outcome State Fault Refusal :=
  answer (s.hostAccess (cfgJtagCtlWrite value.toNat))

/-- VAON_LOSS: the AON domain is cleared, with the boot-attempt counter and the key policy's lock (10 R312, R323). -/
def execVaonLoss (s : State) : Host.Outcome State Fault Refusal := answer { s with aon := { portHeld := s.aon.portHeld, pwrGood := s.aon.pwrGood, ma := s.aon.ma } }

end Sys2Proof.Machine
end

