-- ==== Sys2Proof/Machine/Calib.lean ====
section
/-! DEFINITION. Timing calibration (07 R202 to R218): the measurement, the table entries, and the evaluation of drift and load. -/

namespace Sys2Proof.Machine

/-- A mean in whole units, the nearest below or above where it lies between two (07 R206, R209). -/
def meanOf (sum : Int) (n : Nat) : Int := sum / n + (if sum % n ≠ 0 ∧ Config.meanUp sum n = true then 1 else 0)

/-- The transition of a stimulus arrived within 64 t of its launch, which lies `dsk` fine steps after the launch tick's start; a tick of
`div` VCO cycles is div × 1000 ÷ 3 units of 0.5 ps (07 R205). -/
def calSeen (div : Nat) (dsk a : Int) : Bool := decide (768 * a ≤ div * 1000 * (64 * 256 + dsk))

/-- The 16 bytes of a channel in the result block: mean arrival, spread and count of the transitions seen (07 R206). -/
def calChannel (i : Nat) (l : List Int) : List Byte :=
  let n := l.length
  let spread := (l.foldl max (l.headD 0) - l.foldl min (l.headD 0)).toNat
  leBytes 4 (if n = 0 then Config.calOpen i 0 else unsignedOf 32 (meanOf l.sum n)) ++
    leBytes 2 (if n = 0 ∨ 2 ^ 16 ≤ spread then Config.calOpen i 4 else spread) ++
    leBytes 2 (if 2 ^ 16 ≤ n then Config.calOpen i 6 else n) ++ leBytes 8 0

/-- A CAL_MEASURE result block; `dsk` is the deskew of the launch for a measured channel (07 R206). -/
def calBlock (p lvl sel mask reps : Nat) (dsk : Nat → Int) (m : CalSeen) : List Byte :=
  let ch (i : Nat) :=
    if mask.testBit i then
      calChannel i ((((m.arrivals.getD i []).take reps).map (fun a => a.toInt)).filter (calSeen (levelDiv lvl) (dsk i)))
    else leBytes 16 0
  leBytes 1 0x31 ++ leBytes 1 p ++ leBytes 1 lvl ++ leBytes 1 m.tj.toNat ++ leBytes 2 m.replica.toNat ++ leBytes 1 m.load.toNat ++
    leBytes 1 (sel % 16) ++ leBytes 24 0 ++ (List.range 32).flatMap ch

/-- CAL_MEASURE's effect once its descriptor has started: the stimulus begins with the parcel's next tick, and takes repetitions ×
spacing ticks, times the channels for an own stimulus (07 R205, R206, 15 R417). -/
def calMeasure (i : DescId) (p sel launch aggr mask aggrMask reps spacing : Nat) (o : DataOut) (m : CalSeen) (s : State) : State :=
  if !s.parcelOn p then s.finish i { status := 1, cause := 1 }
  else if s.parActive p || !s.cfg.live then s.finish i { status := 1 }
  else
    let kind := sel / 2
    let ref := decide (4 ≤ kind)
    let div := levelDiv (s.pclLevel p)
    let dsk (c : Nat) : Int := s.deskew (32 * p + (if ref then launch else c)) (if ref then kind - 4 else kind)
    let slots := if ref then reps else reps * (maskBits 32 mask).length
    let first := tickUp div s.vco
    s.modP p fun x => { x with meas := some {
      desc := i, out := o, block := calBlock p (s.pclLevel p) sel mask reps dsk m, kind := kind, launch := launch, mask := mask,
      aggr := aggr, aggrMask := aggrMask, slots := slots, spacing := spacing, from_ := first, upto := first + slots * spacing * div } }

/-- CAL_MEASURE (07 R205). DESIGN CHOICE (log entry 67): one that meets a measurement in progress in its parcel waits for it. -/
def execCalMeasure (d : DescRef) (p : ParcelNo) (sel launch aggr : Byte) (mask aggrMask reps : Word) (spacing : BitVec 16)
    (out : DataOut) (seen : CalSeen) (s : State) : Host.Outcome State Fault Refusal :=
  answer (if (s.p p.toNat).meas.isSome then s
    else s.runChecked (descId d 0x1C) (rowFields (.calMeasure d p sel launch aggr mask aggrMask reps spacing out seen)) false
      (malformedCause (decide (16 ≤ sel.toNat))
        (decide (6 ≤ sel.toNat / 2) || decide (32 ≤ launch.toNat) || decide (aggr = 0) || decide (reps = 0) ||
          decide (65536 < reps.toNat) || decide (spacing.toNat < 128) || decide (1 < out.blocks.toNat)) (outBad out)) false
      fun k => calMeasure k p.toNat sel.toNat launch.toNat aggr.toNat mask.toNat aggrMask.toNat reps.toNat spacing.toNat out seen)

/-- The measurements that have come to their end complete, once their block may be written (07 R205, R206, 12 R345). -/
def State.measDone (s : State) : State :=
  s.each (s.par.map (·.1)) fun s p =>
    match (s.p p).meas with
    | some x =>
      if s.vco < x.upto ∨ s.requests = false then s
      else ((s.modP p fun y => { y with meas := none }).outBlocks x.out 0 (cutBlocks 1 x.block)).finish x.desc {}
    | none => s

/-- Bytes of a CAL_LOAD block that the layout does not list (07 R207). -/
def calUnlisted (k : Nat) : Bool :=
  decide (k = 3) || (decide (8 ≤ k) && decide (k < 16)) || (decide (16 ≤ k) && decide (k < 528) && decide (12 ≤ (k - 16) % 16)) ||
    decide (528 ≤ k)

/-- An unlisted byte is not 0; `k` is the offset of the list's first byte. -/
def calReserved : Nat → List Byte → Bool
  | _, [] => false
  | k, b :: bs => (calUnlisted k && decide (b ≠ 0)) || calReserved (k + 1) bs

/-- Deskew of channel i, type j, in a CAL_LOAD block (07 R207). -/
def calValue (b : List Byte) (i j : Nat) : Int := signed 16 (leAt b (16 + 16 * i + 2 * j) 2)

/-- R204: DRV rising and falling, and DEN rising and falling, differ by at most 64. -/
def deskewPair (a b : Int) : Bool := decide (a - b ≤ 64) && decide (b - a ≤ 64)

/-- A CAL_LOAD block is good for a parcel (07 R204, R207). -/
def calBlockOk (p : Nat) (b : List Byte) : Bool :=
  decide (leAt b 0 1 = 0x30) && decide (leAt b 1 1 = p) && decide (leAt b 2 1 < 4) && !calReserved 0 b &&
    ((List.range 32).all fun i =>
      ((List.range 6).all fun j => decide (-1024 ≤ calValue b i j) && decide (calValue b i j ≤ 1023)) &&
        deskewPair (calValue b i 0) (calValue b i 1) && deskewPair (calValue b i 2) (calValue b i 3))

/-- The offset of a deskew register (07 R217). -/
def dskOff (p l i j : Nat) : Nat := parBase p + 0x23000 + 0x400 * l + 0x20 * i + 4 * j

/-- CAL_LOAD's effect once its descriptor has started: one entry written whole, or nothing (07 R207, 12 R360, 15 R417). -/
def calLoad (i : DescId) (p : Nat) (b : HostBlock) (s : State) : State :=
  if !s.parcelOn p then s.finish i { status := 1, cause := 1 }
  else match badBlock 0 [b] with
    | some q => s.blockFail i [b] q
    | none =>
      let s := s.blockError [b]
      let l := leAt b.data 2 1
      if !calBlockOk p b.data || decide (topLevel < l) || s.parActive p then s.finish i { status := 1 }
      else
        let s := s.each (List.range 32) fun s c => s.each (List.range 6) fun s j =>
          s.setReg (dskOff p l c j) (unsignedOf 11 (calValue b.data c j))
        let s := s.setReg (parBase p + 0x24000 + 0x10 * l) (leAt b.data 4 1 + leAt b.data 5 1 * 2 ^ 8 + 2 ^ 16)
        (s.setReg (parBase p + 0x24004 + 0x10 * l) (leAt b.data 6 2)).finish i {}

/-- CAL_LOAD (07 R207). -/
def execCalLoad (d : DescRef) (p : ParcelNo) (block : HostBlock) (s : State) : Host.Outcome State Fault Refusal :=
  if !block.wellFormed then .fault .illFormed
  else answer (s.runDesc (descId d 0x1D) (rowFields (.calLoad d p block)) false fun k => calLoad k p.toNat block)

/-- Half away from zero: the rounding of a number of sixteenths (07 R210). -/
def roundHalf (n : Int) : Int := if 0 ≤ n then (n + 8) / 16 else -((-n + 8) / 16)

/-- A site with engines in the parcel is between its start commit and the end of its run (07 R214). -/
def State.parRuns (s : State) (p : Nat) : Bool := (s.sitesOf p).any (fun n => (s.run n).any Run.stoppable)

/-- PCL_CAL_CTL fields (07 R218). -/
def State.calCtl (s : State) (p : Nat) : Nat := s.reg (parBase p + 0x24100)

/-- The unclamped offset an evaluation calls for (07 R210). -/
def State.driftCall (s : State) (p replica : Nat) : Int :=
  -(roundHalf ((replica : Int) - s.regF (parBase p + 0x24004 + 0x10 * s.pclLevel p) 0 16))

/-- The target offset, clamped; 0 without tracking, and DRIFT_LIMIT once per parcel per run (07 R210, R212). -/
def State.evalTarget (s : State) (p replica : Nat) : State :=
  let want := s.driftCall p replica
  let on := (s.calCtl p).testBit 0
  let t := if on then max (-64) (min 63 want) else 0
  let s := s.modP p fun x => { x with target := t }
  if on && decide (t ≠ want) then
    let raise := s.parRuns p && !(s.p p).limRaised
    let s := s.modP p fun x => { x with statLim := true, limRaised := x.limRaised || raise }
    if raise then s.raise 0x1053 [it1 p] else s
  else s

/-- The load range: the interval begins or ends, its evaluations are counted, and its first in a run is reported (07 R208,
R214). -/
def State.evalLoad (s : State) (p idx : Nat) : State :=
  let tag := s.calTag p (s.pclLevel p) % 256
  let out := decide (fld (s.calCtl p) 8 8 < (if tag ≤ idx then idx - tag else tag - idx))
  let runs := s.parRuns p
  let x := s.p p
  let counted := runs && (out || x.uncal)
  let s := s.setP p { x with loadIdx := idx, calOut := out,
                             calFrom := if out && !x.calOut then s.tim.tick else x.calFrom,
                             calTo := if !out && x.calOut then s.tim.tick else x.calTo,
                             oorCnt := if counted then satAdd 32 x.oorCnt 1 else x.oorCnt }
  if out && runs then
    let s := s.each (s.sitesOf p) fun s n => s.modRun n fun r => if r.stoppable then { r with flagCal := true } else r
    if (s.p p).calRaised then s else s.raiseOor p
  else s

/-- The temperature: outside the entry's range during a run it is reported once (07 R215). -/
def State.evalTemp (s : State) (p tj : Nat) : State :=
  let d := signed 8 tj - signed 8 (fld (s.calTag p (s.pclLevel p)) 8 8)
  if s.parRuns p && decide ((fld (s.calCtl p) 16 8 : Int) < (if 0 ≤ d then d else -d)) then
    let first := !(s.p p).tempRaised
    let s := s.modP p fun x => { x with statTemp := true, tempRaised := true }
    if first then s.raise 0x1051 [it1 p] else s
  else s

/-- The load index of a microsecond: the sum of the droops of VCORE and VCH in a tick, averaged over its ticks, in units of 0.25 mV, at
most 255 (07 R209). -/
def loadIndex (droops : List (Nat × Nat)) : Nat := min 255 (meanOf ((droops.map (fun q => q.1 + q.2)).sum : Nat) (250 * droops.length)).toNat

/-- DRIFT_EVALUATION: at a datum-time microsecond boundary while its tick clock runs the parcel reads its replica, its load index and its
temperature (07 R209, R210, R212, R214, R215, 15 R404). A microsecond whose droops the command does not give keeps the index. -/
def driftEvaluation (p replica : Nat) (droops : List (Nat × Nat)) (tj : Nat) (s : State) : State :=
  if !s.parcelOn p || !s.tim.locked || decide (s.pwr.state ≠ .run) then s
  else
    let load := if droops.isEmpty then (s.p p).loadIdx else loadIndex droops
    let s := s.modP p fun x => { x with sense := replica + 2 ^ 16 * tj }
    ((s.evalTarget p replica).evalLoad p load).evalTemp p tj

def execDriftEvaluation (p : ParcelNo) (replica : BitVec 16) (droops : List (BitVec 20 × BitVec 20)) (tj : Byte) (s : State) :
    Host.Outcome State Fault Refusal :=
  answer (driftEvaluation p.toNat replica.toNat (droops.map (fun q => (q.1.toNat, q.2.toNat))) tj.toNat s)

/-- CAL_DSK_WRITE: the deskew is stored and its entry is no longer valid (07 R208, R217). -/
def calDskWrite (off v : Nat) (s : State) : State :=
  let p := (off - 0x1000000) / 0x40000
  let o := off % 0x40000
  if off < 0x1000000 ∨ 0x1800000 ≤ off ∨ o < 0x23000 ∨ 0x24000 ≤ o ∨ 0x18 ≤ o % 0x20 ∨ off % 4 ≠ 0 then s
  else
    let l := (o - 0x23000) / 0x400
    let e := 32 * p + (o - 0x23000) % 0x400 / 0x20
    let tag := parBase p + 0x24000 + 0x10 * l
    s.toParcel p off fun s =>
      if s.engActive e then s.writeInRun 0xFFFF off
      else (s.setReg off (v % 2 ^ 11)).setReg tag (s.reg tag % 2 ^ 16)

def execCalDskWrite (off : BitVec 25) (value : Word) (s : State) : Host.Outcome State Fault Refusal :=
  answer (s.hostAccess (calDskWrite off.toNat value.toNat))

/-- The deskew values in the registers of an entry meet R204. -/
def State.entryOk (s : State) (p l : Nat) : Bool :=
  (List.range 32).all fun i =>
    deskewPair (signed 11 (s.reg (dskOff p l i 0))) (signed 11 (s.reg (dskOff p l i 1))) &&
      deskewPair (signed 11 (s.reg (dskOff p l i 2))) (signed 11 (s.reg (dskOff p l i 3)))

/-- CAL_TAG_WRITE: valid is set only for an entry that meets R204; otherwise it stays 0 and CAL_MISSING is raised (07 R208,
R218). -/
def calTagWrite (p l v : Nat) (s : State) : State :=
  let off := parBase p + 0x24000 + 0x10 * l
  s.toParcel p off fun s =>
    if s.parActive p then s.writeInRun 0xFFFF off
    else if v.testBit 16 && !s.entryOk p l then (s.setReg off (v % 2 ^ 16)).raise 0x1052 [it1 p]
    else s.setReg off (v % 2 ^ 17)

def execCalTagWrite (p : ParcelNo) (entry : BitVec 2) (value : Word) (s : State) : Host.Outcome State Fault Refusal :=
  answer (s.hostAccess (calTagWrite p.toNat entry.toNat value.toNat))

end Sys2Proof.Machine
end

