-- ==== Sys2Proof/Machine/DvmCtl.lean ====
section
/-! DEFINITION. The deep vector memory's controller: the partition map (06 R173, R174), training, re-centring and the corrected-word
windows (07 R219 to R223), and initialization (06 R179). -/

namespace Sys2Proof.Machine

/-- A pending partition: base and size in units (06 R201). -/
def State.pendPart (s : State) (n : Nat) : Nat × Nat :=
  let v := s.reg (0x900100 + 4 * n)
  (fld v 0 11, fld v 16 11)

/-- Two ranges of units overlap; an empty one overlaps nothing. -/
def overlaps (a b : Nat × Nat) : Bool := decide (a.2 ≠ 0) && decide (b.2 ≠ 0) && decide (a.1 < b.1 + b.2) && decide (b.1 < a.1 + a.2)

/-- The partition in force, in units. -/
def Dvm.units (d : Dvm) (n : Nat) : Nat × Nat := d.parts.get (fun _ => (0, 0)) n

/-- The failed check of the pending map and its first offending partition (06 R174). -/
def State.partFail (s : State) : Option (Nat × Nat) :=
  let all := List.range 65
  let bad1 := all.find? fun n => decide ((s.pendPart n).2 ≠ 0) && decide (1536 < (s.pendPart n).1 + (s.pendPart n).2)
  let bad2 := all.find? fun n => all.any (fun m => decide (m ≠ n) && overlaps (s.pendPart n) (s.pendPart m))
  let bad3 := all.find? fun n => decide (n < 64) && decide (s.pendPart n ≠ s.dvm.units n) && s.parActive (n % 32)
  ((bad1.map (fun n => (1, n))).or (bad2.map (fun n => (2, n)))).or (bad3.map (fun n => (3, n)))

/-- DVM_PART_COMMIT: the whole pending map takes effect, or none of it (06 R174). -/
def partCommit (s : State) : State :=
  match s.partFail with
  | some (c, n) =>
    { s with dvm := { s.dvm with partErr := c, partBad := n } }.raise 0x0901 [it1 c, it1 n]
  | none =>
    let m := (List.range 65).foldl (fun m n => SMap.set (fun _ => (0, 0)) m n (s.pendPart n)) ([] : SMap (Nat × Nat))
    { s with dvm := { s.dvm with partErr := 0, partBad := 0, parts := m } }

def execDvmPartCommit (s : State) : Host.Outcome State Fault Refusal := answer (s.hostAccess partCommit)

/-- DVM_RETRAIN_REQUEST: DVM_TRAIN_CTL written; retrain asks for a full retraining (07 R221, R223). -/
def retrainRequest (v : Nat) (s : State) : State :=
  let s := s.setReg 0x900014 (v &&& 0xFF02)
  if v.testBit 0 then { s with dvm := { s.dvm with retrainReq := true } } else s

def execDvmRetrainRequest (value : Word) (s : State) : Host.Outcome State Fault Refusal :=
  answer (s.hostAccess (retrainRequest value.toNat))

/-- DVM_RETRAIN: asked for by the host, or needed with auto_retrain, it begins while no run is active (07 R221). -/
def dvmRetrain (s : State) : State :=
  let auto := s.dvm.needed && (s.reg 0x900014).testBit 1
  if (s.dvm.retrainReq || auto) && s.activeSites.isEmpty && s.dvm.trained && !s.dvm.selfRefresh then
    { s with dvm := { s.dvm with retraining := true, trained := false, retrainReq := false } }
  else s

def execDvmRetrain (s : State) : Host.Outcome State Fault Refusal := answer (dvmRetrain s)

/-- The highest load index of the parcels (07 R219). -/
def State.loadTag (s : State) : Nat := listMax 0 ((List.range 32).map (fun p => (s.p p).loadIdx))

/-- DVM_TRAINED: boot training or a retraining ends; on success the results are in force and the tags replaced, on failure the
memory stays unavailable (07 R219, R221). -/
def dvmTrained (ok : Bool) (pc worst margin temp : Nat) (s : State) : State :=
  if s.dvm.trained || s.dvm.trainOff then s
  else if ok then
    { s with dvm := { s.dvm with
        trained := true, retraining := false, needed := false, marginLow := false, passes := 0, forced := 0,
        minMargin := margin, worstPc := worst, trainTag := temp % 256 + s.pwr.fabLevel * 2 ^ 8 + s.loadTag * 2 ^ 16 } }.raise
      0x0904 []
  else { s with dvm := { s.dvm with trainOff := true, retraining := false } }.raise 0x0905 [it1 pc]

def execDvmTrained (ok : Bool) (pc worst : BitVec 5) (margin : BitVec 7) (temp : Byte) (s : State) :
    Host.Outcome State Fault Refusal :=
  answer (dvmTrained ok pc.toNat worst.toNat margin.toNat temp.toNat s)

/-- DVM_INIT_DONE: every line is zero with good check bits, and every block's check value is that of a block never loaded (06
R179). -/
def dvmInitDone (s : State) : State :=
  if s.dvm.trained && !s.dvm.initDone then
    { s with dvm := { s.dvm with initDone := true, bytes := [], check := [] } }.raise 0x0903 []
  else s

def execDvmInitDone (s : State) : Host.Outcome State Fault Refusal := answer (dvmInitDone s)

/-- RECENTER_PASS: one pass of a pseudo-channel, which after self-refresh each must have had before a read is accepted (06 R180); a worst lane margin under 20 % asks for retraining (07 R220). -/
def recenterPass (pc : Nat) (forced : Bool) (margin worst temp : Nat) (s : State) : State :=
  if !s.dvm.trained || s.dvm.selfRefresh then s
  else
    let d := { s.dvm with passes := satAdd 16 s.dvm.passes 1, forced := satAdd 16 s.dvm.forced (b2n forced), minMargin := margin,
                          worstPc := worst, temp := temp, toCentre := putFld s.dvm.toCentre pc 1 0 }
    if margin < 20 then
      let t := { s with dvm := { d with needed := true, marginLow := true } }
      if s.dvm.marginLow then t else t.raise 0x0906 [it1 worst, it1 margin]
    else { s with dvm := d }

/-- RECENTER_PASS (07 R220). -/
def execRecenterPass (pc : BitVec 5) (forced : Bool) (margin : BitVec 7) (worst : BitVec 5) (temp : Byte) (s : State) :
    Host.Outcome State Fault Refusal :=
  answer (recenterPass pc.toNat forced margin.toNat worst.toNat temp.toNat s)

/-- CORR_WINDOW: the end of a 1 ms window; above corr_thr retraining is needed, and the event is raised at most once in 100 ms
(07 R222). -/
def corrWindow (s : State) : State :=
  let n := s.dvm.windowCorr
  let d := { s.dvm with windowCorr := 0 }
  if n ≤ s.regF 0x900014 8 8 then { s with dvm := d }
  else
    let quiet := s.dvm.risingAt.any (fun t => decide (s.tim.tick < t + usTicks 100000))
    if quiet then { s with dvm := { d with needed := true } }
    else { s with dvm := { d with needed := true, risingAt := some s.tim.tick } }.raise 0x0907 [it4 n]

def execCorrWindow (s : State) : Host.Outcome State Fault Refusal := answer (corrWindow s)

end Sys2Proof.Machine
end

