-- ==== Sys2Proof/Machine/Stage.lean ====
section
/-! DEFINITION. Staging (10 R302 to R306, R320; 09 R264, R265): the checks of an image as its blocks arrive, the flash operations they
call for in each bank, and the staging's end. -/

namespace Sys2Proof.Machine

/-- A flash source. -/
def Staging.fromFlash (x : Staging) : Bool :=
  match x.src with | .host _ f _ => f | .jtag => false | .boot _ => true

/-- The golden image of the external flash. -/
def Staging.golden (x : Staging) : Bool :=
  match x.src with | .host _ _ g => g | .jtag => false | .boot g => g

/-- Step 1 of R302: the target is active, the target of a load or switch-over, or slot G while g_stage_en is 0 (10 R289, R302). -/
def State.stageRefused (s : State) (slot : Nat) : Bool :=
  decide (s.cfg.active = slot) || (match s.cfg.load with | some l => l.slot == slot | none => false) ||
    (decide (slot = 2) && !s.cfg.gStageEn)

/-- The staging's operations leave every queue; one in progress ends where it is. -/
def State.dropStageOps (s : State) : State :=
  s.each (s.nvm.queue.map (·.1)) fun s b =>
    let s := match s.current b with
      | some o => if o.who = OpFor.stage then s.dropOp b else s
      | none => s
    s.setBankQ b ((s.bankQ b).filter fun o => o.who ≠ OpFor.stage)

/-- A staging fails (10 R302, R303, R311): its slot, the reason, the frame address that reasons 0x05 and 0x0A carry, and the host block
that failed at entry with the completion's status. -/
def State.stageFail (s : State) (x : Staging) (reason : Nat) (frame : Option Nat) (block : Option (Nat × Nat)) : State :=
  let addr := if reason = 5 ∨ reason = 0x0A then some (frame.getD (Config.rejFrame s.tim.tick).toNat) else none
  let s := (s.dropStageOps).rejected addr
  let s := { s with cfg := { s.cfg with stage := none, stageReason := reason } }
  let s := s.raise 0x0306 (it1 reason :: (match addr with | some a => [it4 a] | none => []))
  match x.src with
  | .host d _ _ =>
    (s.finish d { (match block with | some p => blockDone p | none => { status := 2 }) with
                  cause := if block.any (fun p => p.2 = 0x0E) then 0 else reason,
                  result := leBytes 4 (addr.getD 0) ++ leBytes 8 0 }).stageEnded
  | .jtag => { s with cfg := { s.cfg with jtagStatus := 3, jtagReason := reason } }.stageEnded
  | .boot g =>
    if x.stale then s.stageEnded
    else
      let s := s.attemptFailed (if g then 4 else 3) reason
      s.bootOn bootFuel s.cfg.todo

/-- The reason of an unreadable external flash: 0x08 in boot, else 0x0E (10 R303, R306). -/
def Staging.unreadable (x : Staging) : Nat := match x.src with | .boot _ => 8 | _ => 0x0E

/-- IMAGE_STAGE's effect once its descriptor has started (10 R289, R302). -/
def imageStage (i : DescId) (slot source blocks : Nat) (s : State) : State :=
  if s.cfg.stage.isSome then s.finish i { status := 3 }
  else if s.stageRefused slot then s.finish i { status := 1 }
  else s.openStage { src := .host i (decide (source ≠ 0)) (decide (source = 2)), slot := slot, blocks := blocks }

def execImageStage (d : DescRef) (slot source : Byte) (blocks : Word) (s : State) : Host.Outcome State Fault Refusal :=
  answer (s.runChecked (descId d 0x20) (rowFields (.imageStage d slot source blocks)) true
    (malformedCause false (decide (3 ≤ slot.toNat) || decide (3 ≤ source.toNat) || (decide (source ≠ 0) && decide (blocks ≠ 0)))
      (decide (source = 0) && decide (blocks = 0))) false fun k =>
        imageStage k slot.toNat source.toNat blocks.toNat)

/-- An image's place in a directory of the external flash: 4 KiB-aligned, at or above 0x2000 (10 R305). -/
def dirAddrOk (a : Nat) : Bool := decide (a % 4096 = 0) && decide (0x2000 ≤ a)

/-- A directory copy keeps its format (10 R305). -/
def dirOk (d : List Byte) : Bool :=
  decide (d.length = 64) && decide (leAt d 0 4 = 0x5D1E0C2A) && decide (leAt d 4 1 = 1) && decide (leAt d 5 1 < 4) &&
    decide (25 ≤ leAt d 6 2) && decide (leAt d 6 2 ≤ 200) && decide (leAt d 24 36 = 0) &&
    (!(leAt d 5 1).testBit 0 || dirAddrOk (leAt d 8 4)) && (!(leAt d 5 1).testBit 1 || dirAddrOk (leAt d 16 4)) &&
    decide (leAt d 60 4 = (crc32c (d.take 60)).toNat)

/-- The length of the image that the first good copy of the directory gives, if the image is present (10 R305, R306). -/
def dirLength (golden : Bool) (dirs : List (List Byte)) : Option Nat :=
  match dirs.find? dirOk with
  | none => none
  | some d => if (leAt d 5 1).testBit (b2n golden) then some (leAt d (if golden then 20 else 12) 4) else none

/-- The programmed pages of the tail that a slot uses (09 R261, R264). -/
def State.tailPages (s : State) (b k : Nat) : List Nat :=
  ((List.range (tailFrames b)).map fun f => tailFrames b * k + f).filter fun pg =>
    decide ((s.flash.page b (s.flash.phys b (tailRole b)) pg).state = .programmed)

/-- The operations of a bank that need no image data: the erase of the free sector, copies of the other valid slots' tails, the
erase of the target's main sectors (09 R264). -/
def State.openBank (slot : Nat) (s : State) (b : Nat) : State :=
  let free := (s.flash.freeOf b).headD 0
  let s := s.enqueue b { erase := true, sector := free, page := 0, data := [], who := .stage, cls := 0 }
  let others := [0, 1, 2].filter fun k => k ≠ slot ∧ (s.flash.slot k).valid
  let s := others.foldl (fun s k => (s.tailPages b k).foldl (fun s p =>
    s.enqueue b { erase := false, sector := free, page := p, data := [], src := some (s.flash.phys b (tailRole b), p), who := .stage,
                  cls := 1 }) s) s
  s.each (List.range (mainSectors b)) fun s i =>
    s.enqueue b { erase := true, sector := s.flash.phys b (slot * mainSectors b + i), page := 0, data := [], who := .stage, cls := 4 }

/-- The erases of a slot's sectors in a system bank (09 R262). -/
def State.openSystem (slot : Nat) (s : State) (b : Nat) : State :=
  s.each (List.range 10) fun s i =>
    s.enqueue b { erase := true, sector := s.flash.phys b (10 * slot + i), page := 0, data := [], who := .stage, cls := 4 }

/-- The pages of a slot's system part in a system bank: page j of the part lies in bank 256 + j mod 4, so that the four banks are read in
parallel; at most 640 a bank (09 R262). DESIGN CHOICE (log entry 38): the place of a page. -/
def systemOps (slot : Nat) (image : List Byte) (f : Flash) (b : Nat) : List FlashOp :=
  (List.range 640).filterMap fun k =>
    match (Config.systemPages image)[4 * k + (b - frameBanks)]? with
    | some d =>
      let p := (f.systemPage slot (4 * k + (b - frameBanks))).2
      some { erase := false, sector := p / 64, page := p % 64, data := d, who := .stage, cls := 5 }
    | none => none

/-- The system part of the image is handed to the four system banks (09 R262, R264, 10 R302). -/
def State.stageSystem (slot : Nat) (image : List Byte) (s : State) (b : Nat) : State :=
  s.setBankQ b ((systemOps slot image s.flash b).foldl (fun q o => queueOp o q) (s.bankQ b))

/-- Steps 3 of R302 and 1 of R264: the target is invalid, and every bank's first operations are queued; a bank without a free sector
ends the staging (09 R264, R265). -/
def State.beginTarget (s : State) (x : Staging) : State :=
  let s := s.journaled fun s => s.setSlot x.slot { s.flash.slot x.slot with valid := false }
  match (List.range frameBanks).find? (fun b => (s.flash.freeOf b).isEmpty) with
  | some b => ((s.wearSign b 5).raise 0x0403 [it2 b]).stageFail x 0x0B none none
  | none =>
    let s := s.each (List.range frameBanks) (State.openBank x.slot)
    let s := s.each ((List.range 4).map (· + frameBanks)) (State.openSystem x.slot)
    { s with cfg := { s.cfg with stage := some { x with begun := true } } }

/-- Step 2 of R302: the reason why the header ends the staging (10 R291, R292, R298, R306; the block count of the descriptor table). -/
def State.headerFault (s : State) (x : Staging) : Option Nat :=
  let h := x.bytes.take 64
  let hd := readHeader h
  if headerInvalid h then some 1
  else if hd.scope ≠ 1 then some 0x0A
  else if x.dirLen.any (fun n => n ≠ 84 + hd.len) then some x.unreadable
  else if (match x.src with | .host _ false _ => decide (x.blocks ≠ ceilDiv (84 + hd.len) 4096) | _ => false) then some 0x0A
  else if (s.keyFor hd.keySel).isNone then some 4
  else none

/-- One frame of the image handed to its bank: a tail frame into the free sector, another into its main sector (09 R261, R264). -/
def State.stageFrame (slot : Nat) (s : State) (fr : Nat × List Byte) : State :=
  let b := (frameBank fr.1).1
  let k := (frameBank fr.1).2
  let loc := frameLoc b slot k
  if k < mainFrames b then
    s.enqueue b { erase := false, sector := s.flash.phys b loc.1, page := loc.2, data := fr.2, who := .stage, cls := 5 }
  else s.enqueue b { erase := false, sector := (s.flash.freeOf b).headD 0, page := loc.2, data := fr.2, who := .stage, cls := 2 }

/-- Frames counted by bank, tail frames and others. -/
def countFrames (tail : Bool) (m : SMap Nat) (frs : List (Nat × List Byte)) : SMap Nat :=
  frs.foldl (fun (m : SMap Nat) fr =>
    let b := (frameBank fr.1).1
    if decide (mainFrames b ≤ (frameBank fr.1).2) = tail then SMap.modify zeroNat m b (· + 1) else m) m

/-- The ciphertext of a body received so far. -/
def Staging.cipher (x : Staging) : List Byte := (x.bytes.drop 64).take (readHeader x.bytes).len
/-- Its plaintext. -/
def Staging.plain (x : Staging) : List Byte := gcmPlain x.key (readHeader x.bytes).iv x.cipher
/-- The body as far as it has arrived. -/
def Staging.body (x : Staging) : Body := readBody (readHeader x.bytes).version (readHeader x.bytes).len x.plain

/-- Step 5 of R302: the reason why tag or check word end the staging. -/
def Staging.endFault (x : Staging) : Option Nat :=
  let h := x.bytes.take 64
  let hd := readHeader h
  if gcmTag x.key hd.iv h x.cipher ≠ sliceAt x.bytes (64 + hd.len) 16 then some 2
  else if leAt x.bytes (80 + hd.len) 4 ≠ (crc32c (h ++ x.plain)).toNat then some 3
  else none

/-- A bank has operations of the staging left. -/
def State.stageOps (s : State) : Bool := s.nvm.queue.any fun q => q.2.any fun o => decide (o.who = OpFor.stage)

/-- Step 5 of R302, once the image has arrived and every operation of step 4 is done. -/
def State.stageJudge (s : State) : State :=
  match s.cfg.stage with
  | none => s
  | some x =>
    if !x.arrived || x.ready || s.stageOps then s
    else match x.endFault with
      | some r => s.stageFail x r none none
      | none => { s with cfg := { s.cfg with stage := some { x with ready := true } } }

/-- Step 4 of R302 on the bytes received so far; with the last the system part is handed to its banks. -/
def State.stageBody (s : State) (x : Staging) : State :=
  let body := x.body
  match body.bad with
  | some (.structure f) => s.stageFail x 0x0A f none
  | some (.longLine a) => s.stageFail x 5 (some a) none
  | none =>
    let news := (body.frames.take (body.frames.length - x.handled)).reverse
    let s := news.foldl (State.stageFrame x.slot) s
    let y := { x with handled := body.frames.length, tails := countFrames true x.tails news, mains := countFrames false x.mains news }
    if x.bytes.length < 84 + (readHeader x.bytes).len then { s with cfg := { s.cfg with stage := some y } }
    else
      let s := s.each ((List.range 4).map (· + frameBanks)) (State.stageSystem x.slot (x.bytes.take 64 ++ x.plain))
      ({ s with cfg := { s.cfg with stage := some { y with arrived := true } } }).stageJudge

/-- The image's next 4 KiB have arrived (10 R302). -/
def State.stageData (s : State) (x0 : Staging) (data : List Byte) : State :=
  let x := { x0 with bytes := x0.bytes ++ data }
  if x.begun then s.stageBody x
  else match s.headerFault x with
    | some r => s.stageFail x r none none
    | none =>
      let x := { x with key := (s.keyFor (readHeader x.bytes).keySel).getD [] }
      let s := s.beginTarget x
      match s.cfg.stage with
      | some y => s.stageBody y
      | none => s

/-- What the first read of a flash source finds: the image's length, and the mode and clock of the reads that follow; `octal` says that
the JESD216 tables advertise 8D-8D-8D operation (10 R305, R306). -/
def Staging.openFlash (x : Staging) (dirs : List (List Byte)) (octal : Bool) : Staging :=
  { x with dirLen := dirLength x.golden dirs, octal := octal,
           mhz := if octal then (match dirs.find? dirOk with | some d => leAt d 6 2 | none => 25) else 25 }

/-- STAGE_BLOCK (10 R302, R305, R306): a host block is read where the device may read host memory (12 R345), and checked at its entry; a flash source is read through its directory. -/
def stageBlock (b : HostBlock) (dirs : List (List Byte)) (octal : Bool) (s : State) : State :=
  match s.cfg.stage with
  | none => s
  | some x =>
    if x.arrived || decide (x.src = .jtag) then s
    else if x.fromFlash then
      let x := if x.bytes.isEmpty then x.openFlash dirs octal else x
      if b.err.isSome || x.dirLen.isNone then s.stageFail x x.unreadable none none else s.stageData x b.data
    else if !s.requests then s
    else match badBlock (x.bytes.length / 4096) [b] with
      | some p => (s.blockError [b]).stageFail x 0x0C none (some p)
      | none => (s.blockError [b]).stageData x b.data

def execStageBlock (block : HostBlock) (dirs : List (List Byte)) (octal : Bool) (s : State) : Host.Outcome State Fault Refusal :=
  if !block.wellFormed then .fault .illFormed else answer (stageBlock block dirs octal s)

/-- STAGE_DONE: frame checks computed, the target valid, STAGE_DONE raised; a boot's image is then loaded (10 R302, R311). -/
def stageDone (s : State) : State :=
  match s.cfg.stage with
  | none => s
  | some x =>
    if !x.ready || s.stageOps then s
    else
      let hd := readHeader x.bytes
      let checks := (List.range frameBanks).foldl (fun m b => SMap.set zeroNat m b (s.flash.bankCheck b x.slot)) ([] : SMap Nat)
      let s := s.journaled fun s => s.setSlot x.slot (slotOf hd x.body checks)
      let s := { s with cfg := { s.cfg with stage := none, stageReason := 0, banksDone := 260 } }
      let s := s.raise 0x0305 [it1 x.slot, it8 hd.id]
      match x.src with
      | .host d _ _ => (s.finish d { result := leBytes 4 0 ++ leBytes 8 hd.id }).stageEnded
      | .jtag => { s with cfg := { s.cfg with jtagStatus := 0, jtagReason := 0 } }.stageEnded
      | .boot g =>
        if x.stale then s.stageEnded else s.beginLoad x.slot (.boot (if g then 4 else 3)) (if g then 4 else 3)

def execStageDone (s : State) : Host.Outcome State Fault Refusal := answer (stageDone s)

/-- EXT_FLASH_TIMEOUT: the external flash has not answered for 10 ms (10 R306). -/
def extFlashTimeout (s : State) : State :=
  match s.cfg.stage with
  | some x => if x.fromFlash && !x.arrived then s.stageFail x x.unreadable none none else s
  | none => s

def execExtFlashTimeout (s : State) : Host.Outcome State Fault Refusal := answer (extFlashTimeout s)

/-- Step 3 of R264: the new tail is whole, so the bank map takes the free sector as the tail and the old tail as the free sector; the
closure word covers the map; a traverse in progress keeps the sector of the old tail (09 R264, 11 R324, R338). -/
def State.stageSwap (s : State) (b : Nat) (x : Staging) : State :=
  let early := (s.bankQ b).any fun o => decide (o.who = OpFor.stage) && decide (o.cls ≤ 2)
  if decide (b < frameBanks) && !early && !x.swapped.contains b && decide (x.tails.get zeroNat b = tailFrames b) then
    let free := s.flash.freeOf b
    let old := s.flash.phys b (tailRole b)
    let s := s.journaled fun s => (s.setRole b (tailRole b) (free.headD 0)).setFree b (old :: free.drop 1)
    let s := { s with cfg := { s.cfg with stage := some { x with swapped := b :: x.swapped } },
                      scb := { s.scb with trav := s.scb.trav.map (Traverse.keepTail b old) } }
    if s.cfg.loaded then s.programClosure else s
  else s

/-- A bank of frames has finished: its frames have all arrived and no operation of the staging is left in it. -/
def State.bankFinished (s : State) (b : Nat) (x : Staging) : Bool :=
  decide (b < frameBanks) && x.swapped.contains b && decide (x.mains.get zeroNat b = mainFrames b) &&
    !((s.bankQ b).any fun o => decide (o.who = OpFor.stage))

/-- An operation of the staging has completed in a bank (09 R264, 10 R302). -/
def State.stageStep (s : State) (b : Nat) : State :=
  match s.cfg.stage with
  | none => s
  | some x =>
    let s := s.stageSwap b x
    match s.cfg.stage with
    | some y => (if s.bankFinished b y then { s with cfg := { s.cfg with banksDone := satAdd 9 s.cfg.banksDone 1 } } else s).stageJudge
    | none => s

/-- The staging may start its first operation of a bank: steps 4 and on wait for the new bank map (09 R264). -/
def State.stageMayStart (s : State) (b : Nat) (o : FlashOp) : Bool :=
  decide (o.who ≠ OpFor.stage) || decide (o.cls ≤ 2) || decide (frameBanks ≤ b) ||
    (match s.cfg.stage with | some x => x.swapped.contains b | none => true)

end Sys2Proof.Machine
end

