-- ==== Sys2Proof/Machine/Jtag.lean ====
section
/-! DEFINITION. The JTAG port (10 R321, R322). A shift is one command: the bits shifted in, and the bits it puts out. -/

namespace Sys2Proof.Machine

/-- The TAP has power (10 R314, 15 R404). -/
def State.tapOn (s : State) : Bool := decide (s.pwr.state ≠ .deepSleep) && decide (s.pwr.state ≠ .off)

/-- The instruction register holds a code (10 R321). -/
def State.setIr (s : State) (ir : Nat) : State := { s with cfg := { s.cfg with jtagIr := ir } }

/-- Bits shifted out: a number of `n` bits, least significant first. -/
def State.tdo (s : State) (n v : Nat) : State := s.put (.tdo n (v % 2 ^ n))

/-- The one-bit bypass: what is shifted in comes out one bit later, behind the 0 captured (10 R321). -/
def State.bypass (s : State) (n v : Nat) : State := s.tdo n (2 * v)

/-- The number that bits spell, least significant first. -/
def bitsNat : List Bool → Nat
  | [] => 0
  | b :: bs => b2n b + 2 * bitsNat bs

/-- IDCODE (10 R321). -/
def jtagIdcode (s : State) : State := if s.tapOn then (s.setIr 1).tdo 32 0x27A108E9 else s

def execJtagIdcode (s : State) : Host.Outcome State Fault Refusal := answer (jtagIdcode s)

/-- SAMPLE/PRELOAD: the levels sampled at the lands are shifted out (10 R321). -/
def jtagSample (lands : List Bool) (s : State) : State :=
  if s.tapOn then (s.setIr 2).tdo lands.length (bitsNat lands) else s

def execJtagSample (lands : List Bool) (s : State) : Host.Outcome State Fault Refusal := answer (jtagSample lands s)

/-- EXTEST drives the lands: with extest_en = 1, channels not live and no run active; else it acts as BYPASS (10 R321). -/
def jtagExtest (lands : List Bool) (s : State) : State :=
  if !s.tapOn then s
  else if s.cfg.jtagCtl.testBit 2 && !s.cfg.live && s.activeSites.isEmpty then
    (s.setIr 3).each (List.range lands.length) fun s k => s.put (.level "LAND" k (lands.getD k false))
  else (s.setIr 3).bypass lands.length (bitsNat lands)

def execJtagExtest (lands : List Bool) (s : State) : Host.Outcome State Fault Refusal := answer (jtagExtest lands s)

/-- BYPASS (10 R321). -/
def jtagBypass (tdi : List Bool) (s : State) : State :=
  if s.tapOn then (s.setIr 0xFF).bypass tdi.length (bitsNat tdi) else s

def execJtagBypass (tdi : List Bool) (s : State) : Host.Outcome State Fault Refusal := answer (jtagBypass tdi s)

/-- The configuration controller takes part: its clock runs (15 R404). -/
def State.jtagCore (s : State) : Bool := decide (s.pwr.state = .run)

/-- CFG_IN: a block with its check value goes to the staging that the port has opened (10 R321, R322). -/
def jtagCfgIn (b : HostBlock) (s : State) : State :=
  if !s.tapOn then s
  else
    let s := s.setIr 0x20
    if !s.cfg.jtagCtl.testBit 0 then s.bypass 32800 (leNat b.data + 2 ^ 32768 * b.check.toNat)
    else match s.cfg.stage with
      | none => s
      | some x =>
        if !s.jtagCore || x.arrived || decide (x.src ≠ .jtag) then s
        else if crc32c b.data ≠ b.check then s.stageFail x 0x0C none none
        else { s with cfg := { s.cfg with jtagBlocks := satAdd 16 s.cfg.jtagBlocks 1 } }.stageData x b.data

def execJtagCfgIn (block : HostBlock) (s : State) : Host.Outcome State Fault Refusal :=
  if !block.wellFormed then .fault .illFormed else answer (jtagCfgIn block s)

/-- RB_OUT: the capture frames of the last readback capture, with rb_en; else it acts as BYPASS (10 R321, 08 R255). -/
def jtagRbOut (s : State) : State :=
  if !s.tapOn then s
  else
    let s := s.setIr 0x22
    if !s.cfg.jtagCtl.testBit 1 then s.bypass 1 0
    else if s.fab.rbHeld then
      s.tdo (384 * 4096) (leNat ((List.range 384).flatMap fun k => captureFrame s.fab.rbFf k))
    else s

def execJtagRbOut (s : State) : Host.Outcome State Fault Refusal := answer (jtagRbOut s)

/-- The status of CFG_CMD (10 R322). -/
def State.jtagStat (s : State) : Nat :=
  let c := s.cfg
  c.jtagOp + c.jtagStatus * 2 ^ 8 + c.jtagReason * 2 ^ 16 + c.active * 2 ^ 24 + b2n c.confirmed * 2 ^ 26 + b2n c.base * 2 ^ 27 +
    b2n c.stage.isSome * 2 ^ 28 + c.jtagTag * 2 ^ 32 + c.jtagBlocks * 2 ^ 48

/-- A command of the port is still running: its staging, or its load before release (10 R322). -/
def State.jtagBusy (s : State) : Bool :=
  s.cfg.stage.any (fun x => decide (x.src = .jtag)) || s.cfg.load.any (fun l => match l.why with | .jtag _ => true | _ => false)

/-- The operand of a command, bits 63 to 8 of it, has a reserved bit set (10 R322). -/
def operandReserved (v : Nat) : Bool := decide (fld v 3 5 ≠ 0) || decide (fld v 24 32 ≠ 0)

/-- A command of the port refused: it does nothing else (10 R322). -/
def State.jtagRefuse (s : State) : State := { s with cfg := { s.cfg with jtagStatus := 2, jtagReason := 0 } }

/-- A command of the port accepted, with its status (10 R322). -/
def State.jtagAccept (s : State) (op v status : Nat) : State :=
  { s with cfg := { s.cfg with jtagOp := op, jtagTag := fld v 8 16, jtagStatus := status, jtagReason := 0 } }

/-- CFG_CMD_STAGE: step 1 of R302, then the staging path is open (10 R302, R322). -/
def cfgStage (v : Nat) (s : State) : State :=
  let slot := fld v 0 2
  if slot = 3 || s.jtagBusy || s.cfg.stage.isSome || s.stageRefused slot then s.jtagRefuse
  else ({ s.jtagAccept 1 v 1 with cfg := { (s.jtagAccept 1 v 1).cfg with jtagBlocks := 0 } }).openStage { src := .jtag, slot := slot }

/-- CFG_CMD_SWITCH_OVER (10 R315, R316, R322). -/
def cfgSwitch (v : Nat) (s : State) : State :=
  let slot := fld v 0 2
  if slot = 3 || s.jtagBusy || s.switchRefused slot then s.jtagRefuse
  else (s.jtagAccept 2 v 1).switchLoad slot (.jtag (v.testBit 2))

/-- CFG_CMD_BOOT_RETRY (10 R319, R322). -/
def cfgRetry (v : Nat) (s : State) : State :=
  if s.jtagBusy || !s.cfg.base then s.jtagRefuse else (s.jtagAccept 3 v 0).bootRetry

/-- What the op in bits [7:0] of a command does; 0x00 and 0x04 nothing, and an unlisted one is refused (10 R322). -/
def cfgOp (w : Nat) (s : State) : State :=
  match w % 256 with
  | 0 => s
  | 1 => cfgStage (w / 256) s
  | 2 => cfgSwitch (w / 256) s
  | 3 => cfgRetry (w / 256) s
  | 4 => s
  | _ => s.jtagRefuse

/-- CFG_CMD, the 64 bits shifted in: the status is captured and shifted out, then the command acts; with cfg_en = 0 it acts as BYPASS
(10 R321, R322). -/
def cfgCmdWord (w : Nat) (s : State) : State :=
  if !s.tapOn then s
  else
    let s := s.setIr 0x21
    if !s.cfg.jtagCtl.testBit 0 then s.bypass 64 w
    else if !s.jtagCore then s
    else
      let s := s.tdo 64 s.jtagStat
      if operandReserved (w / 256) then s.jtagRefuse else cfgOp w s

/-- CFG_CMD_NOP, and every word whose op no other row of the table names (10 R322). -/
def execCfgCmdNop (word : BitVec 64) (s : State) : Host.Outcome State Fault Refusal := answer (cfgCmdWord word.toNat s)

/-- CFG_CMD_STAGE: op 0x01 with the operand in bits [63:8] (10 R322). -/
def execCfgCmdStage (operand : BitVec 56) (s : State) : Host.Outcome State Fault Refusal :=
  answer (cfgCmdWord (1 + 256 * operand.toNat) s)

/-- CFG_CMD_SWITCH_OVER: op 0x02 (10 R322). -/
def execCfgCmdSwitchOver (operand : BitVec 56) (s : State) : Host.Outcome State Fault Refusal :=
  answer (cfgCmdWord (2 + 256 * operand.toNat) s)

/-- CFG_CMD_BOOT_RETRY: op 0x03 (10 R322). -/
def execCfgCmdBootRetry (operand : BitVec 56) (s : State) : Host.Outcome State Fault Refusal :=
  answer (cfgCmdWord (3 + 256 * operand.toNat) s)

/-- CFG_CMD_STATUS_READ: op 0x04 (10 R322). -/
def execCfgCmdStatusRead (operand : BitVec 56) (s : State) : Host.Outcome State Fault Refusal :=
  answer (cfgCmdWord (4 + 256 * operand.toNat) s)

end Sys2Proof.Machine
end

