-- ==== Sys2Proof/Machine/NvmCtl.lean ====
section
/-! DEFINITION. The flash controller's commands: user commands (09 R283 to R286), the wear report (09 R282), and the starts, ends and
failures of programs and erases (09 R267 to R279). -/

namespace Sys2Proof.Machine

/-- The user flash: 256 sectors of 32 KiB (09 R262). -/
def userBytes : Nat := 0x800000

/-- The status of a user range that is refused, the lowest that applies (09 R283, R285). -/
def rangeFault (off pages : Nat) : Option Nat :=
  if off % 512 ≠ 0 ∨ userBytes ≤ off ∨ userBytes < off + 512 * pages then some 0x10
  else if pages = 0 ∨ 64 < pages ∨ 0x8000 < off % 0x8000 + 512 * pages then some 0x11
  else none

/-- Bank, role and first page of a user offset (09 R262). -/
def userPlace (off : Nat) : Nat × Nat × Nat := (userBank (off / 0x8000), userRole (off / 0x8000), off % 0x8000 / 512)

/-- A user command is refused with an NVM status (09 R285, 12 R358). -/
def State.nvmRefuse (s : State) (i : DescId) (cause : Nat) : State := s.finish i { status := 1, cause := cause }

/-- A PROGRAM or ERASE on a user sector is pending, running or suspended (09 R284). -/
def State.sectorPending (s : State) (b role : Nat) : Bool := s.nvm.jobs.any fun j => j.bank == b && j.sector == role

/-- The program in progress of a bank is on a page of the range, and which page. -/
def State.partialPage (s : State) (b sector page : Nat) : Option FlashOp :=
  match s.current b with
  | some o => if o.erase = false ∧ o.sector = sector ∧ o.page = page then some o else none
  | none => none

/-- A read waits while a page of it is being programmed (09 R268). -/
def State.readWaits (s : State) (b sector first pages : Nat) : Bool :=
  (List.range pages).any fun k => match s.partialPage b sector (first + k) with | some o => o.running | none => false

/-- The flags that the state of a page gives a command: incomplete_erase, erased, interrupted (09 R268, R277, R285). -/
def State.pageFlags (s : State) (b sector page : Nat) : Nat :=
  if (s.flash.sector b sector).incomplete then 2
  else match (s.flash.page b sector page).state with
    | .erased => 4
    | .programmed => 0
    | .interrupted => if (s.partialPage b sector page).isSome then 0 else 16

/-- The bytes of a user read's page at NORMAL and whether BCH applied to it, with the outcome of BCH (09 R268, R277, R280). -/
def State.readPage (s : State) (b sector page : Nat) (x : PageRead) : List Byte × Bool :=
  if (s.flash.sector b sector).incomplete then (List.replicate 512 0xFF, false)
  else
    let p := s.flash.page b sector page
    match p.state with
    | .erased => (List.replicate 512 0xFF, false)
    | .programmed => (if x.unc then rawPage b sector page else sliceAt p.data 0 512, true)
    | .interrupted => (rawPage b sector page, (s.partialPage b sector page).isSome)

/-- The outcome of a page's read, uncorrectable where the address it holds is not its own (09 R259). -/
def State.readAs (s : State) (b sector page : Nat) (x : PageRead) : PageRead := { x with unc := x.unc || s.flash.strays b sector page }

/-- The pages of a READ: their bytes, the flags, whether one was uncorrectable, and the counts (09 R280, R283, R285). -/
def State.readPages (s : State) (b sector : Nat) : Nat → List PageRead → List Byte × Nat × Bool × State
  | _, [] => ([], 0, false, s)
  | page, x0 :: xs =>
    let x := s.readAs b sector page x0
    let r := s.readPage b sector page x
    let s1 := if r.2 then s.countRead b (sector * 64 + page) x.bits.toNat x.unc else s
    let rest := s1.readPages b sector (page + 1) xs
    (r.1 ++ rest.1, s.pageFlags b sector page ||| b2n (r.2 && decide (0 < x.bits.toNat) && !x.unc) ||| rest.2.1,
      (r.2 && x.unc) || rest.2.2.1, rest.2.2.2)

/-- The blocks that a count of pages takes (09 R283). -/
def pageBlocks (pages : Nat) : Nat := ceilDiv pages 8

/-- READ once started (09 R283, R285). -/
def nvmRead (i : DescId) (off pages : Nat) (o : DataOut) (reads : List PageRead) (s : State) : State :=
  match rangeFault off pages with
  | some c => s.nvmRefuse i c
  | none =>
    if o.blocks.toNat ≠ pageBlocks pages then s.finish i { status := 9, cause := 3 }
    else
      let l := userPlace off
      let n := s.flash.phys l.1 l.2.1
      let r := s.readPages l.1 n l.2.2 ((List.range pages).map fun k => reads.getD k { bits := 0, unc := false })
      (r.2.2.2.outBlocks o 0 (cutBlocks (pageBlocks pages) r.1)).finish i
        { status := if r.2.2.1 then 2 else 0, cause := if r.2.2.1 then 0x20 else 0, flags := r.2.1 }

/-- A read of a user range waits for a page that is being programmed (09 R268). -/
def State.rangeWaits (s : State) (off pages : Nat) : Bool :=
  (rangeFault off pages).isNone &&
    (let l := userPlace off; s.readWaits l.1 (s.flash.phys l.1 l.2.1) l.2.2 pages)

def execNvmRead (d : DescRef) (off : Word) (pages : Byte) (out : DataOut) (reads : List PageRead) (s : State) :
    Host.Outcome State Fault Refusal :=
  answer (s.runChecked (descId d 0x30) (rowFields (.nvmRead d off pages out reads)) true (malformedCause false false (outBad out))
    (s.rangeWaits off.toNat pages.toNat) fun k => nvmRead k off.toNat pages.toNat out reads)

/-- A job joins the controller with its operations (09 R284). -/
def State.addJob (s : State) (j : NvmJob) (ops : List FlashOp) : State :=
  ops.foldl (fun s o => s.enqueue j.bank o) { s with nvm := { s.nvm with jobs := s.nvm.jobs ++ [j] } }

/-- PROGRAM once started: checks, then the pages in order (09 R283, R284, R285, 12 R360). -/
def nvmProgram (i : DescId) (off pages : Nat) (bs : List HostBlock) (s : State) : State :=
  match rangeFault off pages with
  | some c => s.nvmRefuse i c
  | none =>
    let l := userPlace off
    let n := s.flash.phys l.1 l.2.1
    if bs.length ≠ pageBlocks pages then s.finish i { status := 9, cause := 3 }
    else if s.sectorPending l.1 l.2.1 then s.nvmRefuse i 0x14
    else if (List.range pages).any (fun k => decide ((s.flash.page l.1 n (l.2.2 + k)).state ≠ .erased)) then s.nvmRefuse i 0x12
    else if (s.flash.sector l.1 n).incomplete then s.nvmRefuse i 0x13
    else match badBlock 0 bs with
      | some p => (s.blockError bs).finish i { blockDone p with cause := if p.2 = 0x0B then 0x23 else 0 }
      | none =>
        let data := bs.flatMap (·.data)
        (s.blockError bs).addJob { desc := i, erase := false, bank := l.1, sector := l.2.1, left := pages }
          ((List.range pages).map fun k =>
            { erase := false, sector := n, page := l.2.2 + k, data := sliceAt data (512 * k) 512, who := .user i })

def execNvmProgram (d : DescRef) (off : Word) (pages : Byte) (blocks : List HostBlock) (s : State) :
    Host.Outcome State Fault Refusal :=
  if !blocks.all HostBlock.wellFormed then .fault .illFormed
  else answer (s.runChecked (descId d 0x30) (rowFields (.nvmProgram d off pages blocks)) false (malformedCause false false blocks.isEmpty) false
    fun k => nvmProgram k off.toNat pages.toNat blocks)

/-- ERASE once started (09 R283, R284). -/
def nvmErase (i : DescId) (off : Nat) (s : State) : State :=
  match rangeFault off 0 with
  | some 0x10 => s.nvmRefuse i 0x10
  | _ =>
    let l := userPlace off
    if s.sectorPending l.1 l.2.1 then s.nvmRefuse i 0x14
    else s.addJob { desc := i, erase := true, bank := l.1, sector := l.2.1, left := 1 }
      [{ erase := true, sector := s.flash.phys l.1 l.2.1, page := 0, data := [], who := .user i }]

def execNvmErase (d : DescRef) (off : Word) (s : State) : Host.Outcome State Fault Refusal :=
  answer (s.runDesc (descId d 0x30) (rowFields (.nvmErase d off)) false fun k => nvmErase k off.toNat)

/-- A programmed page passes NORMAL where BCH corrects it (09 R270, R280). -/
def State.passesNormal (s : State) (b sector page : Nat) (x : PageRead) (open_ : Bool) : Bool :=
  if (s.flash.page b sector page).state = .programmed ∧ (s.flash.sector b sector).incomplete = false then !x.unc else open_

/-- MARGIN_CHECK once started: the bitmap of the pages that pass, and the flags of R268; at NORMAL, level 0, it reads with BCH (09 R270,
R280, R283 to R285). DEDUCED (log entry 73): a page that is uncorrectable at NORMAL does not pass, and fails nothing else. -/
def marginCheck (i : DescId) (off pages level pass : Nat) (reads : List PageRead) (s : State) : State :=
  match rangeFault off pages with
  | some c => s.nvmRefuse i c
  | none =>
    if 3 < level then s.nvmRefuse i 0x15
    else
      let l := userPlace off
      let n := s.flash.phys l.1 l.2.1
      if level = 0 then
        let xs := (List.range pages).map fun k => reads.getD k { bits := 0, unc := false }
        let r := s.readPages l.1 n l.2.2 xs
        let bits := bitsMask ((List.range pages).filter fun k =>
          s.passesNormal l.1 n (l.2.2 + k) (s.readAs l.1 n (l.2.2 + k) (xs.getD k { bits := 0, unc := false })) (pass.testBit k))
        r.2.2.2.finish i { flags := r.2.1, result := leBytes 8 bits }
      else
        s.finish i { flags := (List.range pages).foldl (fun f k => f ||| s.pageFlags l.1 n (l.2.2 + k)) 0,
                     result := leBytes 8 (pass % 2 ^ pages) }

def execMarginCheck (d : DescRef) (off : Word) (pages level : Byte) (pass : BitVec 64) (reads : List PageRead) (s : State) :
    Host.Outcome State Fault Refusal :=
  answer (if s.rangeWaits off.toNat pages.toNat then s
    else s.runDesc (descId d 0x30) (rowFields (.marginCheck d off pages level pass reads)) false fun k =>
      marginCheck k off.toNat pages.toNat level.toNat pass.toNat reads)

/-- The block that a slot scan writes (09 R286). -/
def scanBlock (slot level : Nat) (fails : List Nat) : List Byte :=
  sliceAt (leBytes 1 0x41 ++ leBytes 1 slot ++ leBytes 1 level ++ leBytes 5 0 ++
    (List.range bankCount).flatMap (fun b => leBytes 2 (fails.getD b 0))) 0 4096

/-- SLOT_SCAN once started; it waits for the journal (09 R277, R286). -/
def slotScan (i : DescId) (slot level : Nat) (o : DataOut) (fails : List Nat) (s : State) : State :=
  if (level ≠ 1 ∧ level ≠ 3) ∨ 3 ≤ slot ∨ (s.flash.slot slot).valid = false then s.nvmRefuse i 0x15
  else (s.outBlocks o 0 (cutBlocks 1 (scanBlock slot level fails))).finish i {}

def execSlotScan (d : DescRef) (slot level : Byte) (out : DataOut) (fails : List (BitVec 16)) (s : State) :
    Host.Outcome State Fault Refusal :=
  answer (s.runChecked (descId d 0x30) (rowFields (.slotScan d slot level out fails)) true (malformedCause false false (outBad out))
    s.nvm.journalBusy fun k => slotScan k slot.toNat level.toNat out (fails.map (·.toNat)))

/-- NVM_SUSPEND: the host hold is set and everything running is suspended (09 R273). -/
def execNvmSuspend (d : DescRef) (s : State) : Host.Outcome State Fault Refusal :=
  answer (s.runDesc (descId d 0x30) (rowFields (.nvmSuspend d)) false fun k s =>
    (({ s with nvm := { s.nvm with hostHold := true } }).suspendAll false).finish k {})

/-- NVM_RESUME: the host hold and the hold after an earlier SUPPLY_CLEAR end; a supply warning holds on (09 R273, R275). -/
def execNvmResume (d : DescRef) (s : State) : Host.Outcome State Fault Refusal :=
  answer (s.runDesc (descId d 0x30) (rowFields (.nvmResume d)) false fun k s =>
    (({ s with nvm := { s.nvm with hostHold := false, heldAfter := false } }).balance).finish k {})

/-- The sectors of a bank that have a history (09 R278). -/
def Flash.known (f : Flash) (b : Nat) : List Sector := (f.sectors.filter (fun p => decide (p.1 / 128 = b))).map (·.2)

/-- The wear record of a bank (09 R282). -/
def Flash.wearRecord (f : Flash) (b : Nat) : List Byte :=
  let l := f.known b
  leBytes 2 b ++ leBytes 4 (listMax 0 (l.map (·.erases))) ++ leBytes 1 (listMax 0 (l.map (·.maxPulses))) ++
    leBytes 1 (l.filter (·.m3fail)).length ++ leBytes 2 (min 65535 (listMax 0 (l.map (·.eraseUs)))) ++
    leBytes 1 (l.filter (·.retired)).length ++ leBytes 1 (f.freeOf b).length ++ leBytes 1 (f.sticky.get stickyReset b) ++ leBytes 3 0

/-- The bytes of a wear report (09 R282). -/
def State.wearBytes (s : State) : List Byte :=
  leBytes 1 0x40 ++ leBytes 1 0 ++ leBytes 2 bankCount ++ leBytes 10 s.stampNow ++ leBytes 2 0 ++
    (List.range bankCount).flatMap s.flash.wearRecord

def execWearReport (d : DescRef) (out : DataOut) (s : State) : Host.Outcome State Fault Refusal :=
  answer (s.runChecked (descId d 0x30) (rowFields (.wearReport d out)) true (malformedCause false false (outBad out)) false fun k s =>
    if out.blocks.toNat < 2 then s.finish k { status := 9, cause := 3 }
    else (s.outBlocks out 0 (cutBlocks 2 s.wearBytes)).finish k {})

/-- FLASH_OP_START: the first operation waiting in a bank starts, within the bank limit and under no hold, behind every suspended one;
`read` is the outcome of the read that a copy begins with (09 R264, R267, R273, R279). -/
def flashOpStart (b : Nat) (read : PageRead) (s : State) : State :=
  match s.bankQ b with
  | [] => s
  | o :: _ =>
    if o.started || s.nvmHold || s.nvm.journalBusy || !s.ctlOn || s.oldestSuspended.isSome || decide (s.bankLimit ≤ s.activeBanks) ||
        !s.stageMayStart b o then s
    else s.startOp b read

def execFlashOpStart (bank : Fin 260) (read : PageRead) (s : State) : Host.Outcome State Fault Refusal :=
  answer (flashOpStart bank.val read s)

/-- What follows an operation that has left its bank, or whose sector has been replaced: its user command or the staging goes on. -/
def State.opServed (s : State) (b : Nat) (o : FlashOp) (us : Nat) (retired : Bool) : State :=
  let s := s.jobStep o us retired
  if o.who = OpFor.stage then s.stageStep b else s

/-- An operation of a retirement has completed; with the last one the retirement ends, and the operation that failed counts as done (09
R279, R285). -/
def State.retireStep (s : State) (b : Nat) (q : FlashOp) : State :=
  match s.nvm.retiring.get (fun _ => none) b with
  | none => s
  | some x =>
    let x := { x with op := { x.op with suspends := x.op.suspends + q.suspends, byWarn := x.op.byWarn || q.byWarn } }
    if (s.bankQ b).any (fun o => decide (o.who = OpFor.retire)) then
      { s with nvm := { s.nvm with retiring := s.nvm.retiring.set (fun _ => none) b (some x) } }
    else (s.endRetire b x).opServed b x.op x.op.eraseShown true

/-- What follows an operation that has left its bank; the bank limit is met again (09 R267). -/
def State.opEnded (s : State) (b : Nat) (o : FlashOp) : State :=
  (if o.who = OpFor.retire then s.retireStep b o else s.opServed b o o.eraseShown false).balance

/-- The running operation of a bank, if it is a program or an erase as asked. -/
def State.runningOp (s : State) (b : Nat) (erase : Bool) : Option FlashOp :=
  match s.current b with
  | some o => if o.running = true ∧ o.erase = erase then some o else none
  | none => none

/-- PAGE_PROGRAM_DONE: the page passes MARGIN1 after the pulses applied to it; `margin3` says that it passes MARGIN3 too (09 R271). -/
def pageProgramDone (b : Nat) (margin3 : Bool) (s : State) : State :=
  match s.runningOp b false with
  | none => s
  | some o => if o.pulses = 0 then s else ((s.pageDone b o o.pulses margin3).dropOp b).opEnded b o

def execPageProgramDone (bank : Fin 260) (margin3 : Bool) (s : State) : Host.Outcome State Fault Refusal :=
  answer (pageProgramDone bank.val margin3 s)

/-- The wear signs that a failed verify shows beside the fourth: 32 pulses are more than 12, and 4.0 ms more than 2.5 ms; its sector
keeps the pulses and the erase time (09 R278, R282). DEDUCED (log entry 69). -/
def State.failSigns (s : State) (b : Nat) (o : FlashOp) : State :=
  (s.modSector b o.sector fun x => if o.erase then { x with eraseUs := 4000 } else { x with maxPulses := max x.maxPulses 32 }).wearSign b
    (if o.erase then 3 else 1)

/-- A sector that failed its verify is to be retired into a free sector of its bank; with none left its user command or the staging fails
(09 R265, R279, R285). -/
def State.startRetire (s : State) (b : Nat) (o : FlashOp) : State :=
  match (s.flash.freeOf b).filter (fun n => n ≠ o.sector) with
  | r :: _ => s.beginRetire b o r
  | [] =>
    let s := (s.exhausted b o).jobFail b o (if o.erase then 4000 else 0) (if o.erase then 0x22 else 0x21)
    if o.who = OpFor.stage then (match s.cfg.stage with | some x => s.stageFail x 0x0B none none | none => s) else s

/-- An operation fails its verify: the fourth wear sign, and its sector is retired. A replacement that itself fails is retired, and the
retirement begins again with another (09 R278, R279). DEDUCED (log entry 73) of the replacement. -/
def State.verifyFailure (s : State) (b : Nat) (o : FlashOp) : State :=
  let s := ((s.failSigns b o).wearSign b 4).dropOp b
  let s := match o.who, s.nvm.retiring.get (fun _ => none) b with
    | .retire, some x =>
      let s := s.setBankQ b ((s.bankQ b).filter (fun q => q.who ≠ OpFor.retire))
      let s := s.setFree b ((s.flash.freeOf b).filter (fun n => n ≠ x.repl))
      ((s.clearRetire b x).retireSector b x.repl).startRetire b x.op
    | _, _ => s.startRetire b o
  s.balance

/-- PROGRAM_VERIFY_FAILURE after 32 pulses (09 R271, R279). -/
def execProgramVerifyFailure (bank : Fin 260) (s : State) : Host.Outcome State Fault Refusal :=
  answer (match s.runningOp bank.val false with
    | none => s
    | some o => if o.pulses = 32 then s.verifyFailure bank.val o else s)

/-- SECTOR_ERASE_DONE: the sector passes MARGIN2 after the erase time applied to it (09 R272). -/
def sectorEraseDone (b : Nat) (s : State) : State :=
  match s.runningOp b true with
  | none => s
  | some o => if o.eraseUs = 0 ∧ o.winTicks = 0 then s else ((s.sectorDone b o.sector o.eraseShown).dropOp b).opEnded b o

def execSectorEraseDone (bank : Fin 260) (s : State) : Host.Outcome State Fault Refusal := answer (sectorEraseDone bank.val s)

/-- ERASE_VERIFY_FAILURE at 4.0 ms of erase time (09 R272, R279). -/
def execEraseVerifyFailure (bank : Fin 260) (s : State) : Host.Outcome State Fault Refusal :=
  answer (match s.runningOp bank.val true with
    | none => s
    | some o => if 4000 ≤ o.eraseShown then s.verifyFailure bank.val o else s)

/-- ERASE_WINDOW_RESET: the window's erase time has reached 200 µs (09 R274). -/
def eraseWindowReset (b : Nat) (s : State) : State :=
  match s.runningOp b true with
  | none => s
  | some o =>
    if o.winTicks < usTicks 200 ∨ 4000 ≤ o.eraseShown then s
    else s.modCurrent b fun o => { o with winSus := 0, eraseUs := o.eraseUs + 200, winTicks := 0 }

def execEraseWindowReset (bank : Fin 260) (s : State) : Host.Outcome State Fault Refusal := answer (eraseWindowReset bank.val s)

/-- One journal entry resolved; `pass` holds the MARGIN1 outcomes of the interrupted user pages in journal order; a retirement copy is
repeated, by operations of its bank (09 R277). DESIGN CHOICE (log entry 43): the operations run after the resolution. -/
def resolveEntry (e : JEntry) (pass : List Bool) (s : State) : List Bool × State :=
  match e with
  | .erase b n _ =>
    (pass, { s.modSector b n (fun x => { x with incomplete := true }) with
             nvm := { s.nvm with jErase := satAdd 8 s.nvm.jErase 1 } })
  | .program b n pg true =>
    if pass.headD false then
      (pass.drop 1, s.setPage b n pg { s.flash.page b n pg with state := .programmed })
    else (pass.drop 1, { s with nvm := { s.nvm with jInt := satAdd 8 s.nvm.jInt 1 } })
  | .program _ _ _ false => (pass, s)
  | .update => (pass, s)
  | .retire b n r => (pass, s.beginRetire b { erase := true, sector := n, page := 0, data := [], who := .retire } r)

/-- NVM_POWER_UP: every journal entry is resolved before the first slot read, then the pin boot table is read (09 R277, 10 R314). -/
def nvmPowerUp (pass : List Bool) (s : State) : State :=
  if !s.nvm.journalBusy || !s.ctlOn then s
  else
    let l := s.flash.journal
    let s := { s with nvm := { s.nvm with jResolved := min 511 l.length, jErase := 0, jInt := 0, journalBusy := false },
                      pins := { s.pins with unread := false } }
    let s := s.setFlash fun f => { f with journal := [] }
    let s := (l.foldl (fun p e => resolveEntry e p.1 p.2) (pass, s)).2
    if l.isEmpty then s else s.raise 0x0406 [it2 l.length]

def execNvmPowerUp (pass : List Bool) (s : State) : Host.Outcome State Fault Refusal := answer (nvmPowerUp pass s)

end Sys2Proof.Machine
end

