-- ==== Sys2Proof/Machine/Reset.lean ====
section
/-! DEFINITION. Resets (00 R12, R13, 12 R364), the release of a cold reset (16 R434), powering down to Deep Sleep and Off (15 R408) and
waking (15 R409 to R413). -/

namespace Sys2Proof.Machine

/-- The pull of a pin boot table state: weak pull-down, weak pull-up, or none (10 R297, 14 R403). -/
def pullOf (st : Nat) : Nat := if st < 2 then st else 2

/-- PIN_FUNCn as a reset leaves it: func 9 where it is held, the rest from the table in force (14 R390, R397, R403). -/
def State.funcAtReset (s : State) (n : Nat) : Nat :=
  let e := s.flash.pinTable.get (fun _ => {}) n
  (if s.pins.tamper.get noFlag n then 9 else 0) + 16 * e.drive + 128 * e.slew + 256 * pullOf e.st

/-- A pin enters its boot state under the table in force (14 R390). -/
def State.pinAtReset (s : State) (n : Nat) : State :=
  let e := s.flash.pinTable.get (fun _ => {}) n
  let s := (s.setPin n { bootState := e.st }).setReg (funcOff n) (s.funcAtReset n)
  let oe := 0x700210 + 4 * (n / 32)
  let out := 0x700200 + 4 * (n / 32)
  let s := if (bootDrive e.st).1 then s.setReg oe (s.reg oe ||| 2 ^ (n % 32)) else s
  if (bootDrive e.st).2 then s.setReg out (s.reg out ||| 2 ^ (n % 32)) else s

/-- The engine memory of the retention banks of a mask, and nothing else of an engine (15 R416). -/
def State.retained (s : State) (mask : Nat) : SMap Engine :=
  s.eng.filterMap fun p =>
    if mask.testBit (p.1 / 4) = true ∧ p.2.mem ≠ [] then some (p.1, { mem := p.2.mem }) else none

/-- Everything in the device is reset, but the AON domain, what flash, fuses and VBAT hold, and the retention banks of a mask. The
commands that wait and the record of outputs are not the device's (00 R12, 15 R416). -/
def State.blank (s : State) (mask : Nat) : State :=
  let t : State := { pending := s.pending, out := s.out, aon := s.aon, flash := s.flash, keys := s.keys, eng := s.retained mask,
                     pins := { tamper := s.pins.tamper, bank := s.pins.bank, unread := s.pins.unread },
                     scb := { ctl := s.flash.scbCtl, copies := List.replicate 3 { ctl := s.flash.scbCtl } } }
  t.each (List.range 96) State.pinAtReset

/-- A reset cuts a boot sequence before a start is confirmed: the sequence has failed (10 R312). -/
def State.bootCut (s : State) (supply : Bool) : State :=
  { s with aon := { s.aon with bootCount := min 3 (s.aon.bootCount + b2n s.cfg.booting), cutBySupply := supply } }

/-- A staging that a reset has cut is reported, with no completion (10 R303). -/
def State.stageCut (s : State) (was : Option Staging) : State := if was.isSome then s.raise 0x0306 [it1 0x0D] else s

/-- PWR_STATE_CHANGED with what PWR_WAKE_SRC holds (15 R411). -/
def State.stateChanged (s : State) : State := s.raise 0x0207 [it1 s.aon.wakeSrc, it1 s.aon.wakeFrom, it1 s.aon.wakeCount]

/-- What a start-up does once the control core runs: events held for it are raised, the tick PLL is started, the boot sequence begins
(01 R21, 10 R300, R311, 15 R411, 16 R444). -/
def State.startUp (s : State) (ref10 : Bool) : State :=
  let s := s.keys.eventDue.foldl (fun s _ => s.raise 0x0308 []) s
  let s := { s with keys := { s.keys with eventDue := [] } }
  let s := if s.aon.wakePend then { s.stateChanged with aon := { s.aon with wakePend := false } } else s
  { s with pwr := { s.pwr with pllOn := true, ref10 := ref10 } }.startBoot

/-- A device reset; `keepBus` where the configuration space is kept, `flr` what it holds after it otherwise (00 R12, 12 R364). DESIGN CHOICE (log entry 68): R13 does not say what
a trigger of a device reset does while a cold reset is still held; here it is performed, and the boot sequence starts. -/
def State.deviceReset (s : State) (keepBus : Bool) (flr : Pci := {}) : State :=
  let t := (s.bootCut false).blank 0
  let t := { t with hif := { t.hif with busMaster := keepBus && s.hif.busMaster, pci := if keepBus then s.hif.pci else flr } }
  (t.stageCut s.cfg.stage).startUp s.pwr.ref10

/-- DEV_RESET written (12 R346, R364). -/
def devReset (v : Nat) (s : State) : State :=
  if v % 2 ^ 16 = 0x9D2B then s.deviceReset true else s.accessError 0x100020 2

def execDevReset (value : Word) (s : State) : Host.Outcome State Fault Refusal := answer (s.hostAccess (devReset value.toNat))

/-- The device is in Deep Sleep or Off (15 R408). -/
def State.powered (s : State) : Bool := s.ctlOn

/-- What a function-level reset leaves of configuration space. PRESUMED (log entry 76): Max_Payload_Size, ASPM control and the AER registers,
which the Base Specification excepts from it (12 R364). -/
def Pci.flr (p : Pci) : Pci :=
  { mps := p.mps, aspm := p.aspm, uncMask := p.uncMask, corMask := p.corMask, uncSev := p.uncSev, uncStatus := p.uncStatus,
    corStatus := p.corStatus, corErrs := p.corErrs }

/-- FUNCTION_LEVEL_RESET (12 R364, R365). -/
def execFunctionLevelReset (s : State) : Host.Outcome State Fault Refusal :=
  answer (if s.powered then s.deviceReset false s.hif.pci.flr else s)

/-- PERST_ASSERT: not during the entries and states of R408 (00 R12, 12 R364, 15 R408). -/
def execPerstAssert (s : State) : Host.Outcome State Fault Refusal :=
  answer (if s.powered && s.pwr.entering.isNone then s.deviceReset false else s)

/-- HOT_RESET: not during the entries and states of R408 (00 R12, 12 R364). -/
def execHotReset (s : State) : Host.Outcome State Fault Refusal :=
  answer (if s.powered && s.pwr.entering.isNone then s.deviceReset false else s)

/-- DL_DOWN: not during the entries and states of R408 (00 R12, 12 R364, 15 R408). -/
def execDlDown (s : State) : Host.Outcome State Fault Refusal :=
  answer (if s.powered && s.pwr.entering.isNone then s.deviceReset false else s)

/-- A cold reset begins: by PORST#, or by VCORE below its reset threshold; not in Off, and VCORE is watched only in Run, Idle and Sleep
(00 R12, 15 R413, R422, R424, R430, 10 R323). DESIGN CHOICE (log entry 68): one that VCORE causes is held, like one by PORST#, until a
PORST_RELEASE, though PORST# was never asserted. -/
def coldReset (vcore : Bool) (s : State) : State :=
  if s.pwr.state = .off ∨ (vcore = true ∧ s.pwr.state = .deepSleep) then s
  else
    let t := (s.bootCut vcore).blank 0
    let t := { t with aon := { t.aon with keyLock := false, portHeld := true, lastCold := if vcore then 2 else 1 },
                      pins := { t.pins with unread := true } }
    t.stageCut s.cfg.stage

def execColdReset (vcore : Bool) (s : State) : Host.Outcome State Fault Refusal := answer (coldReset vcore s)

/-- Off ends: the device starts as after a cold reset, keeping AON and key RAM (15 R413). -/
def State.endOff (s : State) (ref10 : Bool) : State :=
  let t := s.blank 0
  { t with aon := { t.aon with keyLock := false, portHeld := false, lastCold := 3 }, pins := { t.pins with unread := true } }.startUp ref10

/-- PORST_RELEASE: a cold reset is released, or Off ends after a wake has raised PWR_GOOD; the crystal of the slow clock is detected at
this cold start, and used when present (15 R413, 16 R434, R440, R445). -/
def porstRelease (ma : Nat) (ref10 crystal : Bool) (s : State) : State :=
  let s1 := { s with aon := { s.aon with ma := ma, slowXtal := crystal } }
  if s.pwr.state = .off then (if s.aon.pwrGood then s1.endOff ref10 else s)
  else if s.aon.portHeld then { s1 with aon := { s1.aon with portHeld := false } }.startUp ref10
  else s

def execPorstRelease (ma : BitVec 3) (ref10 crystal : Bool) (s : State) : Host.Outcome State Fault Refusal :=
  answer (porstRelease ma.toNat ref10 crystal s)

/-- OFF_END: with every supply kept and PORST# high throughout Off (15 R413). -/
def execOffEnd (s : State) : Host.Outcome State Fault Refusal :=
  answer (if s.pwr.state = .off ∧ s.aon.pwrGood = true then s.endOff s.pwr.ref10 else s)

/-- Completions that are due are written, as far as their rings have room (15 R407). -/
def State.flushCpls (s : State) : State :=
  s.each ((List.range 64).map (· + 64)) fun s n =>
    s.each (List.range (s.hif.cpls.filter (fun c => s.cplRing c.ring == n)).length) fun s _ => completionWrite n s

/-- A user command with what its operation in progress, or the retirement it has caused, has come to (09 R285). -/
def State.jobNow (s : State) (j : NvmJob) : NvmJob :=
  let mine (o : FlashOp) : Bool := o.started && decide (o.who = .user j.desc)
  let op := match s.current j.bank, s.nvm.retiring.get (fun _ => none) j.bank with
    | some o, some x => if mine o then some o else if mine x.op then some x.op else none
    | some o, none => if mine o then some o else none
    | none, some x => if mine x.op then some x.op else none
    | none, none => none
  match op with
  | some o => { j with flags := j.flags ||| o.flags false, eraseUs := o.eraseShown, suspends := o.suspends }
  | none => j

/-- Pending user commands of the flash complete as interrupted (09 R276, R285). -/
def State.cutJobs (s : State) : State :=
  (s.nvm.jobs.foldl (fun s j =>
    let k := s.jobNow j
    ({ s with nvm := { s.nvm with jobs := s.nvm.jobs.map (fun x => if x = j then k else x) } }).jobDone k 2 0x24) s).flushCpls

/-- Wake: the source, the state left and the count are recorded in AON (15 R411). -/
def State.wakeRecord (s : State) (src : Nat) : State :=
  { s with aon := { s.aon with wakeSrc := src, wakeFrom := s.pwr.state.code, wakeCount := satAdd 8 s.aon.wakeCount 1 } }

/-- A wake from Deep Sleep is a device reset that keeps the retention banks; the boot sequence tries the slot active at entry first.
A wake from Off raises PWR_GOOD; after a thermal trip none is recognized before Tj has fallen (15 R411, R412, R413, R416, 10 R311, 16
R449). -/
def State.wake (s : State) (src : Nat) : State :=
  match s.pwr.state with
  | .deepSleep =>
    let slot := s.cfg.wakeSlot
    let t := (s.wakeRecord src).blank (2 ^ 256 - 1)
    { t with cfg := { t.cfg with wakeSlot := slot }, aon := { t.aon with wakePend := true } }.startUp s.pwr.ref10
  | .off =>
    if s.aon.pwrGood || s.aon.hot then s
    else
      let t := s.wakeRecord src
      { t with aon := { t.aon with pwrGood := true, wakePend := true } }
  | _ => s

/-- Steps 4 and 5 of R408: what the state does not keep is lost; a wake that came during the entry is acted on (15 R404, R407, R408,
R416). -/
def State.powerDown (s : State) (dst : PState) : State :=
  let s := s.cutJobs
  let slot := if dst = .deepSleep ∧ s.cfg.loaded = true then s.cfg.active else 3
  let t := s.blank (if dst = .deepSleep then s.pwr.mask else 0)
  let t := { t with pwr := { t.pwr with state := dst, ref10 := s.pwr.ref10 }, cfg := { t.cfg with wakeSlot := slot },
                    aon := { t.aon with pwrGood := decide (dst ≠ .off) } }
  match s.pwr.wakeDue with
  | some src => t.wake src
  | none => t

end Sys2Proof.Machine
end

