-- ==== Sys2Proof/Machine/TimeCtl.lean ====
section
/-! DEFINITION. The commands of the datum counter (13): rate, set and adjust at sync ticks, time messages, PTM, PPS, the alarm and
followers. -/

namespace Sys2Proof.Machine

/-- A sticky bit of TIM_STAT is set (13 R384). -/
def State.timSticky (s : State) (bit : Nat) : State := s.setReg 0x600004 (s.reg 0x600004 ||| 2 ^ bit)

/-- TIM_CTL.role is follower (13 R384). -/
def State.follower (s : State) : Bool := decide (s.regF 0x600000 0 2 = 2)

/-- TIM_CTL.role is reference (13 R384). -/
def State.reference (s : State) : Bool := decide (s.regF 0x600000 0 2 = 1)

/-- The 96 bits of three consecutive registers from an offset on (13 R384). -/
def State.timWords (s : State) (off : Nat) : Nat := s.reg off + s.reg (off + 4) * 2 ^ 32 + s.reg (off + 8) * 2 ^ 64

/-- set or adjust of TIM_CMD: pending until the next sync tick; on a follower ignored (13 R372, R383). -/
def State.timStep (s : State) (k : TimPend) (force : Bool) : State :=
  if s.follower then s.timSticky 8
  else { s with tim := { s.tim with pendStep := some k, pendForce := force } }

/-- TIM_CMD_SET (13 R372). -/
def execTimCmdSet (force : Bool) (s : State) : Host.Outcome State Fault Refusal :=
  answer (s.hostAccess fun s => s.timStep .set force)

/-- TIM_CMD_ADJUST (13 R372). -/
def execTimCmdAdjust (force : Bool) (s : State) : Host.Outcome State Fault Refusal :=
  answer (s.hostAccess fun s => s.timStep .adjust force)

/-- arm of TIM_CMD: the alarm is armed at TIM_ALARM0–2 (13 R378). -/
def State.timArm (s : State) : State := { s with tim := { s.tim with armed := some (s.timWords 0x600060) } }

/-- The alarm is disarmed without an event (13 R378). -/
def State.timDisarm (s : State) : State := { s with tim := { s.tim with armed := none } }

def execTimCmdArm (s : State) : Host.Outcome State Fault Refusal := answer (s.hostAccess State.timArm)

def execTimCmdDisarm (s : State) : Host.Outcome State Fault Refusal := answer (s.hostAccess State.timDisarm)

/-- A PTM dialog starts: the request is sent and its t1 kept; with PTM Enable 0 it only sets ptm_fail (13 R375). -/
def State.timPtm (s : State) : State :=
  if s.hif.pci.ptm then
    ({ s with tim := { s.tim with ptm := s.tim.ptm ++ [visible s.tim.value] } }).put (.level "PTM_REQUEST" 0 true)
  else s.timSticky 7

def execTimCmdPtm (s : State) : Host.Outcome State Fault Refusal := answer (s.hostAccess State.timPtm)

/-- PTM_INTERVAL: a dialog every ptm_int ms, when ptm_int is not 0 (13 R375). -/
def execPtmInterval (s : State) : Host.Outcome State Fault Refusal :=
  answer (if s.regF 0x600000 16 8 = 0 then s else s.timPtm)

/-- PTM_RESPONSE: the oldest dialog's t1, the Master Time and the Propagation Delay are written together, then the sequence count
(13 R375). -/
def ptmResponse (time delay : Nat) (s : State) : State :=
  match s.tim.ptm with
  | [] => s
  | t1 :: rest =>
    { s with tim := { s.tim with ptm := rest, ptmT1 := t1, ptmTime := time, ptmDelay := delay,
                                 ptmSeq := (s.tim.ptmSeq + 1) % 2 ^ 32 } }

def execPtmResponse (time : Quad) (delay : Word) (s : State) : Host.Outcome State Fault Refusal :=
  answer (ptmResponse time.toNat delay.toNat s)

/-- PTM_TIMEOUT: the oldest dialog has had no response for 1 ms (13 R375). -/
def ptmTimeout (s : State) : State :=
  match s.tim.ptm with
  | [] => s
  | _ :: rest => { s with tim := { s.tim with ptm := rest } }.timSticky 7

def execPtmTimeout (s : State) : Host.Outcome State Fault Refusal := answer (ptmTimeout s)

/-- A write of TIM_RATE: pending until the next sync tick; on a follower ignored (13 R372, R383). -/
def timRateWrite (v : Nat) (s : State) : State :=
  if s.follower then s.timSticky 8 else { s with tim := { s.tim with pendRate := some v } }

def execTimRateWrite (value : Word) (s : State) : Host.Outcome State Fault Refusal :=
  answer (s.hostAccess (timRateWrite value.toNat))

/-- TIM_NOW_SNAPSHOT: the whole counter and the tick number are copied (13 R371). -/
def timSnapshot (s : State) : State :=
  { s with tim := { s.tim with snap := visible s.tim.value, snapTick := s.tickNo } }

def execTimNowSnapshot (s : State) : Host.Outcome State Fault Refusal := answer (s.hostAccess timSnapshot)

/-- The sites whose timed RUN_START has not committed (13 R373). -/
def State.timedStarts (s : State) : List Nat :=
  s.activeSites.filter (fun n => match s.run n with | some r => r.waiting && r.timed.isSome | none => false)

/-- A timed action is pending, so that a step without force is refused (13 R373). -/
def State.timedPending (s : State) : Bool :=
  !s.timedStarts.isEmpty || s.snp.pend.any (fun b => b.timed) || s.fab.rbPend.any (fun b => b.timed) || s.tim.armed.isSome

/-- A forced step: every timed descriptor that is pending completes as aborted, and the alarm is disarmed (13 R373). -/
def State.abortTimed (s : State) : State :=
  let s := s.each s.timedStarts fun s n => s.leaderRefuse n { status := 6 }
  let s := match s.snp.pend with
    | some b =>
      if b.timed then
        let t := { s with snp := { s.snp with pend := none } }
        (match b.desc with | some i => t.finish i { status := 6 } | none => t)
      else s
    | none => s
  let s := match s.fab.rbPend with
    | some b => if b.timed then { s with fab := { s.fab with rbPend := none } }.finish b.desc { status := 6 } else s
    | none => s
  s.timDisarm

/-- The counter takes a new value, reported with the datum time before and after it (13 R374). -/
def State.stepTo (s : State) (v : Nat) : State :=
  let before := s.stampNow
  let s := s.keepTime
  let s := { s with tim := { s.tim with value := v } }
  s.raise 0x0601 [itTime before, itTime s.stampNow]

/-- The value a pending set or adjust gives the counter (13 R372). -/
def State.stepValue (s : State) : TimPend → Nat
  | .set => ofVisible (s.timWords 0x600020)
  | .adjust => advance s.tim.value (signed 64 (s.reg 0x600010 + s.reg 0x600014 * 2 ^ 32) * 2 ^ 24)

/-- A pending set or adjust at a sync tick: applied, or refused while a timed action is pending (13 R370, R372 to R374). -/
def State.applyStep (s : State) : State :=
  match s.tim.pendStep with
  | none => s
  | some k =>
    let force := s.tim.pendForce
    let s := { s with tim := { s.tim with pendStep := none, pendForce := false } }
    if s.timedPending && !force then s.raise 0x0602 []
    else
      let s := if force then s.abortTimed else s
      let s := s.stepTo (s.stepValue k)
      if k = .set then { s with tim := { s.tim with set := true } } else s

/-- The time messages on a link: the tick number of the superframe that will carry byte 0, behind the bytes that wait, and the rate; then
the value at that tick (13 R381). -/
def State.sendTime (s : State) (l : Nat) : State :=
  let base := frameTick (s.frameNow + (s.link l).txq.length)
  let b := s.tickNoAt base
  (s.sendOn l 0x0F 0 0 (b + s.tim.rate * 2 ^ 64)).sendOn l 0x10 0 (b % 2 ^ 16) (visible (s.valueAt base))

/-- The links on which this device sends time messages (13 R381). -/
def State.timeLinks (s : State) : List Nat :=
  if s.reference then [0, 1, 2, 3]
  else if s.follower && s.tim.followLock then [0, 1, 2, 3].filter (fun l => decide (l ≠ s.regF 0x600000 2 2))
  else []

/-- The tick is a sync tick: its number is a multiple of 65,536, or, while SYSCLK counts, has passed one in this cycle (13 R372). -/
def State.syncDue (s : State) : Bool :=
  if s.pllCounts then decide (s.tickNo % 65536 = 0) else decide (s.tickNo % 65536 < 15)

/-- SYNC_TICK: pending changes apply, then time messages go out (13 R372, R381). -/
def syncTick (s : State) : State :=
  let s := if s.tim.pendRate.isSome then s.keepTime else s
  let s := { s with tim := { s.tim with rate := s.tim.pendRate.getD s.tim.rate, pendRate := none } }
  let s := s.applyStep
  s.each s.timeLinks State.sendTime

def execSyncTick (s : State) : Host.Outcome State Fault Refusal :=
  answer (if s.tim.started && s.syncDue then syncTick s else s)

/-- PPS_IN_EDGE: an edge of the selected polarity is captured, where the land has stood at the other level for at least 20 ns
(13 R376). -/
def ppsInEdge (rise : Bool) (before : Nat) (s : State) : State :=
  if (s.reg 0x600000).testBit 4 && (rise != (s.reg 0x600000).testBit 5) && decide (20 ≤ before) then
    let s := { s with tim := { s.tim with pps := visible s.tim.value, ppsLast := some s.tim.tick, ppsMissRaised := false } }
    let s := s.timSticky 4
    if (s.reg 0x600000).testBit 6 then s.raise 0x0604 [itTime s.stampNow] else s
  else s

def execPpsInEdge (rise : Bool) (before : BitVec 16) (s : State) : Host.Outcome State Fault Refusal :=
  answer (ppsInEdge rise before.toNat s)

/-- PPS_MISSING: no edge within 1.1 s of the previous capture; once until the next (13 R376). -/
def ppsMissing (s : State) : State :=
  if !s.tim.ppsLast.any (fun n => decide (n + usTicks 1100000 ≤ s.tim.tick)) || s.tim.ppsMissRaised then s
  else (({ s with tim := { s.tim with ppsMissRaised := true } }).timSticky 5).raise 0x0605 []

def execPpsMissing (s : State) : Host.Outcome State Fault Refusal := answer (ppsMissing s)

/-- What the counter adds in one tick, or in one SYSCLK cycle (13 R368, R369). -/
def State.increment (s : State) : Int :=
  if s.pllCounts then nominal (s.tickNo + 2 ^ 64 - 1) + s.rateWord else 10 * 2 ^ 40 + 15 * s.rateWord

/-- The counter has reached a whole second with this tick by counting, or stands at one; a step across one does not count (13 R377). -/
def State.atSecond (s : State) : Bool :=
  let past := s.tim.value % unitsPerSec
  decide (past = 0) ||
    (decide ((past : Int) < s.increment) && !s.tim.hist.any (fun h => decide (h.upto = s.tim.tick) && decide (h.value ≠ s.tim.value)))

/-- PPS_OUT_RISE: the counter has reached a whole second, with pps_out_en and set (13 R377). -/
def execPpsOutRise (s : State) : Host.Outcome State Fault Refusal :=
  answer (if (s.reg 0x600000).testBit 7 && s.tim.set && s.atSecond && !s.tim.ppsOut then
    { s with tim := { s.tim with ppsOut := true, ppsRise := s.tim.value } }.put (.level "PPS_OUT" 0 true) else s)

/-- The pulse on PPS_OUT has lasted pps_width ms by the counter, 0 treated as 1; a counter set back behind the rise ends it too (13 R377). -/
def State.ppsOver (s : State) : Bool :=
  decide (max 1 (s.regF 0x600000 8 8) * 1000000 * 2 ^ 40 ≤ (s.tim.value + counterRange - s.tim.ppsRise) % counterRange)

/-- PPS_OUT_FALL: pps_width ms after the rise by the counter (13 R377). -/
def execPpsOutFall (s : State) : Host.Outcome State Fault Refusal :=
  answer (if s.tim.ppsOut && s.ppsOver then { s with tim := { s.tim with ppsOut := false } }.put (.level "PPS_OUT" 0 false) else s)

/-- TIM_ALARM: the armed alarm fires at or after its time and is disarmed; in Sleep it wakes the device where alarm_en allows it (13 R378,
15 R409). -/
def timAlarm (also : Byte) (s : State) : State :=
  if !s.tim.armed.any (fun a => decide (ofVisible a ≤ s.tim.value)) then s
  else
    let s := s.timDisarm.raise 0x0603 []
    s.resumeBy 5 also

def execTimAlarm (also : Byte) (s : State) : Host.Outcome State Fault Refusal := answer (timAlarm also s)

/-- TIM_FOLLOW_LOST: four sync intervals without a good TIME_TICK (13 R383). -/
def execTimFollowLost (s : State) : Host.Outcome State Fault Refusal :=
  answer (if s.follower && s.tim.followLock && decide (s.tim.goodAt + 4 * 65536 ≤ s.tim.tick) then
    { s with tim := { s.tim with followLock := false } }.raise 0x0606 [] else s)

/-- The message came by the link toward the reference (13 R381). -/
def State.fromReference (s : State) (h : MsgHead) : Bool :=
  s.follower && decide (h.link.toNat = s.regF 0x600000 2 2)

/-- TIME_TICK at a follower: its tick number becomes b + L, and it takes the rate word (13 R382). -/
def timeTick (l b rate : Nat) (s : State) : State :=
  let want := (b + (s.link l).lat) % 2 ^ 64
  let s := s.keepTime
  { s with tim := { s.tim with off := (want + 2 ^ 64 - s.tim.tick % 2 ^ 64) % 2 ^ 64, corrected := decide (s.tickNo ≠ want),
                               rate := rate, tickSeen := true, tickB := b, goodAt := s.tim.tick } }

/-- TIME_TICK (13 R381, R382). -/
def execTimeTick (h : MsgHead) (b : BitVec 64) (rate : Word) (s : State) : Host.Outcome State Fault Refusal :=
  answer (s.recvQuiet h fun s => if s.fromReference h then timeTick h.link.toNat b.toNat rate.toNat s else s)

/-- The reference's value at its tick b, advanced by the increments of the ticks since (13 R382). -/
def State.followValue (s : State) (b t : Nat) : Nat :=
  let n := (s.tickNo + 2 ^ 64 - b) % 2 ^ 64
  advance (ofVisible t) ((nominalSum (b % 3 + n) : Int) - nominalSum (b % 3) + s.rateWord * n)

/-- The size of a move of the counter, either way around its range. -/
def counterGap (a b : Nat) : Nat := min ((a + counterRange - b) % counterRange) ((b + counterRange - a) % counterRange)

/-- TIME_VAL at a follower: the value is set; a move of more than 1 µs acts as a forced step; without a tick correction the follower
is locked (13 R370, R382). -/
def timeVal (t : Nat) (s : State) : State :=
  let v := s.followValue s.tim.tickB t
  let s := if 1000 * 2 ^ 40 < counterGap v s.tim.value then s.abortTimed.stepTo v
    else { s.keepTime with tim := { s.keepTime.tim with value := v } }
  { s with tim := { s.tim with tickSeen := false, followLock := !s.tim.corrected, set := s.tim.set || !s.tim.corrected } }

/-- TIME_VAL (13 R381, R382). -/
def execTimeVal (h : MsgHead) (low : BitVec 16) (t : DatumTime) (s : State) : Host.Outcome State Fault Refusal :=
  answer (s.recvQuiet h fun s =>
    if s.fromReference h && s.tim.tickSeen && decide (low.toNat = s.tim.tickB % 2 ^ 16) then timeVal t.toNat s else s)

end Sys2Proof.Machine
end

