-- ==== Sys2Proof/Machine/Power.lean ====
section
/-! DEFINITION. Power states and their commands (15 R404 to R413), the two-wire target (R410), performance levels (R418 to R420), clock
switch (R414) and parcel power (R417). -/

namespace Sys2Proof.Machine

/-- A flash operation is pending, running or suspended, or journal resolution runs (15 R405). -/
def State.flashBusy (s : State) : Bool := s.nvm.queue.any (fun q => !q.2.isEmpty) || s.nvm.journalBusy

/-- Why a command to enter a state is refused; `own` is the command's own descriptor. A run or a benchmark that another device's descriptor
has started counts as one in execution (15 R405). -/
def State.entryRefused (s : State) (own : Option DescId) : Option Nat :=
  let other (x : XDesc) : Bool := match own with | some i => !(x.ring == i.ring && x.index == i.index && x.serial == i.serial) | none => true
  if s.hif.inExec.any other || !s.activeSites.isEmpty || s.snp.pend.isSome || !s.snp.flight.isEmpty then some 1
  else if s.flashBusy then some 2
  else if s.cfg.load.isSome || s.cfg.released.isSome then some 3
  else none

/-- A link in electrical idle: only its counters are left (15 R404, R407). -/
def Link.idle (x : Link) : Link :=
  { ({} : Link) with replays := x.replays, badSide := x.badSide, badCtl := x.badCtl, retrains := x.retrains }

/-- What stops for Sleep (15 R407, 11 R335, 06 R180). -/
def State.sleepStops (s : State) : State :=
  let s := s.scrubEnd
  let s := { s with dvm := { s.dvm with selfRefresh := true }, fab := { s.fab with clocks := false },
                    tim := { s.tim with locked := false, degraded := false },
                    pwr := { s.pwr with pllOn := false, coreClk := false, fromSleep := true, sleepAt := s.tim.tick } }
  s.each [0, 1, 2, 3] fun s l => s.setLink l (s.link l).idle

/-- Entry to a state once its command has completed: Idle and Sleep at once, Deep Sleep and Off up to the wait for PME_Turn_Off (15
R406 to R408). -/
def State.enterState (s : State) (st : PState) (mask : Nat) : State :=
  let s := { s with pwr := { s.pwr with entryWait := none } }
  match st with
  | .run => s
  | .idle => { s with pwr := { s.pwr with state := .idle, reverseBias := true } }
  | .sleep => let s := s.sleepStops; { s with pwr := { s.pwr with state := .sleep, reverseBias := true } }
  | _ => { s with pwr := { s.pwr with entering := some st, mask := mask } }

/-- The entry whose command's completion has been written, or dropped with its ring, goes on (15 R407, R408). -/
def State.entryDue (s : State) : State :=
  match s.pwr.entryWait with
  | none => s
  | some (i, st, mask) =>
    if s.hif.cpls.any (fun c => c.serial == i.serial && c.ring == i.ring && c.index == i.index) then s else s.enterState st mask

/-- Entry to a state begins: the command's own completion is written first, with the others due, and entry waits while it cannot be (15
R407, R408). DESIGN CHOICE (log entry 78): while it waits the device is in Run, and what would be a wake is none. -/
def State.beginEntry (s : State) (i : DescId) (st : PState) (mask : Nat) : State :=
  let s := s.flushCpls
  { s with pwr := { s.pwr with entryWait := some (i, st, mask) } }.entryDue

/-- COMPLETION_WRITE; an entry that waited for the completion goes on (12 R348, R358, 15 R407). -/
def execCompletionWrite (ring : BitVec 6) (s : State) : Host.Outcome State Fault Refusal :=
  answer (completionWrite (64 + ring.toNat) s).entryDue

/-- PWR_STATE naming a state (15 R405 to R408). -/
def pwrState (c : Instr) (d : DescRef) (st : PState) (mask : Nat) (s : State) : State :=
  s.runDesc (descId d 0x40) (rowFields c) false fun k s =>
    if s.pwr.state = st then s.finish k {}
    else match s.entryRefused (some k) with
      | some c => s.finish k { status := 1, cause := c }
      | none => (s.finish k {}).beginEntry k st mask

def execPwrStateRun (d : DescRef) (s : State) : Host.Outcome State Fault Refusal :=
  answer (pwrState (.pwrStateRun d) d .run 0 s)
def execPwrStateIdle (d : DescRef) (s : State) : Host.Outcome State Fault Refusal :=
  answer (pwrState (.pwrStateIdle d) d .idle 0 s)
def execPwrStateSleep (d : DescRef) (s : State) : Host.Outcome State Fault Refusal :=
  answer (pwrState (.pwrStateSleep d) d .sleep 0 s)
def execPwrStateDeepSleep (d : DescRef) (mask : BitVec 256) (s : State) : Host.Outcome State Fault Refusal :=
  answer (pwrState (.pwrStateDeepSleep d mask) d .deepSleep mask.toNat s)
def execPwrStateOff (d : DescRef) (s : State) : Host.Outcome State Fault Refusal :=
  answer (pwrState (.pwrStateOff d) d .off 0 s)

/-- PWR_CMD_REFUSED with its cause, 0 where the key is missing (15 R405). -/
def State.cmdRefused (s : State) (cause : Nat) : State := s.raise 0x020A [it1 cause]

/-- PWR_CMD written with its key and a state, none for the codes 5 to 7 (15 R405, R406, R430). -/
def pwrCmd (key : Nat) (st : Option PState) (mask : Nat) (s : State) : State :=
  if key ≠ 0x6B4D then s.cmdRefused 0
  else match st with
    | none => s.cmdRefused 3
    | some st =>
      if s.pwr.state = st then s
      else match (if s.cfg.base then some 3 else s.entryRefused none) with
        | some c => s.cmdRefused c
        | none => s.flushCpls.enterState st mask

/-- The state that a PWR_CMD code names (15 R430). -/
def stateOf (c : Nat) : Option PState :=
  if c = 0 then some .run else if c = 1 then some .idle else if c = 2 then some .sleep else if c = 3 then some .deepSleep
  else if c = 4 then some .off else none

/-- A write of PWR_CMD (15 R430). -/
def pwrCmdWrite (v : Nat) (s : State) : State :=
  pwrCmd (fld v 16 16) (stateOf (fld v 0 3)) (if v.testBit 3 then 2 ^ 256 - 1 else 0) s

def execPwrCmdRun (key : BitVec 16) (s : State) : Host.Outcome State Fault Refusal :=
  answer (s.hostAccess (pwrCmd key.toNat (some .run) 0))
def execPwrCmdIdle (key : BitVec 16) (s : State) : Host.Outcome State Fault Refusal :=
  answer (s.hostAccess (pwrCmd key.toNat (some .idle) 0))
def execPwrCmdSleep (key : BitVec 16) (s : State) : Host.Outcome State Fault Refusal :=
  answer (s.hostAccess (pwrCmd key.toNat (some .sleep) 0))
def execPwrCmdDeepSleep (key : BitVec 16) (keepAll : Bool) (s : State) : Host.Outcome State Fault Refusal :=
  answer (s.hostAccess (pwrCmd key.toNat (some .deepSleep) (if keepAll then 2 ^ 256 - 1 else 0)))
def execPwrCmdOff (key : BitVec 16) (s : State) : Host.Outcome State Fault Refusal :=
  answer (s.hostAccess (pwrCmd key.toNat (some .off) 0))

/-- PME_TURN_OFF: answered with PME_TO_Ack; an entry to Deep Sleep or Off goes ahead (15 R408). -/
def pmeTurnOff (s : State) : State :=
  match s.pwr.entering with
  | none => s
  | some st => (s.put (.level "PME_TO_Ack" 0 true)).powerDown st

def execPmeTurnOff (s : State) : Host.Outcome State Fault Refusal := answer (pmeTurnOff s)

/-- PME_WAIT_TIMEOUT: 10 ms after the completion the entry goes ahead (15 R408). -/
def execPmeWaitTimeout (s : State) : Host.Outcome State Fault Refusal :=
  answer (match s.pwr.entering with | none => s | some st => s.powerDown st)

/-- A source that comes while the entry to Deep Sleep or Off is in progress, if it wakes from that state; of several the lowest code
counts (15 R407, R409, R411). -/
def State.wakeLater (s : State) (src : Nat) (also : Byte) : State :=
  match s.pwr.entering with
  | none => s
  | some st =>
    match (List.range 8).find? fun k => (k == src || also.toNat.testBit k || s.pwr.wakeDue == some k) && s.wakesFrom st k with
    | some k => { s with pwr := { s.pwr with wakeDue := some k } }
    | none => s

/-- A source acts: a resume from Idle or a wake from Sleep, a wake from Deep Sleep or Off, or one that an entry in progress keeps (15 R407,
R409, R411). -/
def State.source (s : State) (src : Nat) (also : Byte) : State :=
  match s.pwr.state with
  | .run => s.wakeLater src also
  | .idle => s.resumeBy src also
  | .sleep => s.resumeBy src also
  | st => if s.wakesFrom st src then s.wake (s.lowestSource src also) else s

/-- WAKE_LAND: source 1 in every state; in Run it only raises PWR_STATE_CHANGED (15 R409). -/
def wakeLand (also : Byte) (s : State) : State :=
  let t := s.source 1 also
  if s.pwr.state = .run then t.raise 0x0207 [it1 1, it1 0, it1 t.aon.wakeCount] else t

def execWakeLand (also : Byte) (s : State) : Host.Outcome State Fault Refusal := answer (wakeLand also s)

/-- The two-wire address of the device: 0x68 and the MA straps (15 R410). -/
def State.twoWireAddr (s : State) : Nat := 0x68 + s.aon.ma

/-- TWO_WIRE_ADDRESS_MATCH: source 2 in Sleep and Deep Sleep, with twi_en, where the address is the device's: the address is acknowledged
and the byte after it refused; Off answers nothing (15 R409, R410). DEDUCED (log entry 78): the acknowledgement does not depend on
twi_en. -/
def twoWireMatch (addr : Nat) (also : Byte) (s : State) : State :=
  if addr ≠ s.twoWireAddr ∨ s.pwr.state = .off then s
  else if s.pwr.state = .sleep ∨ s.pwr.state = .deepSleep then (s.put (.twoWireAck [true, false])).source 2 also
  else (s.put (.twoWireAck [true])).wakeLater 2 also

def execTwoWireAddressMatch (addr : BitVec 7) (also : Byte) (s : State) : Host.Outcome State Fault Refusal :=
  answer (twoWireMatch addr.toNat also s)

/-- The link state of the PCI Express link (15 R404). -/
def State.pcieLink (s : State) : PcieLink :=
  match s.pwr.state with
  | .run => .l0
  | .idle => if s.hif.pci.aspm then .l1 else .l0
  | .sleep => if s.hif.pci.aspm then .l1 else .l0
  | .deepSleep => .off
  | .off => .off

/-- LINK_L1_EXIT, where the link is in L1: source 4 in Idle, and in Sleep with pcie_en (15 R409). -/
def execLinkL1Exit (also : Byte) (s : State) : Host.Outcome State Fault Refusal :=
  answer (if s.pcieLink = .l1 then s.resumeBy 4 also else s)

/-- PERST_DEASSERT: source 6 in Deep Sleep and Off, and during their entry (15 R407 to R409). -/
def execPerstDeassert (also : Byte) (s : State) : Host.Outcome State Fault Refusal := answer (s.source 6 also)

/-- DEEP_SLEEP_SUPPLY_LOSS: every retained bank is lost (15 R416). -/
def execDeepSleepSupplyLoss (s : State) : Host.Outcome State Fault Refusal :=
  answer (if s.pwr.state = .deepSleep then { s with eng := [] } else s)

/-- The bytes of the two-wire status (15 R410). -/
def State.twoWireByte (s : State) (k : Nat) : Byte :=
  let b (n : Nat) : Byte := BitVec.ofNat 8 n
  let p := s.powerP / 100
  if k = 0 then b s.pwr.state.code
  else if k = 1 then b (s.aon.wakeSrc + 16 * s.aon.wakeFrom)
  else if k = 2 then b s.pwr.railReq
  else if k = 3 then b (s.pwr.railReq / 256)
  else if k = 4 then b s.pwr.tj
  else if k = 5 then b (b2n s.pwr.warn + 2 * b2n s.pwr.overNow + 4 * b2n s.cfg.base + 8 * b2n s.tim.locked)
  else if k = 6 then b p
  else b (p / 256)

/-- The two-wire target takes part in transactions in Run and Idle (15 R410). -/
def State.twoWireOn (s : State) : Bool := decide (s.pwr.state = .run) || decide (s.pwr.state = .idle)

/-- TWO_WIRE_WRITE: the first byte is the pointer (15 R410). DESIGN CHOICE (log entry 78): every byte is acknowledged, and the pointer is
its number modulo 8. -/
def execTwoWireWrite (addr : BitVec 7) (bytes : List Byte) (s : State) : Host.Outcome State Fault Refusal :=
  answer (if s.twoWireOn && decide (addr.toNat = s.twoWireAddr) then
    { s with pwr := { s.pwr with twiPtr := match bytes with | [] => s.pwr.twiPtr | b :: _ => b.toNat % 8 } }.put
      (.twoWireAck (true :: bytes.map fun _ => true))
    else s)

/-- TWO_WIRE_READ: the address is acknowledged, and bytes follow from the pointer upward, wrapping after byte 7 (15 R410). -/
def execTwoWireRead (addr : BitVec 7) (count : Byte) (s : State) : Host.Outcome State Fault Refusal :=
  answer (if s.twoWireOn && decide (addr.toNat = s.twoWireAddr) then
    (s.put (.twoWireAck [true])).put (.twoWire ((List.range count.toNat).map fun k => s.twoWireByte ((s.pwr.twiPtr + k) % 8))) else s)

/-- Parcels of a mask that may change level now: no run is active in a site with engines in them (15 R419). -/
def State.freeParcels (s : State) (mask : Nat) : List Nat := (maskBits 32 mask).filter fun p => !s.parActive p

/-- The fabric may change level now (15 R419). -/
def State.fabricFree (s : State) : Bool := s.activeSites.isEmpty

/-- The level of a parcel as recorded (15 R417, R419). -/
def State.recordLevel (s : State) (l p : Nat) : State :=
  { s with pwr := { s.pwr with pclLevel := s.pwr.pclLevel.set (fun _ => topLevel) p l } }

/-- A parcel that is on changes level: its clock, and the applied offsets of its channels to 0 (15 R420, 07 R213). -/
def State.parcelToLevel (s : State) (l p : Nat) : State :=
  (s.recordLevel l p).each (List.range 32) fun s k => s.modE (32 * p + k) fun x => { x with shift := 0 }

/-- The longest pause of the fabric clocks at a level change, in datum ticks: 40 µs (08 R240). -/
def levelPauseMax : Nat := usTicks 40

/-- The fabric changes level: its clocks stop for a time of at most 40 µs, at the end of which net 0 has the new rate; ratios, phases and
edge counts stay (08 R240, 15 R420). The length of the pause is a free value, long enough that no pulse is shortened; that it begins at the
change is a DESIGN CHOICE (log entry 66). -/
def State.fabricToLevel (s : State) (l : Nat) : State :=
  { s with pwr := { s.pwr with fabLevel := l },
           fab := { s.fab with pauseTo := if l = s.pwr.fabLevel then s.fab.pauseTo
                                          else s.tim.tick + min levelPauseMax (max 8 (Config.levelPause s.tim.tick)) } }

/-- A level job replaced, or removed (15 R420). -/
def State.setJob (s : State) (j : LevelJob) (k : Option LevelJob) : State :=
  { s with pwr := { s.pwr with jobs := match k with
      | some k => s.pwr.jobs.map (fun x => if x = j then k else x)
      | none => s.pwr.jobs.erase j } }

/-- Steps 2 to 4 of R420 for the domains of a job that may change now; with every named domain changed the descriptor completes (15
R419, R420). -/
def State.applyLevels (s : State) (j : LevelJob) : State :=
  let ps := s.freeParcels j.mask
  let fab := j.fabric && s.fabricFree
  let t := s.each ps (State.parcelToLevel · j.level ·)
  let t := if fab then t.fabricToLevel j.level else t
  let left := bitsMask ((maskBits 32 j.mask).filter fun p => !ps.contains p)
  if (j.fabric && !fab) = false ∧ left = 0 then
    ((t.setJob j none).railSync).finish j.desc { flags := b2n j.waited }
  else (t.setJob j (some { j with fabric := j.fabric && !fab, mask := left, waited := true, railWait := false })).railSync

/-- A level job goes on: it stays deferred while no named domain may change; a raised request waits for the rail sense, and so does a
target above the levels in use while another change waits for it (15 R419, R420). DEDUCED (log entry 49) of the last. -/
def State.tryLevels (s : State) (j : LevelJob) : State :=
  let any := !(s.freeParcels j.mask).isEmpty || (j.fabric && s.fabricFree)
  if j.railWait then s
  else if !any then s.setJob j (some { j with waited := true })
  else if s.pwr.railReq < levelMv j.level then
    ({ s with pwr := { s.pwr with railReq := levelMv j.level, reached := false } }).setJob j (some { j with railWait := true })
  else if decide (s.railInUse < levelMv j.level) && s.pwr.jobs.any (·.railWait) then s.setJob j (some { j with railWait := true })
  else s.applyLevels j

/-- PWR_LEVEL once started (15 R3, R418, R419). -/
def pwrLevel (i : DescId) (sel mask level : Nat) (s : State) : State :=
  if topLevel < level then (s.raise 0x0208 [it1 sel, it4 mask, it1 level]).finish i { status := 1, cause := 4 }
  else
    let named := if sel.testBit 1 then maskBits 32 mask else []
    let s := s.each (named.filter fun p => !s.parcelOn p) (State.recordLevel · level ·)
    let j : LevelJob := { desc := i, fabric := sel.testBit 0, mask := bitsMask (named.filter s.parcelOn), level := level,
                          waited := false, railWait := false }
    if j.fabric = false ∧ j.mask = 0 then s.finish i {}
    else ({ s with pwr := { s.pwr with jobs := s.pwr.jobs ++ [j] } }).tryLevels j

def execPwrLevel (d : DescRef) (sel : Byte) (mask : Word) (level : Byte) (s : State) : Host.Outcome State Fault Refusal :=
  answer (s.runChecked (descId d 0x41) (rowFields (.pwrLevel d sel mask level)) false
    (malformedCause (decide (4 ≤ sel.toNat)) (decide (4 ≤ level.toNat)) false) false fun k =>
      pwrLevel k sel.toNat mask.toNat level.toNat)

/-- The level job of a descriptor. -/
def State.jobAt (s : State) (ring index : Nat) : Option LevelJob :=
  s.pwr.jobs.find? fun j => j.desc.ring == ring && j.desc.index == index

/-- LEVEL_CHANGE: a deferral has ended (15 R419, R420). -/
def execLevelChange (ring : BitVec 6) (index : Word) (s : State) : Host.Outcome State Fault Refusal :=
  answer (match s.jobAt ring.toNat index.toNat with
    | some j => s.tryLevels j
    | none => s)

/-- RAIL_SENSE_REACHED: at least 97 % of the request; changes that wait for it go on (15 R420). -/
def railSenseReached (s : State) : State :=
  let s := { s with pwr := { s.pwr with reached := true } }
  (s.pwr.jobs.filter (·.railWait)).foldl (fun s j => s.applyLevels j) s

def execRailSenseReached (s : State) : Host.Outcome State Fault Refusal := answer (railSenseReached s)

/-- LEVEL_RAIL_TIMEOUT: the rail has not followed within 1 ms; PWR_LEVEL fails and changes no further level (15 R420). -/
def levelRailTimeout (ring index : Nat) (s : State) : State :=
  match s.jobAt ring index with
  | some j => if j.railWait then ((s.setJob j none).railSync).finish j.desc { status := 2, cause := 1, flags := b2n j.waited } else s
  | none => s

def execLevelRailTimeout (ring : BitVec 6) (index : Word) (s : State) : Host.Outcome State Fault Refusal :=
  answer (levelRailTimeout ring.toNat index.toNat s)

/-- What a clock switch after a wake from Sleep restarts (15 R414, 07 R220, 11 R335, 05 R161). -/
def State.restart (s : State) : State :=
  if s.pwr.fromSleep then
    let s := { s with pwr := { s.pwr with fromSleep := false, reverseBias := false }, dvm := { s.dvm with selfRefresh := false, toCentre := 2 ^ 32 - 1 },
                      fab := { s.fab with clocks := decide (2 ≤ s.cfg.phase) } }
    let s := s.beginFull
    s.each [0, 1, 2, 3] fun s l => if (s.reg (linkBase l)).testBit 0 then s.beginTrain l 0 else s
  else s

/-- CLK_SWITCH to the system clock completes: the PLL is locked (15 R414). -/
def State.clkDone (s : State) (i : DescId) : State :=
  ({ s with pwr := { s.pwr with coreClk := true } }).finish i { result := leBytes 1 1 }

/-- CLK_SWITCH_PLL once started: with the PLL locked it completes at once, otherwise the PLL is started and lock waited for (15 R414, 16
R444). -/
def clkSwitchPll (i : DescId) (ref10 : Bool) (s : State) : State :=
  if s.tim.locked then s.clkDone i
  else
    let s := if s.pwr.pllOn then s else { s with pwr := { s.pwr with pllOn := true, ref10 := ref10 } }
    { s with pwr := { s.pwr with clkWait := some i } }

/-- CLK_SWITCH_PLL (15 R414). A second one waits for the first. -/
def execClkSwitchPll (d : DescRef) (ref10 : Bool) (s : State) : Host.Outcome State Fault Refusal :=
  answer (if s.pwr.clkWait.isSome then s else s.runDesc (descId d 0x42) (rowFields (.clkSwitchPll d ref10)) false fun k => clkSwitchPll k ref10)

/-- CLK_SWITCH_FIO: the core moves to FIO and the PLL is left running (15 R414). -/
def execClkSwitchFio (d : DescRef) (s : State) : Host.Outcome State Fault Refusal :=
  answer (s.runDesc (descId d 0x42) (rowFields (.clkSwitchFio d)) false fun k s =>
    ({ s with pwr := { s.pwr with coreClk := false } }).finish k { result := leBytes 1 (b2n s.tim.locked) })

/-- CLK_SWITCH_TIMEOUT: no lock within 1 ms (15 R414). -/
def execClkSwitchTimeout (s : State) : Host.Outcome State Fault Refusal :=
  answer (match s.pwr.clkWait with
    | some i => { s with pwr := { s.pwr with clkWait := none } }.finish i { status := 5, result := leBytes 1 0 }
    | none => s)

/-- PLL_LOCK: the tick PLL locks, after a start or after a loss (01 R23, 13 R369, 15 R414). -/
def pllLock (s : State) : State :=
  if !s.pwr.pllOn || s.tim.locked || !s.ctlOn then s
  else
    let s := { s with tim := { s.tim with locked := true, degraded := false, started := true } }
    let s := s.restart
    match s.pwr.clkWait with
    | some i => { s with pwr := { s.pwr with clkWait := none } }.clkDone i
    | none => s

def execPllLock (s : State) : Host.Outcome State Fault Refusal := answer (pllLock s)

/-- The loss of the tick PLL stops a run at once, since no tick is left to count: reason 5, unless a stop had taken effect by then
(01 R23, 02 R64, 05 R145). -/
def State.lossStop (s : State) (n : Nat) : State :=
  match s.run n with
  | none => s
  | some r =>
    if !r.stoppable then s
    else
      let v := s.siteTick r
      let s := siteStop n (s.requestStop n 5 (v - 6 * r.div))
      (s.each (s.engines n) fun s e => s.stopEngine n r e v).checkEnd n

/-- PLL_LOST: every running site aborts and every channel is safe; the counter goes on by SYSCLK (01 R23, 02 R64, 13 R369, 15 R425). -/
def pllLost (s : State) : State :=
  if !s.tim.locked then s
  else
    let s := s.raise 0x0209 [itTime s.stampNow]
    let s := s.each s.activeSites State.lossStop
    let s := s.each (s.eng.map (·.1)) fun s e => s.modE e Engine.toSafe
    { s with tim := { s.tim with locked := false, degraded := true } }.raise 0x0607 []

def execPllLost (s : State) : Host.Outcome State Fault Refusal := answer (pllLost s)

/-- PCL_POWER_ON (15 R417). -/
def execPclPowerOn (d : DescRef) (mask : Word) (s : State) : Host.Outcome State Fault Refusal :=
  answer (s.runDesc (descId d 0x43) (rowFields (.pclPowerOn d mask)) false fun k s =>
    ((s.each (maskBits 32 mask.toNat) State.switchOn).railSync).finish k {})

/-- PCL_POWER_OFF: refused while an engine of a named parcel is in a site (15 R417, 01 R26). -/
def execPclPowerOff (d : DescRef) (mask : Word) (s : State) : Host.Outcome State Fault Refusal :=
  let l := maskBits 32 mask.toNat
  answer (s.runDesc (descId d 0x43) (rowFields (.pclPowerOff d mask)) false fun k s =>
    if l.any (fun p => !(s.sitesOf p).isEmpty) then s.finish k { status := 1 }
    else ((s.each l State.switchOff).railSync).finish k {})

end Sys2Proof.Machine
end

