-- ==== Sys2Proof/Machine/Supply.lean ====
section
/-! DEFINITION. Supply monitors (15 R422 to R424), the budget arbiter's updates (15 R426 to R428) and temperature (16 R449). -/

namespace Sys2Proof.Machine

/-- The states in which the monitors watch (15 R422). -/
def State.monitored (s : State) : Bool := s.ctlOn

/-- A reading lies below the warning threshold of its rail: 94 % of the VCORE request, of the lower one while a level change moves it, of
1.8 V for VAUX and of 1.2 V for VCH (15 R422). -/
def State.belowWarn (s : State) (rail mv : Nat) : Bool :=
  decide (100 * mv < 94 * (if rail = 0 then min s.pwr.railReq s.railInUse else if rail = 1 then 1800 else 1200))

/-- A reading of VAUX or VCH lies below the fault threshold, 88 % (15 R422). -/
def belowFault (vch : Bool) (mv : Nat) : Bool := decide (100 * mv < 88 * (if vch then 1200 else 1800))

/-- The warning bit of a rail: 0 VCORE, 1 VAUX, 2 VCH (15 R430). -/
def State.setWarn (s : State) (rail : Nat) : State :=
  { s with pwr := { s.pwr with vcoreWarn := s.pwr.vcoreWarn || decide (rail = 0), vauxWarn := s.pwr.vauxWarn || decide (rail = 1),
                               vchWarn := s.pwr.vchWarn || decide (rail = 2) } }

/-- A supply-warning interval begins (15 R423, R427, 09 R275). -/
def State.beginWarn (s : State) (rail point mv : Nat) : State :=
  let s := s.raise 0x0201 [it1 rail, it1 point, it2 mv]
  let s := s.setReg 0x200028 (s.reg 0x200028 ||| 0x4000)
  let s := { s with nvm := { s.nvm with supplyHold := true },
                    pwr := { s.pwr with warn := true, warnFrom := s.tim.tick, warnCount := s.pwr.warnCount + 1,
                                        firstPoint := if rail = 0 then point else s.pwr.firstPoint,
                                        grantNvm := 0, grantScrub := false, grantRefresh := false } }
  let s := s.suspendAll true
  s.each s.activeSites fun s n => s.modRun n fun r => if r.stoppable then { r with flagWarn := true } else r

/-- SUPPLY_WARN (15 R422, R423): a later monitor of the same interval is only recorded. -/
def supplyWarn (rail point mv : Nat) (s : State) : State :=
  if !s.monitored || !s.belowWarn rail mv then s
  else
    let s := s.setWarn rail
    if s.pwr.warn then s else s.beginWarn rail point mv

def execSupplyWarn (rail : Fin 3) (point : Fin 34) (mv : BitVec 16) (s : State) : Host.Outcome State Fault Refusal :=
  answer (supplyWarn rail.val point.val mv.toNat s)

/-- Nanoseconds of a number of datum ticks (01, clock table). -/
def ticksNs (n : Nat) : Nat := 2 * n / 3

/-- SUPPLY_CLEAR: the interval ends; flash operations resume within the grants, or are held where auto_resume is 0 (15 R423, R424, 09
R275). -/
def supplyClear (s : State) : State :=
  if !s.pwr.warn then s
  else
    let s := s.raise 0x0202 [it4 (ticksNs (s.tim.tick - s.pwr.warnFrom))]
    let s := { s with nvm := { s.nvm with supplyHold := false },
                      pwr := { s.pwr with warn := false, warnTo := s.tim.tick, vcoreWarn := false, vauxWarn := false,
                                          vchWarn := false, vauxFault := false, vchFault := false } }
    if (s.reg 0x400004).testBit 0 then ({ s with nvm := { s.nvm with heldAfter := false } }).balance
    else if s.nvm.queue.any (fun q => q.2.any (fun o => o.started && o.suspended)) then
      { s with nvm := { s.nvm with heldAfter := true } }.raise 0x0407 []
    else s

def execSupplyClear (s : State) : Host.Outcome State Fault Refusal := answer (supplyClear s)

/-- SUPPLY_FAULT: VAUX or VCH below its fault threshold, hence below its warning threshold too; every site with a run active stops with
reason 3, with tick 0 at the crossing (15 R422 to R424). -/
def supplyFault (vch : Bool) (mv : Nat) (s : State) : State :=
  if !s.monitored || !belowFault vch mv then s
  else
    let s := supplyWarn (if vch then 2 else 1) 0 mv s
    let s := s.setReg 0x200038 (s.reg 0x200038 ||| (if vch then 0x10 else 8))
    let s := { s with pwr := { s.pwr with vauxFault := s.pwr.vauxFault || !vch, vchFault := s.pwr.vchFault || vch } }
    (s.abortAll 3).raise 0x0203 [it1 (if vch then 2 else 1), it2 mv]

def execSupplyFault (vch : Bool) (mv : BitVec 16) (s : State) : Host.Outcome State Fault Refusal :=
  answer (supplyFault vch mv.toNat s)

/-- Package power of an update in mW: the sum over the rails of current and voltage (15 R426). -/
def railPower (l : List RailTel) : Nat := (l.map fun r => r.ma10.toNat * r.mv.toNat).sum / 100

/-- The first rail whose latest current is above its limit (15 R426). -/
def State.railOver (s : State) (l : List RailTel) : Option Nat :=
  (List.range 8).find? fun r =>
    let limit := s.regF (0x200080 + 4 * r) 0 16
    match l[r]? with
    | some x => decide (limit ≠ 0) && decide (limit < x.ma10.toNat)
    | none => false

/-- P is above B, or a rail above its limit (15 R426). -/
def State.overBudget (s : State) (l : List RailTel) : Bool := decide (s.pwr.budget * 1000 < s.powerP) || (s.railOver l).isSome

/-- One revoking step: the pump grant halves down to 0, then the scrub grant goes, then the refresh margin (15 R427). -/
def State.revokeStep (s : State) : State :=
  if 0 < s.pwr.grantNvm then { s with pwr := { s.pwr with grantNvm := s.pwr.grantNvm / 2 } }.balance
  else if s.pwr.grantScrub then { s with pwr := { s.pwr with grantScrub := false } }
  else { s with pwr := { s.pwr with grantRefresh := false } }

/-- No grant is left to revoke. -/
def State.noGrants (s : State) : Bool := decide (s.pwr.grantNvm = 0) && !s.pwr.grantScrub && !s.pwr.grantRefresh

/-- A step's added charge leaves P within B less hyst (15 R427). -/
def State.affords (s : State) (charge : Nat) : Bool :=
  decide (s.powerP + charge + s.regF 0x200024 0 8 * 1000 ≤ s.pwr.budget * 1000)

/-- The pump grant after one restoring step (15 R427). -/
def State.nextGrant (s : State) : Nat := min s.nvmMax (max 1 (2 * s.pwr.grantNvm))

/-- One restoring step: the refresh margin, then the scrub grant, then the pump grant (15 R427). -/
def State.restoreStep (s : State) : State :=
  if !s.pwr.grantRefresh then
    (let t := { s with pwr := { s.pwr with grantRefresh := true } }
     if s.affords (200 * t.marginSteps) then t else s)
  else if !s.pwr.grantScrub then
    (if s.affords (if s.scb.trav.isSome then 800 else 0) then { s with pwr := { s.pwr with grantScrub := true } } else s)
  else if s.pwr.grantNvm < s.nvmMax then
    (if s.affords (150 * (s.nextGrant - s.pwr.grantNvm)) then
      { s with pwr := { s.pwr with grantNvm := s.nextGrant } }.balance else s)
  else if s.nvmMax < s.pwr.grantNvm then { s with pwr := { s.pwr with grantNvm := s.nvmMax } }.balance
  else s

/-- The arbiter's step of an update (15 R427). -/
def State.arbiterStep (s : State) (l : List RailTel) : State :=
  if s.overBudget l || s.pwr.warn then
    if !s.noGrants then s.revokeStep
    else if s.overBudget l then
      let t := { s with pwr := { s.pwr with overB := true, overRaised := true } }
      let t := t.setReg 0x200028 (t.reg 0x200028 ||| 0x1000)
      if s.pwr.overRaised then t
      else t.raise 0x0205 [it2 (s.powerP / 10), it2 (s.pwr.budget * 100),
        it1 ((s.railOver l).getD (Config.overRail s.tim.tick).toNat)]
    else { s with pwr := { s.pwr with overB := false, overRaised := false } }
  else { s with pwr := { s.pwr with overB := false, overRaised := false } }.restoreStep

/-- Grade maximum of Tj in °C (00 R2). -/
def tjMax : Int := if Config.gradeX then 110 else 100

/-- What an update measures: rails, P and its peak, Tj, the budget in force, and the highest P of every run (15 R426, R429, R430, 16
R449). -/
def State.measure (s : State) (l : List RailTel) (tj : Nat) : State :=
  let s := { s with pwr := { s.pwr with
    telP := (railPower l :: s.pwr.telP).take 10, budget := s.budgetW, tj := tj,
    railMa := (List.range 8).foldl (fun m r => SMap.set zeroNat m r ((l.map fun (x : RailTel) => x.ma10.toNat).getD r 0)) ([] : SMap Nat),
    railMv := (List.range 8).foldl (fun m r => SMap.set zeroNat m r ((l.map fun (x : RailTel) => x.mv.toNat).getD r 0)) ([] : SMap Nat),
    tempWarn := s.pwr.tempWarn && decide (tjMax - 5 < signed 8 tj) } }
  let s := { s with pwr := { s.pwr with peak := max s.pwr.peak s.powerP } }
  s.each s.activeSites fun s n => s.modRun n fun r => if r.waiting then r else { r with pMax := max r.pMax s.powerP }

/-- TELEMETRY_UPDATE: every 10 µs the arbiter measures, takes one step, and evaluates deferred starts again (15 R426 to R428). DESIGN CHOICE
(log entry 47): in Off the row tells, after a thermal trip, that Tj has fallen below 95 °C (16 R449). -/
def telemetryUpdate (l : List RailTel) (tj : Nat) (s : State) : State :=
  if s.pwr.state ≠ .run ∧ s.pwr.state ≠ .idle then
    { s with aon := { s.aon with hot := s.aon.hot && decide (95 ≤ signed 8 tj) } }
  else
    let s := s.measure l tj
    let s := ({ s with pwr := { s.pwr with overNow := s.overBudget l } }).arbiterStep l
    s.each (s.activeSites.filter fun n => match s.run n with | some r => r.phase = .deferred | none => false)
      fun s n => s.admitRun n false

def execTelemetryUpdate (rails : List RailTel) (tj : Byte) (s : State) : Host.Outcome State Fault Refusal :=
  answer (telemetryUpdate rails tj.toNat s)

/-- THERMAL_WARN: once, until Tj has been 5 °C below the grade's maximum (16 R449). -/
def execThermalWarn (tj : Byte) (s : State) : Host.Outcome State Fault Refusal :=
  answer (if s.monitored && !s.pwr.tempWarn && decide (tjMax < signed 8 tj.toNat) then
    { s with pwr := { s.pwr with tempWarn := true } }.raise 0x020B [it1 tj.toNat] else s)

/-- THERMAL_TRIP: every site with a run active stops with reason 3; the event is written if an event ring has space (16 R449). -/
def thermalTrip (s : State) : State :=
  if !s.monitored || s.pwr.tripped then s
  else ({ s with pwr := { s.pwr with tripped := true } }.abortAll 3).raise 0x020C []

def execThermalTrip (s : State) : Host.Outcome State Fault Refusal := answer (thermalTrip s)

/-- THERMAL_TRIP_OFF: 10 µs after a trip the device powers down to Off without a command (16 R449). -/
def execThermalTripOff (s : State) : Host.Outcome State Fault Refusal :=
  answer (if s.pwr.tripped then { s with aon := { s.aon with hot := true } }.powerDown .off else s)

end Sys2Proof.Machine
end

