-- ==== Sys2Proof/Machine/RegWrite.lean ====
section
/-! DEFINITION. REGISTER_WRITE: a host write to BAR0 by the register's access type (00 R9 to R11, 01 R27 to R29). A register that has
a row of its own does the same when it is written here. -/

namespace Sys2Proof.Machine

/-- A register's RW bits take the value written, its W1C bits written 1 are cleared (00 R9, R10). -/
def State.storeReg (s : State) (off v : Nat) (r : RegInfo) : State :=
  let old := s.reg off
  let kept := (old - (old &&& r.rw)) - ((old - (old &&& r.rw)) &&& (v &&& r.w1c))
  s.setReg off (kept + (v &&& r.rw))

/-- The site and valid bit of a slot of SXL_LINKn_LSITE (05 R168). -/
def lsiteSlot (v k : Nat) : Nat × Bool := (fld v (8 * k) 6, v.testBit (8 * k + 7))

/-- A write of SXL_LINKn_LSITE changes a slot of a site with a run active (05 R168). -/
def State.lsiteHeld (s : State) (old v : Nat) : Bool :=
  [0, 1, 2].any fun k =>
    let a := lsiteSlot old k
    let b := lsiteSlot v k
    decide (a ≠ b) && ((a.2 && s.active a.1) || (b.2 && s.active b.1))

/-- The engine item of REG_WRITE_IN_RUN where a register's guard holds; none where the write goes through (01 R27). -/
def State.guarded (s : State) (off v : Nat) (r : RegInfo) : Option Nat :=
  match r.guard with
  | .free => none
  | .engine e => if s.engActive e then some e else none
  | .channel e => if s.engActive e then some 0xFFFF else none
  | .parcel p => if s.parActive p then some 0xFFFF else none
  | .lsite _ => if s.lsiteHeld (s.reg off) (v &&& r.rw) then some 0xFFFF else none

/-- A bit of a write calls for an action. -/
def onBit (v k : Nat) (f : State → State) (s : State) : State := if v.testBit k then f s else s

/-- Registers of an engine that act when they are written: PCL_STR_CTL and PCL_STR_CMD (06 R185, R189, R191). -/
def engWrite (e o v : Nat) : Option (State → State) :=
  if o = 0x220 then some (ringUnitsWrite e v)
  else if o = 0x234 then some fun s => onBit v 1 (streamRestart e) (onBit v 0 (vqFlush e) s)
  else none

/-- Registers of a parcel that act when they are written, and those whose W1C bits lie in the parcel's state (04 R135, 06 R200, 07
R217, R218, 08 R257). -/
def parWrite (p o v : Nat) : Option (State → State) :=
  if o = 0x2000C then some fun s =>
    s.modF p fun f => { f with overrun := f.overrun && !v.testBit 0, logLoss := f.logLoss && !v.testBit 2 }
  else if o = 0x22010 then some fun s => onBit v 1 (cqRestart p) (onBit v 0 (cqFlush p) s)
  else if o = 0x22020 then some (onBit v 0 (fqFlush p))
  else if 0x23000 ≤ o ∧ o < 0x24000 then some (calDskWrite (parBase p + o) v)
  else if 0x24000 ≤ o ∧ o < 0x24040 ∧ o % 0x10 = 0 then some (calTagWrite p ((o - 0x24000) / 0x10) v)
  else if o = 0x24104 then some fun s => s.modP p fun x =>
    { x with statTemp := x.statTemp && !v.testBit 9, statUncal := x.statUncal && !v.testBit 10, statLim := x.statLim && !v.testBit 11 }
  else if o = 0x25008 then some fun s =>
    if v % 4 = 0 then s
    else s.portCmd p fun s =>
      onBit v 1 (fun s => s.emptyMq p) (onBit v 0 (fun s => s.emptyBufs p) s)
  else if o = 0x2500C then some fun s => s.modP p fun x =>
    { x with ppOvfS := x.ppOvfS && !v.testBit 8, mqOvf := x.mqOvf && !v.testBit 9 }
  else if o = 0x25010 then some fun s => s.modP p fun x => { x with ppOvf := x.ppOvf - (x.ppOvf &&& v) }
  else none

/-- Registers of the host interface that act or are guarded when they are written (12 R347, R349, R352). -/
def hifWrite (o v : Nat) : Option (State → State) :=
  if 0x1000 ≤ o ∧ o < 0x1000 + 0x20 * 144 then
    (let n := (o - 0x1000) / 0x20
     if o % 0x20 = 8 then some (if v.testBit 31 then ringEnable n v else ringDisable n v)
     else if o % 0x20 ∈ [0, 4, 0x10, 0x14] then some fun s =>
       if (s.ring n).en then s.accessError o 3
       else (match regInfo o with | some r => s.storeReg o v r | none => s)
     else none)
  else if 0xA000 ≤ o ∧ o < 0xA800 ∧ o % 0x10 = 0xC then some fun s =>
    (s.setReg o (v % 2)).sendPending
  else none

/-- TIM_CMD; of set and adjust together, set is applied (13 R372 to R378). -/
def timCmdWrite (v : Nat) (s : State) : State :=
  let force := v.testBit 2
  let s := if v.testBit 0 then s.timStep .set force else onBit v 1 (·.timStep .adjust force) s
  let s := onBit v 4 State.timDisarm (onBit v 3 State.timArm s)
  onBit v 5 (fun s => s.timPtm) s

/-- Registers of the other blocks that act when they are written, or that another field holds; a change of NVM_CTL's limit suspends or
resumes flash operations (09 R267). -/
def blockWrite (off v : Nat) : Option (State → State) :=
  if off = 0x100014 then some (devGenWrite v)
  else if off = 0x100020 then some (devReset v)
  else if off = 0x200004 then some (pwrCmdWrite v)
  else if off = 0x20000C then some fun s => { s with aon := { s.aon with wakeEn := v % 8 } }
  else if off = 0x300004 then some (cfgStartOk v)
  else if off = 0x300008 then some (cfgBootPolicyWrite v)
  else if off = 0x30000C then some (cfgKeyPolicyWrite v)
  else if off = 0x300010 then some fun s =>
    { s with keys := { s.keys with tamper := s.keys.tamper && !v.testBit 5, vbatLost := s.keys.vbatLost && !v.testBit 6 } }
  else if off = 0x300028 then some (cfgJtagCtlWrite v)
  else if off = 0x400004 then some fun s => (match regInfo off with | some r => s.storeReg off v r | none => s).balance
  else if off = 0x500000 then some (scbCtlWrite v)
  else if off = 0x500004 then some fun s => onBit v 1 scbRestartCmd (onBit v 0 scbRecover s)
  else if off = 0x600008 then some (timCmdWrite v)
  else if off = 0x60000C then some (timRateWrite v)
  else if 0x700000 ≤ off ∧ off < 0x700180 then some (pinFuncWrite ((off - 0x700000) / 4) v)
  else if off = 0x700300 then some fun s => pinLockKeyWrite v (Config.lockCycles s.tim.tick) s
  else if 0x700310 ≤ off ∧ off < 0x70031C then some fun s =>
    pinLockWrite ((off - 0x700310) / 4) v (Config.lockCycles s.tim.tick) s
  else if off = 0x700510 ∨ off = 0x700514 then some fun s =>
    let k := (off - 0x700510) / 4
    let s := s.setReg off (v &&& 0x3F03)
    if v.testBit 0 then s else { s with pins := { s.pins with runOut := s.pins.runOut.set noFlag k false } }
  else if 0x700600 ≤ off ∧ off < 0x700640 ∧ off % 0x10 = 4 then some (spiDataWrite ((off - 0x700600) / 0x10) v)
  else if 0x700F00 ≤ off ∧ off < 0x700F10 then some (pinFailoutClear ((off - 0x700F00) / 4) v)
  else if 0x800100 ≤ off ∧ off < 0x800200 ∧ off % 0x40 = 0 then some (linkCtl ((off - 0x800100) / 0x40) v)
  else if off = 0x900010 then some (onBit v 0 partCommit)
  else if off = 0x900014 then some (retrainRequest v)
  else none

/-- What writing the register at an offset does, where it is more than storing (00 R9). -/
def specialWrite (off v : Nat) : Option (State → State) :=
  if 0x1000000 ≤ off then
    (let p := (off - 0x1000000) / 0x40000
     let r := off % 0x40000
     if r < 0x20000 then engWrite (32 * p + r / 0x1000) (r % 0x1000) v else parWrite p r v)
  else if off < 0x100000 then hifWrite off v
  else blockWrite off v

/-- The offset lies in a parcel's block (01 R29). -/
def inParcel (off : Nat) : Bool := decide (0x1000000 ≤ off) && decide (off < 0x1800000)

/-- An aligned 4-byte write of an assigned register of a domain that is on (00 R9 to R11, 01 R27). -/
def State.write32 (s : State) (off v : Nat) : State :=
  match regInfo off with
  | none => s
  | some r =>
    match specialWrite off v with
    | some f => f s
    | none => match s.guarded off v r with
      | some e => s.writeInRun e off
      | none => s.storeReg off v r

/-- The ring of a doorbell's block of 8 bytes. -/
def bellRing (off : Nat) : Option Nat := if 0x8000 ≤ off ∧ off < 0x8000 + 8 * 144 then some ((off - 0x8000) / 8) else none

/-- A doorbell written with an offset and size of its own (12 R350). -/
def bellWrite (n off size v : Nat) (s : State) : State :=
  if off % 8 ≠ 0 then s.accessError off 1
  else if n < 64 then commandDoorbell n size v s else consumerDoorbell n size v s

/-- A host write to BAR0 (00 R9, R11, 01 R28, R29, 15 R417): one of 8 bytes writes the lower register first. -/
def barWrite (off size v : Nat) (s : State) : State :=
  if (size ≠ 4 ∧ size ≠ 8) ∨ off % size ≠ 0 then s.accessError off 1
  else match bellRing off with
    | some n => bellWrite n off size v s
    | none =>
      if 0x1800000 ≤ off then fabWindowAccess (off - 0x1800000) size true v s
      else
        let reg := (regInfo off).isSome || (decide (size = 8) && (regInfo (off + 4)).isSome)
        if inParcel off && reg && !s.parcelOn ((off - 0x1000000) / 0x40000) then s.accessError off 7
        else
          let s := s.write32 off (v % 2 ^ 32)
          if size = 8 then s.write32 (off + 4) (v / 2 ^ 32) else s

/-- REGISTER_WRITE: a poisoned write is dropped and reported; a correctable error with it is counted by AER only (12 R366). -/
def execRegisterWrite (w : BarWrite) (s : State) : Host.Outcome State Fault Refusal :=
  answer (s.hostAccess fun s =>
    match w.err with
    | none => barWrite w.off.toNat w.size.toNat w.value.toNat s
    | some (u, c) => if u = 0 then barWrite w.off.toNat w.size.toNat w.value.toNat (s.pcieError u c) else s.pcieError u c)

end Sys2Proof.Machine
end

