-- ==== Sys2Proof/Machine/SideWord.lean ====
section
/-! DEFINITION. The lanes of a Sahoux link (05 R154): the side word received (R155 to R158) and sent, and the superframes that carry side
words, bulk blocks and training blocks. -/

namespace Sys2Proof.Machine

/-- The state bits of one superframe of a side word: three sites' fail, match and stop groups from a bit on (05 R155). -/
def sideGroups (w lo : Nat) : List (Nat × Nat × Nat) :=
  (List.range 3).map fun j => (fld w (lo + 4 * j) 4, fld w (lo + 12 + 4 * j) 4, fld w (lo + 24 + 4 * j) 4)

/-- The first datum tick that an arriving superframe covers, from its low four bits: its states are placed at most 16 ticks from now, L
after their own ticks, and the flight takes the rest of L (05 R155, R157, R162). -/
def State.baseTick (s : State) (lat base : Nat) : Nat :=
  let first := s.tim.tick - lat
  first + (base + 16 - s.tickNoAt first % 16) % 16

/-- A fail, match fail or stop bit of a site, placed on its fail bus at a datum tick by link l: it joins the fails of the site, as the
sample four ticks of the site before would, or asks for its stop (05 R157, R167). -/
def State.placeBits (s : State) (n l at_ : Nat) (fail mtch stop : Bool) : State :=
  match s.run n with
  | none => s
  | some r =>
    if !r.stoppable then s
    else
      let t : Int := -((((r.start : Int) - 4 * at_)) / r.div)
      let eng := 1024 + l
      let s := if fail then (s.modRun n fun r => { r with fails := r.fails ++ [(t - 4, eng)] }).failOutAt n r eng (t - 4) else s
      let s := if mtch then s.modRun n fun r => { r with mfails := r.mfails ++ [(t - 4, eng)] } else s
      if stop then s.modRun n (Run.addStop (if fail then 2 else 3) (r.vcoOf t - 4 * r.div)) else s

/-- The bits of one superframe placed L after their ticks, for each link-site slot in use, and passed on to the site's other links by
their link layer (05 R157). -/
def State.placeSide (s : State) (l base n : Nat) (g : List (Nat × Nat × Nat)) : State :=
  let x := s.link l
  s.each [0, 1, 2] fun s j =>
    match s.slotSite l j with
    | none => s
    | some site =>
      let q := g.getD j (0, 0, 0)
      s.each (List.range n) fun s i =>
        let at_ := base + i + x.lat
        let m := q.2.1.testBit i && decide (x.version ≠ 1)
        let s := s.placeBits site l at_ (q.1.testBit i) m (q.2.2.testBit i)
        let s := if q.1.testBit i then s.stamp site 0 (4 * at_) l else s
        let s := if m then s.stamp site 1 (4 * at_) l else s
        if q.2.2.testBit i then s.stamp site 2 (4 * at_) l else s

/-- A message byte, or the pause that ends a message; a run of bytes that is no good message is asked for again (05 R158). -/
def State.messageByte (s : State) (l : Nat) (mv : Bool) (b : Byte) : State :=
  let x := s.link l
  if mv then s.setLink l { x with msg := x.msg ++ [b] }
  else if x.msg.isEmpty then s
  else
    let good := decide (x.msg.length = 24) && decide (leAt x.msg 20 4 = (crc32c (x.msg.take 20)).toNat)
    let s := s.setLink l { x with msg := [] }
    if good then s else s.sendOn l 0x0E 0 x.rxSeq 0

/-- SIDE_WORD_RECEIVED: a good side word places its bits, and those of the word before it where that was bad; two bad words in a
row stop the link's sites and retrain the link (05 R155 to R158). -/
def sideWord (l w : Nat) (s : State) : State :=
  let x := s.link l
  if x.state ≠ 5 then s
  else
    let good := decide (fld w 96 32 = (crc32c (leBytes 12 w)).toNat)
    if good then
      let base := s.baseTick x.lat (fld w 0 4)
      let prevN := fld w 48 3
      let s := if x.badRun = 0 then s else s.placeSide l (base - prevN) prevN (sideGroups w 52)
      let s := s.placeSide l base (fld w 4 3) (sideGroups w 8)
      let s := s.setLink l { s.link l with badRun := 0 }
      s.messageByte l (w.testBit 7) (BitVec.ofNat 8 (fld w 88 8))
    else
      let s := s.setLink l { x with badRun := x.badRun + 1, badSide := satAdd 8 x.badSide 1 }
      if x.badRun = 0 then s else (s.raise 0x0803 [it1 l]).beginTrain l 6

def execSideWordReceived (link : LinkNo) (w : BitVec 128) (s : State) : Host.Outcome State Fault Refusal :=
  answer (sideWord link.toNat w.toNat s)

/-- The superframe that ends where datum tick t begins, if one does. -/
def frameEnding (t : Nat) : Option Nat :=
  let k := ceilDiv (32 * t) 99
  if k ≠ 0 ∧ frameTick k = t then some (k - 1) else none

/-- The group of one kind of state bits, for the three link-site slots of a link and the ticks of a superframe (05 R155, R157). Version 1
carries no match fails (05 R163). -/
def State.sideGroup (s : State) (l kind base n : Nat) : Nat :=
  if kind = 1 ∧ (s.link l).version = 1 then 0
  else ((List.range 3).map fun j =>
    match s.slotSite l j with
    | none => 0
    | some site => ((List.range n).map fun i =>
        if s.bus.any (fun b => b.site == site && b.kind == kind && b.tick == base + i && b.by_ != l) then 2 ^ (4 * j + i) else 0).sum).sum

/-- The three groups of a superframe, 36 bits. -/
def State.sideStates (s : State) (l base n : Nat) : Nat :=
  s.sideGroup l 0 base n + 2 ^ 12 * s.sideGroup l 1 base n + 2 ^ 24 * s.sideGroup l 2 base n

/-- The side word of superframe k on a link: its states, those of the superframe before, a message byte, and the check value (05
R155). -/
def State.sideOut (s : State) (l k : Nat) (b : Option Byte) : Nat :=
  let base := frameTick k
  let n := frameTick (k + 1) - base
  let prev := frameTick (k - 1)
  let low := s.tickNoAt base % 16 + 2 ^ 4 * n + 2 ^ 7 * b2n b.isSome + 2 ^ 8 * s.sideStates l base n + 2 ^ 48 * (base - prev) +
    2 ^ 52 * s.sideStates l prev (base - prev) + 2 ^ 88 * (b.getD 0).toNat
  low + 2 ^ 96 * (crc32c (leBytes 12 low)).toNat

/-- 64 bits through the scrambler x^58 + x^39 + 1, least significant first, with the last 58 scrambled bits (05 R154). -/
def scramble : Nat → Nat → Nat → Nat → Nat × Nat
  | 0, _, st, acc => (acc, st)
  | k + 1, d, st, acc =>
    let o := xor (d.testBit (63 - k)) (xor (st.testBit 38) (st.testBit 57))
    scramble k d ((2 * st + b2n o) % 2 ^ 58) (acc + 2 ^ (63 - k) * b2n o)

/-- A block of lane k: sync header 0b01 for data and 0b10 for control, then the scrambled payload; and the scrambler after it (05
R154). -/
def laneBlock (ctl : Bool) (payload st : Nat) : Nat × Nat :=
  let q := scramble 64 payload st 0
  ((if ctl then 2 else 1) + 4 * q.1, q.2)

/-- What the four lanes of a link carry in superframe k: in state 5 the side word on lanes 0 and 1 and two bulk blocks on lanes 2 and 3,
IDLE where nothing waits; in training the control blocks that wait on lanes 2 and 3 and otherwise TRAIN (05 R154, R159, R161). DESIGN
CHOICE (log entry 65): the places of control blocks in training. -/
def State.framePayloads (s : State) (l k : Nat) : List (Bool × Nat) :=
  let x := s.link l
  let fill (lane : Nat) : Bool × Nat := (true, if x.state = 5 then controlBlock 0 0 0 else controlBlock 1 lane 0)
  let bulk := [x.btx.getD 0 (fill 2), x.btx.getD 1 (fill 3)]
  if x.state = 5 then
    let w := s.sideOut l k (x.txq.headD none)
    [(false, w % 2 ^ 64), (false, w / 2 ^ 64)] ++ bulk
  else [fill 0, fill 1] ++ bulk

/-- The scrambler of a lane: what it holds before the first block is a free value. -/
def Link.scrambler (x : Link) (lane : Nat) : Nat := x.scr.getD lane (Config.scrambler lane % 2 ^ 58)

/-- A link sends superframe k while it trains or is up (05 R154, R161). -/
def State.sendFrame (s : State) (k l : Nat) : State :=
  let x := s.link l
  if x.state = 0 ∨ 6 ≤ x.state then s
  else
    let blocks := (s.framePayloads l k).mapIdx fun i q => laneBlock q.1 q.2 (x.scrambler i)
    (s.put (.superframe l (blocks.map (·.1)))).setLink l
      { x with btx := x.btx.drop 2, txq := if x.state = 5 then x.txq.drop 1 else x.txq, scr := blocks.map (·.2) }

/-- The superframe that ends at the present datum tick, if one does, goes out on the links; states older than it are done with (05 R154,
R155). -/
def State.sendFrames (s : State) : State :=
  match frameEnding s.tim.tick with
  | none => s
  | some k =>
    let s := s.each [0, 1, 2, 3] fun s l => s.sendFrame k l
    { s with bus := s.bus.filter (fun b => decide (frameTick k ≤ b.tick)) }

end Sys2Proof.Machine
end

