-- ==== Sys2Proof/Machine/Words.lean ====
section
/-! DEFINITION. The words of the engine instruction set as commands (03): each is encoded as R75 and R76 lay down and executes on
its engine as the word read from local memory at that place would. -/

namespace Sys2Proof.Machine

/-- The count operand of a word, bits [24:0] (03 R74). -/
def countField : CountOp → Nat
  | .imm n => n.toNat
  | .reg k => 2 ^ 24 + k.toNat

/-- A CNT word: q, op, destination and operand (03 R76). -/
def cntWord (q : Bool) (op d x : Nat) : Nat := 0x10 * 2 ^ 26 + q.toNat * 2 ^ 25 + op * 2 ^ 20 + d * 2 ^ 17 + x

/-- VEC (03 R70, R71, R72, R73: n periods, a slot for each; m masks their compares). -/
def execVec (e : EngineNo) (m : Bool) (n : CountOp) (s : State) : Host.Outcome State Fault Refusal :=
  answer (runWord e.toNat (0x01 * 2 ^ 26 + m.toNat * 2 ^ 25 + countField n) s)

/-- RPT (03 R70, R72: n periods that reapply the current slot). -/
def execRpt (e : EngineNo) (n : CountOp) (s : State) : Host.Outcome State Fault Refusal :=
  answer (runWord e.toNat (0x02 * 2 ^ 26 + countField n) s)

/-- WAIT (03 R70, R72: n periods that reapply the current slot with compares masked). -/
def execWait (e : EngineNo) (n : CountOp) (s : State) : Host.Outcome State Fault Refusal :=
  answer (runWord e.toNat (0x03 * 2 ^ 26 + countField n) s)

/-- LOOP (03 R77: a loop entry with its count). -/
def execLoop (e : EngineNo) (q : Bool) (n : CountOp) (s : State) : Host.Outcome State Fault Refusal :=
  answer (runWord e.toNat (0x04 * 2 ^ 26 + q.toNat * 2 ^ 25 + countField n) s)

/-- ENDL (03 R77: the end of the innermost loop). -/
def execEndl (e : EngineNo) (q : Bool) (s : State) : Host.Outcome State Fault Refusal :=
  answer (runWord e.toNat (0x05 * 2 ^ 26 + q.toNat * 2 ^ 25) s)

/-- CALL (03 R78: a return address and a transfer). -/
def execCall (e : EngineNo) (q : Bool) (target : BitVec 14) (s : State) : Host.Outcome State Fault Refusal :=
  answer (runWord e.toNat (0x06 * 2 ^ 26 + q.toNat * 2 ^ 25 + target.toNat) s)

/-- RET (03 R78: the return). -/
def execRet (e : EngineNo) (q : Bool) (s : State) : Host.Outcome State Fault Refusal :=
  answer (runWord e.toNat (0x07 * 2 ^ 26 + q.toNat * 2 ^ 25) s)

/-- JMP (03 R79: a transfer). -/
def execJmp (e : EngineNo) (q : Bool) (target : BitVec 14) (s : State) : Host.Outcome State Fault Refusal :=
  answer (runWord e.toNat (0x08 * 2 ^ 26 + q.toNat * 2 ^ 25 + target.toNat) s)

/-- BFL (03 R80 to R82: a branch on a fail condition). -/
def execBfl (e : EngineNo) (q n c : Bool) (cond : BitVec 3) (target : BitVec 14) (s : State) : Host.Outcome State Fault Refusal :=
  answer (runWord e.toNat (0x09 * 2 ^ 26 + q.toNat * 2 ^ 25 + n.toNat * 2 ^ 24 + c.toNat * 2 ^ 23 + cond.toNat * 2 ^ 20 + target.toNat) s)

/-- MATCH (03 R83, R85: a match body opens). -/
def execMatchOpen (e : EngineNo) (q sc : Bool) (limit : CountOp) (s : State) : Host.Outcome State Fault Refusal :=
  answer (runWord e.toNat (0x0A * 2 ^ 26 + q.toNat * 2 ^ 25 + sc.toNat * 2 ^ 23 + countField limit) s)

/-- ENDM (03 R84: a match iteration closes). -/
def execEndm (e : EngineNo) (q : Bool) (s : State) : Host.Outcome State Fault Refusal :=
  answer (runWord e.toNat (0x0B * 2 ^ 26 + q.toNat * 2 ^ 25) s)

/-- SYNC (03 R86: arrival at a site barrier). -/
def execSync (e : EngineNo) (q : Bool) (mask : BitVec 8) (s : State) : Host.Outcome State Fault Refusal :=
  answer (runWord e.toNat (0x0C * 2 ^ 26 + q.toNat * 2 ^ 25 + mask.toNat) s)

/-- TSET (03 R88: the timing set of the following periods). -/
def execTset (e : EngineNo) (q : Bool) (ts : BitVec 6) (s : State) : Host.Outcome State Fault Refusal :=
  answer (runWord e.toNat (0x0D * 2 ^ 26 + q.toNat * 2 ^ 25 + ts.toNat) s)

/-- SRC (03 R89: the vector source of the following periods). -/
def execSrc (e : EngineNo) (q p : Bool) (source : BitVec 2) (lptr : BitVec 13) (s : State) : Host.Outcome State Fault Refusal :=
  answer (runWord e.toNat (0x0E * 2 ^ 26 + q.toNat * 2 ^ 25 + p.toNat * 2 ^ 24 + source.toNat * 2 ^ 22 + lptr.toNat) s)

/-- MARK (03 R92: a marker record). -/
def execMark (e : EngineNo) (q : Bool) (id : BitVec 16) (s : State) : Host.Outcome State Fault Refusal :=
  answer (runWord e.toNat (0x0F * 2 ^ 26 + q.toNat * 2 ^ 25 + id.toNat) s)

/-- LDL (03 R93, R94: CNT op 0). -/
def execLdl (e : EngineNo) (q : Bool) (d : BitVec 3) (imm : BitVec 16) (s : State) : Host.Outcome State Fault Refusal :=
  answer (runWord e.toNat (cntWord q 0 d.toNat imm.toNat) s)

/-- LDH (03 R93, R94: CNT op 1). -/
def execLdh (e : EngineNo) (q : Bool) (d : BitVec 3) (imm : BitVec 16) (s : State) : Host.Outcome State Fault Refusal :=
  answer (runWord e.toNat (cntWord q 1 d.toNat imm.toNat) s)

/-- ADDI (03 R93, R94: CNT op 2). -/
def execAddi (e : EngineNo) (q : Bool) (d : BitVec 3) (imm : BitVec 16) (s : State) : Host.Outcome State Fault Refusal :=
  answer (runWord e.toNat (cntWord q 2 d.toNat imm.toNat) s)

/-- SUBI (03 R93, R94: CNT op 3). -/
def execSubi (e : EngineNo) (q : Bool) (d : BitVec 3) (imm : BitVec 16) (s : State) : Host.Outcome State Fault Refusal :=
  answer (runWord e.toNat (cntWord q 3 d.toNat imm.toNat) s)

/-- ADD (03 R93, R94: CNT op 4). -/
def execAdd (e : EngineNo) (q : Bool) (d src : BitVec 3) (s : State) : Host.Outcome State Fault Refusal :=
  answer (runWord e.toNat (cntWord q 4 d.toNat src.toNat) s)

/-- SUB (03 R93, R94: CNT op 5). -/
def execSub (e : EngineNo) (q : Bool) (d src : BitVec 3) (s : State) : Host.Outcome State Fault Refusal :=
  answer (runWord e.toNat (cntWord q 5 d.toNat src.toNat) s)

/-- MOV (03 R93, R94: CNT op 6). -/
def execMov (e : EngineNo) (q : Bool) (d src : BitVec 3) (s : State) : Host.Outcome State Fault Refusal :=
  answer (runWord e.toNat (cntWord q 6 d.toNat src.toNat) s)

/-- ANDI (03 R93, R94: CNT op 7). -/
def execAndi (e : EngineNo) (q : Bool) (d : BitVec 3) (imm : BitVec 16) (s : State) : Host.Outcome State Fault Refusal :=
  answer (runWord e.toNat (cntWord q 7 d.toNat imm.toNat) s)

/-- HALT (03 R95: the end of the engine's run). -/
def execHalt (e : EngineNo) (s : State) : Host.Outcome State Fault Refusal :=
  answer (runWord e.toNat (0x11 * 2 ^ 26) s)

end Sys2Proof.Machine
end

