-- ==== Sys2Proof/Machine/Dispatch.lean ====
section
/-! DEFINITION. One arm per command: a direct call of its meaning. -/

namespace Sys2Proof.Machine

def exec (i : Instr) (s : State) : Host.Outcome State Fault Refusal :=
  match i with
  | .registerWrite w => Sys2Proof.Machine.execRegisterWrite w s
  | .bar0AccessWake also => Sys2Proof.Machine.execBar0AccessWake also s
  | .fabWindowAccess off size write value => Sys2Proof.Machine.execFabWindowAccess off size write value s
  | .winAck data => Sys2Proof.Machine.execWinAck data s
  | .fabWindowTimeout => Sys2Proof.Machine.execFabWindowTimeout s
  | .devGenWrite value => Sys2Proof.Machine.execDevGenWrite value s
  | .devReset value => Sys2Proof.Machine.execDevReset value s
  | .ringEnable ring value => Sys2Proof.Machine.execRingEnable ring value s
  | .ringDisable ring value => Sys2Proof.Machine.execRingDisable ring value s
  | .commandDoorbell ring size value => Sys2Proof.Machine.execCommandDoorbell ring size value s
  | .consumerDoorbell ring size value => Sys2Proof.Machine.execConsumerDoorbell ring size value s
  | .descriptorFetch ring f => Sys2Proof.Machine.execDescriptorFetch ring f s
  | .completionWrite ring => Sys2Proof.Machine.execCompletionWrite ring s
  | .eventRecordWrite ring src => Sys2Proof.Machine.execEventRecordWrite ring src s
  | .interruptTimer ring => Sys2Proof.Machine.execInterruptTimer ring s
  | .load d dvm blocks => Sys2Proof.Machine.execLoad d dvm blocks s
  | .dvmRead d dvm out ecc => Sys2Proof.Machine.execDvmRead d dvm out ecc s
  | .sxlCopy d source dest blocks link ecc peerOk pb => Sys2Proof.Machine.execSxlCopy d source dest blocks link ecc peerOk pb s
  | .cqPush d p blocks => Sys2Proof.Machine.execCqPush d p blocks s
  | .cqPushPacket p corrupt => Sys2Proof.Machine.execCqPushPacket p corrupt s
  | .localLoad d p mask offset length blocks => Sys2Proof.Machine.execLocalLoad d p mask offset length blocks s
  | .localRead d e offset length out => Sys2Proof.Machine.execLocalRead d e offset length out s
  | .siteForm d site block => Sys2Proof.Machine.execSiteForm d site block s
  | .siteDissolve d site => Sys2Proof.Machine.execSiteDissolve d site s
  | .runStart d site timed lateOk timeout est t => Sys2Proof.Machine.execRunStart d site timed lateOk timeout est t s
  | .prerollMet site => Sys2Proof.Machine.execPrerollMet site s
  | .prerollTimeout site => Sys2Proof.Machine.execPrerollTimeout site s
  | .startCommit site => Sys2Proof.Machine.execStartCommit site s
  | .runStarted site => Sys2Proof.Machine.execRunStarted site s
  | .runAbort d site => Sys2Proof.Machine.execRunAbort d site s
  | .runReset d site => Sys2Proof.Machine.execRunReset d site s
  | .channelsLiveSet d => Sys2Proof.Machine.execChannelsLiveSet d s
  | .channelsLiveClear d => Sys2Proof.Machine.execChannelsLiveClear d s
  | .benchTake d id timed ovw fwd t => Sys2Proof.Machine.execBenchTake d id timed ovw fwd t s
  | .benchStrobe => Sys2Proof.Machine.execBenchStrobe s
  | .benchCapture => Sys2Proof.Machine.execBenchCapture s
  | .benchRead d id first count parts release out upto => Sys2Proof.Machine.execBenchRead d id first count parts release out upto s
  | .failMemRead d p area offset out => Sys2Proof.Machine.execFailMemRead d p area offset out s
  | .failMemClear d p area offset length => Sys2Proof.Machine.execFailMemClear d p area offset length s
  | .calMeasure d p sel launch aggr mask aggrMask reps spacing out seen => Sys2Proof.Machine.execCalMeasure d p sel launch aggr mask aggrMask reps spacing out seen s
  | .calLoad d p block => Sys2Proof.Machine.execCalLoad d p block s
  | .imageStage d slot source blocks => Sys2Proof.Machine.execImageStage d slot source blocks s
  | .stageBlock block dirs octal => Sys2Proof.Machine.execStageBlock block dirs octal s
  | .stageDone => Sys2Proof.Machine.execStageDone s
  | .extFlashTimeout => Sys2Proof.Machine.execExtFlashTimeout s
  | .switchOver d slot makePref => Sys2Proof.Machine.execSwitchOver d slot makePref s
  | .bootRetry d => Sys2Proof.Machine.execBootRetry d s
  | .keyFuseProgram d slot block vppOk => Sys2Proof.Machine.execKeyFuseProgram d slot block vppOk s
  | .keyFuseRevoke d slot => Sys2Proof.Machine.execKeyFuseRevoke d slot s
  | .keyRamLoad d slot block => Sys2Proof.Machine.execKeyRamLoad d slot block s
  | .keyRamClear d => Sys2Proof.Machine.execKeyRamClear d s
  | .readbackCapture d id net timed ovw t => Sys2Proof.Machine.execReadbackCapture d id net timed ovw t s
  | .readbackCaptureEdge => Sys2Proof.Machine.execReadbackCaptureEdge s
  | .readbackTimeout => Sys2Proof.Machine.execReadbackTimeout s
  | .readbackRead d id first count release out => Sys2Proof.Machine.execReadbackRead d id first count release out s
  | .nvmRead d off pages out reads => Sys2Proof.Machine.execNvmRead d off pages out reads s
  | .nvmProgram d off pages blocks => Sys2Proof.Machine.execNvmProgram d off pages blocks s
  | .nvmErase d off => Sys2Proof.Machine.execNvmErase d off s
  | .marginCheck d off pages level pass reads => Sys2Proof.Machine.execMarginCheck d off pages level pass reads s
  | .slotScan d slot level out fails => Sys2Proof.Machine.execSlotScan d slot level out fails s
  | .nvmSuspend d => Sys2Proof.Machine.execNvmSuspend d s
  | .nvmResume d => Sys2Proof.Machine.execNvmResume d s
  | .wearReport d out => Sys2Proof.Machine.execWearReport d out s
  | .pwrStateRun d => Sys2Proof.Machine.execPwrStateRun d s
  | .pwrStateIdle d => Sys2Proof.Machine.execPwrStateIdle d s
  | .pwrStateSleep d => Sys2Proof.Machine.execPwrStateSleep d s
  | .pwrStateDeepSleep d mask => Sys2Proof.Machine.execPwrStateDeepSleep d mask s
  | .pwrStateOff d => Sys2Proof.Machine.execPwrStateOff d s
  | .pwrCmdRun key => Sys2Proof.Machine.execPwrCmdRun key s
  | .pwrCmdIdle key => Sys2Proof.Machine.execPwrCmdIdle key s
  | .pwrCmdSleep key => Sys2Proof.Machine.execPwrCmdSleep key s
  | .pwrCmdDeepSleep key keepAll => Sys2Proof.Machine.execPwrCmdDeepSleep key keepAll s
  | .pwrCmdOff key => Sys2Proof.Machine.execPwrCmdOff key s
  | .pmeTurnOff => Sys2Proof.Machine.execPmeTurnOff s
  | .pmeWaitTimeout => Sys2Proof.Machine.execPmeWaitTimeout s
  | .pwrLevel d sel mask level => Sys2Proof.Machine.execPwrLevel d sel mask level s
  | .levelChange ring index => Sys2Proof.Machine.execLevelChange ring index s
  | .levelRailTimeout ring index => Sys2Proof.Machine.execLevelRailTimeout ring index s
  | .clkSwitchPll d ref10 => Sys2Proof.Machine.execClkSwitchPll d ref10 s
  | .clkSwitchFio d => Sys2Proof.Machine.execClkSwitchFio d s
  | .clkSwitchTimeout => Sys2Proof.Machine.execClkSwitchTimeout s
  | .pclPowerOn d mask => Sys2Proof.Machine.execPclPowerOn d mask s
  | .pclPowerOff d mask => Sys2Proof.Machine.execPclPowerOff d mask s
  | .vec e m n => Sys2Proof.Machine.execVec e m n s
  | .rpt e n => Sys2Proof.Machine.execRpt e n s
  | .wait e n => Sys2Proof.Machine.execWait e n s
  | .loop e q n => Sys2Proof.Machine.execLoop e q n s
  | .endl e q => Sys2Proof.Machine.execEndl e q s
  | .call e q target => Sys2Proof.Machine.execCall e q target s
  | .ret e q => Sys2Proof.Machine.execRet e q s
  | .jmp e q target => Sys2Proof.Machine.execJmp e q target s
  | .bfl e q n c cond target => Sys2Proof.Machine.execBfl e q n c cond target s
  | .matchOpen e q sr limit => Sys2Proof.Machine.execMatchOpen e q sr limit s
  | .endm e q => Sys2Proof.Machine.execEndm e q s
  | .sync e q mask => Sys2Proof.Machine.execSync e q mask s
  | .syncRelease site mask => Sys2Proof.Machine.execSyncRelease site mask s
  | .tset e q ts => Sys2Proof.Machine.execTset e q ts s
  | .src e q p source lptr => Sys2Proof.Machine.execSrc e q p source lptr s
  | .mark e q id => Sys2Proof.Machine.execMark e q id s
  | .ldl e q d imm => Sys2Proof.Machine.execLdl e q d imm s
  | .ldh e q d imm => Sys2Proof.Machine.execLdh e q d imm s
  | .addi e q d imm => Sys2Proof.Machine.execAddi e q d imm s
  | .subi e q d imm => Sys2Proof.Machine.execSubi e q d imm s
  | .add e q d sr => Sys2Proof.Machine.execAdd e q d sr s
  | .sub e q d sr => Sys2Proof.Machine.execSub e q d sr s
  | .mov e q d sr => Sys2Proof.Machine.execMov e q d sr s
  | .andi e q d imm => Sys2Proof.Machine.execAndi e q d imm s
  | .halt e => Sys2Proof.Machine.execHalt e s
  | .runEndCompletion site => Sys2Proof.Machine.execRunEndCompletion site s
  | .periodBoundary e obs => Sys2Proof.Machine.execPeriodBoundary e obs s
  | .siteStop site => Sys2Proof.Machine.execSiteStop site s
  | .mapRetire p => Sys2Proof.Machine.execMapRetire p s
  | .logRingAccept p => Sys2Proof.Machine.execLogRingAccept p s
  | .logSpill p => Sys2Proof.Machine.execLogSpill p s
  | .fqPacketSeal p corrupt ecc retry => Sys2Proof.Machine.execFqPacketSeal p corrupt ecc retry s
  | .failOutPulseEnd n => Sys2Proof.Machine.execFailOutPulseEnd n s
  | .stallRequest e => Sys2Proof.Machine.execStallRequest e s
  | .siteStall site => Sys2Proof.Machine.execSiteStall site s
  | .resumeCondition site => Sys2Proof.Machine.execResumeCondition site s
  | .siteResume site => Sys2Proof.Machine.execSiteResume site s
  | .msgRunPrep h agree => Sys2Proof.Machine.execMsgRunPrep h agree s
  | .msgReady h => Sys2Proof.Machine.execMsgReady h s
  | .msgRefuse h cause => Sys2Proof.Machine.execMsgRefuse h cause s
  | .msgStart h t => Sys2Proof.Machine.execMsgStart h t s
  | .msgCancel h => Sys2Proof.Machine.execMsgCancel h s
  | .msgStall h reason eng t => Sys2Proof.Machine.execMsgStall h reason eng t s
  | .msgClear h => Sys2Proof.Machine.execMsgClear h s
  | .msgResume h t => Sys2Proof.Machine.execMsgResume h t s
  | .msgArrive h mask => Sys2Proof.Machine.execMsgArrive h mask s
  | .msgRelease h mask t => Sys2Proof.Machine.execMsgRelease h mask t s
  | .msgDone h => Sys2Proof.Machine.execMsgDone h s
  | .msgStopReason h reason t => Sys2Proof.Machine.execMsgStopReason h reason t s
  | .msgBench h ovw id t => Sys2Proof.Machine.execMsgBench h ovw id t s
  | .msgResend h seq => Sys2Proof.Machine.execMsgResend h seq s
  | .timeTick h b rate => Sys2Proof.Machine.execTimeTick h b rate s
  | .timeVal h low t => Sys2Proof.Machine.execTimeVal h low t s
  | .sideWordReceived link w => Sys2Proof.Machine.execSideWordReceived link w s
  | .bulkPacket link words => Sys2Proof.Machine.execBulkPacket link words s
  | .train link lane number skew good => Sys2Proof.Machine.execTrain link lane number skew good s
  | .advertise link versions dev good => Sys2Proof.Machine.execAdvertise link versions dev good s
  | .ping link seq tick hold good => Sys2Proof.Machine.execPing link seq tick hold good s
  | .pong link seq round hold good => Sys2Proof.Machine.execPong link seq round hold good s
  | .credit link n good => Sys2Proof.Machine.execCredit link n good s
  | .ack link seq good => Sys2Proof.Machine.execAck link seq good s
  | .nak link seq good => Sys2Proof.Machine.execNak link seq good s
  | .trainDone link good => Sys2Proof.Machine.execTrainDone link good s
  | .blockLock link lane => Sys2Proof.Machine.execBlockLock link lane s
  | .linkTrainTimeout link => Sys2Proof.Machine.execLinkTrainTimeout link s
  | .linkEnable link value => Sys2Proof.Machine.execLinkEnable link value s
  | .sxlRetrain link value => Sys2Proof.Machine.execSxlRetrain link value s
  | .deferredRetrain link => Sys2Proof.Machine.execDeferredRetrain link s
  | .vqFlush e => Sys2Proof.Machine.execVqFlush e s
  | .streamRestart e => Sys2Proof.Machine.execStreamRestart e s
  | .cqFlush p => Sys2Proof.Machine.execCqFlush p s
  | .cqRestart p => Sys2Proof.Machine.execCqRestart p s
  | .fqFlush p => Sys2Proof.Machine.execFqFlush p s
  | .ringUnitsWrite e value => Sys2Proof.Machine.execRingUnitsWrite e value s
  | .bufFlush p => Sys2Proof.Machine.execBufFlush p s
  | .mqFlush p => Sys2Proof.Machine.execMqFlush p s
  | .streamPacket q ecc corrupt => Sys2Proof.Machine.execStreamPacket q ecc corrupt s
  | .streamRetry q ecc corrupt => Sys2Proof.Machine.execStreamRetry q ecc corrupt s
  | .dvmPartCommit => Sys2Proof.Machine.execDvmPartCommit s
  | .dvmRetrainRequest value => Sys2Proof.Machine.execDvmRetrainRequest value s
  | .dvmRetrain => Sys2Proof.Machine.execDvmRetrain s
  | .dvmTrained ok pc worst margin temp => Sys2Proof.Machine.execDvmTrained ok pc worst margin temp s
  | .dvmInitDone => Sys2Proof.Machine.execDvmInitDone s
  | .recenterPass pc forced margin worst temp => Sys2Proof.Machine.execRecenterPass pc forced margin worst temp s
  | .corrWindow => Sys2Proof.Machine.execCorrWindow s
  | .driftEvaluation p replica droops tj => Sys2Proof.Machine.execDriftEvaluation p replica droops tj s
  | .calDskWrite off value => Sys2Proof.Machine.execCalDskWrite off value s
  | .calTagWrite p entry value => Sys2Proof.Machine.execCalTagWrite p entry value s
  | .parcelPortWrite e data cnt sel => Sys2Proof.Machine.execParcelPortWrite e data cnt sel s
  | .mapQueueWrite p ma0 ma1 => Sys2Proof.Machine.execMapQueueWrite p ma0 ma1 s
  | .cqRead p => Sys2Proof.Machine.execCqRead p s
  | .regionIdle idle => Sys2Proof.Machine.execRegionIdle idle s
  | .fabricRamRead block portB word flips => Sys2Proof.Machine.execFabricRamRead block portB word flips s
  | .eccWriteBack block word => Sys2Proof.Machine.execEccWriteBack block word s
  | .gsrRelease badPages corrected high headerBad => Sys2Proof.Machine.execGsrRelease badPages corrected high headerBad s
  | .fabricClocksEnable => Sys2Proof.Machine.execFabricClocksEnable s
  | .parcelPortsEnable => Sys2Proof.Machine.execParcelPortsEnable s
  | .gpioBootExit => Sys2Proof.Machine.execGpioBootExit s
  | .cfgStartOk value => Sys2Proof.Machine.execCfgStartOk value s
  | .startOkSignal fabric pad => Sys2Proof.Machine.execStartOkSignal fabric pad s
  | .startConfirmTimeout => Sys2Proof.Machine.execStartConfirmTimeout s
  | .cfgBootPolicyWrite value => Sys2Proof.Machine.execCfgBootPolicyWrite value s
  | .cfgKeyPolicyWrite value => Sys2Proof.Machine.execCfgKeyPolicyWrite value s
  | .cfgJtagCtlWrite value => Sys2Proof.Machine.execCfgJtagCtlWrite value s
  | .tamper pin => Sys2Proof.Machine.execTamper pin s
  | .vbatLost => Sys2Proof.Machine.execVbatLost s
  | .flashOpStart bank read => Sys2Proof.Machine.execFlashOpStart bank read s
  | .pageProgramDone bank margin3 => Sys2Proof.Machine.execPageProgramDone bank margin3 s
  | .programVerifyFailure bank => Sys2Proof.Machine.execProgramVerifyFailure bank s
  | .sectorEraseDone bank => Sys2Proof.Machine.execSectorEraseDone bank s
  | .eraseVerifyFailure bank => Sys2Proof.Machine.execEraseVerifyFailure bank s
  | .eraseWindowReset bank => Sys2Proof.Machine.execEraseWindowReset bank s
  | .nvmPowerUp pass => Sys2Proof.Machine.execNvmPowerUp pass s
  | .scrubStep flips read mapUnc outvoted closureBad reloadBad => Sys2Proof.Machine.execScrubStep flips read mapUnc outvoted closureBad reloadBad s
  | .contentionSweep flips reads => Sys2Proof.Machine.execContentionSweep flips reads s
  | .scrubWatchdog reloadBad => Sys2Proof.Machine.execScrubWatchdog reloadBad s
  | .scrubHeld => Sys2Proof.Machine.execScrubHeld s
  | .scbCtlWrite value => Sys2Proof.Machine.execScbCtlWrite value s
  | .scbRecover => Sys2Proof.Machine.execScbRecover s
  | .scbCmdRestart => Sys2Proof.Machine.execScbCmdRestart s
  | .timCmdSet force => Sys2Proof.Machine.execTimCmdSet force s
  | .timCmdAdjust force => Sys2Proof.Machine.execTimCmdAdjust force s
  | .timCmdArm => Sys2Proof.Machine.execTimCmdArm s
  | .timCmdDisarm => Sys2Proof.Machine.execTimCmdDisarm s
  | .timCmdPtm => Sys2Proof.Machine.execTimCmdPtm s
  | .timRateWrite value => Sys2Proof.Machine.execTimRateWrite value s
  | .timNowSnapshot => Sys2Proof.Machine.execTimNowSnapshot s
  | .syncTick => Sys2Proof.Machine.execSyncTick s
  | .ptmInterval => Sys2Proof.Machine.execPtmInterval s
  | .ptmResponse time delay => Sys2Proof.Machine.execPtmResponse time delay s
  | .ptmTimeout => Sys2Proof.Machine.execPtmTimeout s
  | .ppsInEdge rise before => Sys2Proof.Machine.execPpsInEdge rise before s
  | .ppsMissing => Sys2Proof.Machine.execPpsMissing s
  | .ppsOutRise => Sys2Proof.Machine.execPpsOutRise s
  | .ppsOutFall => Sys2Proof.Machine.execPpsOutFall s
  | .timAlarm also => Sys2Proof.Machine.execTimAlarm also s
  | .timFollowLost => Sys2Proof.Machine.execTimFollowLost s
  | .pinFuncWrite pin value => Sys2Proof.Machine.execPinFuncWrite pin value s
  | .functionTakeover pin => Sys2Proof.Machine.execFunctionTakeover pin s
  | .pinLockKeyWrite value cycles => Sys2Proof.Machine.execPinLockKeyWrite value cycles s
  | .pinLockWrite k value cycles => Sys2Proof.Machine.execPinLockWrite k value cycles s
  | .pinFailoutClear n value => Sys2Proof.Machine.execPinFailoutClear n value s
  | .spiDataWrite m value => Sys2Proof.Machine.execSpiDataWrite m value s
  | .spiTransferDone m miso => Sys2Proof.Machine.execSpiTransferDone m miso s
  | .runInEdge k rise => Sys2Proof.Machine.execRunInEdge k rise s
  | .pinBankChange bank level => Sys2Proof.Machine.execPinBankChange bank level s
  | .twoWireWrite addr bytes => Sys2Proof.Machine.execTwoWireWrite addr bytes s
  | .twoWireRead addr count => Sys2Proof.Machine.execTwoWireRead addr count s
  | .twoWireAddressMatch addr also => Sys2Proof.Machine.execTwoWireAddressMatch addr also s
  | .wakeLand also => Sys2Proof.Machine.execWakeLand also s
  | .linkL1Exit also => Sys2Proof.Machine.execLinkL1Exit also s
  | .perstDeassert also => Sys2Proof.Machine.execPerstDeassert also s
  | .offEnd => Sys2Proof.Machine.execOffEnd s
  | .coldReset vcore => Sys2Proof.Machine.execColdReset vcore s
  | .porstRelease ma ref10 crystal => Sys2Proof.Machine.execPorstRelease ma ref10 crystal s
  | .functionLevelReset => Sys2Proof.Machine.execFunctionLevelReset s
  | .perstAssert => Sys2Proof.Machine.execPerstAssert s
  | .hotReset => Sys2Proof.Machine.execHotReset s
  | .dlDown => Sys2Proof.Machine.execDlDown s
  | .supplyWarn rail point mv => Sys2Proof.Machine.execSupplyWarn rail point mv s
  | .supplyClear => Sys2Proof.Machine.execSupplyClear s
  | .supplyFault vch mv => Sys2Proof.Machine.execSupplyFault vch mv s
  | .telemetryUpdate rails tj => Sys2Proof.Machine.execTelemetryUpdate rails tj s
  | .pllLost => Sys2Proof.Machine.execPllLost s
  | .pllLock => Sys2Proof.Machine.execPllLock s
  | .thermalWarn tj => Sys2Proof.Machine.execThermalWarn tj s
  | .thermalTrip => Sys2Proof.Machine.execThermalTrip s
  | .thermalTripOff => Sys2Proof.Machine.execThermalTripOff s
  | .jtagIdcode => Sys2Proof.Machine.execJtagIdcode s
  | .jtagSample lands => Sys2Proof.Machine.execJtagSample lands s
  | .jtagExtest lands => Sys2Proof.Machine.execJtagExtest lands s
  | .jtagCfgIn block => Sys2Proof.Machine.execJtagCfgIn block s
  | .jtagRbOut => Sys2Proof.Machine.execJtagRbOut s
  | .jtagBypass tdi => Sys2Proof.Machine.execJtagBypass tdi s
  | .cfgCmdNop word => Sys2Proof.Machine.execCfgCmdNop word s
  | .cfgCmdStage operand => Sys2Proof.Machine.execCfgCmdStage operand s
  | .cfgCmdSwitchOver operand => Sys2Proof.Machine.execCfgCmdSwitchOver operand s
  | .cfgCmdBootRetry operand => Sys2Proof.Machine.execCfgCmdBootRetry operand s
  | .cfgCmdStatusRead operand => Sys2Proof.Machine.execCfgCmdStatusRead operand s
  | .runPrepNoReply site => Sys2Proof.Machine.execRunPrepNoReply site s
  | .railSenseReached => Sys2Proof.Machine.execRailSenseReached s
  | .busMasterEnable on c => Sys2Proof.Machine.execBusMasterEnable on c s
  | .vaonLoss => Sys2Proof.Machine.execVaonLoss s
  | .deepSleepSupplyLoss => Sys2Proof.Machine.execDeepSleepSupplyLoss s

end Sys2Proof.Machine
end

