-- ==== Sys2Proof/Machine/Tick.lean ====
section
/-! DEFINITION. What the passage of time does with no command: a datum tick, or an SYSCLK cycle (13 R368, R369), with what the device
does at ticks of its own accord. -/

namespace Sys2Proof.Machine

/-- Within a tick: fail paths reach the net-0 edge that lies in it, and then the design's clocks (04 R110, 08 R237, R248). -/
def State.inTick (s : State) : State := (s.settle (fun _ => true) (min s.netEdge (s.vco + 3))).fabricTick

/-- At the beginning of a tick: fail paths and FAIL_OUT, measurements that end, and the superframe that ends there, while ticks count; and
the pulses of flash operations (04 R110, R133, 05 R155, 07 R205, 09 R271, R272). -/
def State.atTick (s : State) : State :=
  let s := (s.settle (fun _ => true) s.vco).driveDue s.vco
  let s := s.measDone.flashTick.entryDue
  if s.pllCounts then s.sendFrames else s

/-- One passage of time with no command. DESIGN CHOICE (log entry 2): the opcode table has no row for a tick. -/
def passTick (s : State) : State :=
  let t := idleTick s
  if t.tim.tick = s.tim.tick then t.entryDue else (idleTick s.inTick).atTick

end Sys2Proof.Machine
end

