-- ==== Sys2Proof/Machine/RegRead.lean ====
section
/-! DEFINITION. What each BAR0 register reads as (00 R9 to R11): the read-only fields computed from the state, beside the stored
bits; and a host read of BAR0 as a whole. The table has no row for a read: `hostRead` is what one returns and changes. -/

namespace Sys2Proof.Machine

/-- Fields put side by side: value and width of each, from bit 0 upwards; a value is cut to its width (00 R9). -/
def packBits : List (Nat × Nat) → Nat
  | [] => 0
  | (v, w) :: fs => v % 2 ^ w + 2 ^ w * packBits fs

/-- An engine's applied drift offset in whole fine steps, as 8 bits of two's complement (07 R211, R218). -/
def Engine.shiftByte (x : Engine) : Nat := unsignedOf 8 x.shift

/-- The state of a stream ring's flags: state, blocked, error cause (06 R200). -/
def VRing.statBits (r : VRing) : List (Nat × Nat) := [(r.st, 2), (b2n r.blocked, 1), (0, 5), (r.err, 4), (0, 4)]

/-- Registers of an engine whose read-only bits come from the state (02 R66, 03 R105, 04 R134, 05 R153, 06 R199). -/
def State.readEng (s : State) (e o : Nat) : Option Nat :=
  let x := s.e e
  let r := (s.v e).ring
  let base := 64 * s.ringBase64 (e / 32) (e % 32)
  let at_ (k : Nat) := if s.ringWords e = 0 then base else base + k % s.ringWords e
  if o = 0x010 then some (packBits [(x.pc, 14), (x.src, 2), (x.loops.length, 3), (x.calls.length, 4), (b2n (x.body.any (·.win.isSome)), 1),
    (b2n x.mt, 1), (b2n x.z, 1), (x.seq, 3)])
  else if o = 0x014 then some (packBits [(x.errCode, 8), (b2n x.errValid, 1), (0, 7), (x.errPc, 14)])
  else if o = 0x018 then some (packBits [(x.lptr, 13)])
  else if o = 0x01C then some (packBits [(x.mtCnt, 16)])
  else if o = 0x040 then some (packBits [(x.ecc, 16)])
  else if o = 0x10C then some (packBits [(x.failCnt, 32)])
  else if o = 0x110 then some (packBits [(x.conflicts, 16), (b2n x.limitHit, 1), (b2n x.first.isSome, 1)])
  else if o = 0x114 then some (fld (x.first.getD 0) 0 32)
  else if o = 0x118 then some (fld (x.first.getD 0) 32 16)
  else if o = 0x11C then some (packBits [(x.capN, 16), (b2n x.capOvf, 1)])
  else if o = 0x200 then some (fld x.cyc 0 32)
  else if o = 0x204 then some (fld x.cyc 32 16)
  else if o = 0x208 then some (fld x.vec 0 32)
  else if o = 0x20C then some (fld x.vec 32 16)
  else if o = 0x210 then 
    some (packBits [(match (s.siteOf e).bind s.run with | some r => s.stallBy r e (s.siteTick r) | none => x.stall, 32)])
  else if o = 0x214 then some (packBits [((s.siteOf e).getD 0, 6), (b2n (s.siteOf e).isSome, 1)])
  else if o = 0x238 then some (packBits [(r.pos, 32)])
  else if o = 0x23C then some (packBits [(s.ringBase64 (e / 32) (e % 32), 8), (s.ringUnitsEff e, 8)])
  else if o = 0x240 then some (packBits (r.statBits ++ [(r.level, 14)]))
  else if o = 0x244 then some (packBits [(at_ r.rd, 13), (0, 3), (at_ (r.rd + r.level), 13)])
  else if o = 0x248 then some (packBits [(at_ (r.rd + r.level), 13), (0, 3), (r.seqNo, 16)])
  else if o = 0x24C then some (packBits [(r.rewinds, 16), (r.flushes, 8)])
  else if o = 0x308 then some (packBits [(x.curTs, 6), (b2n x.dbl, 1), (0, 1), (b2n (s.landLevels e).1, 1),
    (b2n (s.landLevels e).2, 1), (b2n (s.channelSafe e), 1), (b2n (x.stallCh && !s.channelSafe e), 1), (b2n s.cfg.live, 1), (0, 3),
    (x.badTs, 6), (b2n x.badValid, 1), (x.badCheck, 4)])
  else none

/-- A parcel's FQ holds a record that cannot be written (06 R200). -/
def State.fqWaits (s : State) (p : Nat) : Bool :=
  decide ((s.p p).fq.level ≠ 0) && (!s.requests || !(s.ring (128 + s.parRing p)).en || !s.ringSpace (128 + s.parRing p))

/-- Registers of a parcel whose read-only bits come from the state (04 R135, 05 R137, 06 R200, 07 R218, 08 R257). -/
def State.readPar (s : State) (p o : Nat) : Option Nat :=
  let x := s.p p
  let f := s.f p
  if o = 0x2000C then some (packBits [(b2n f.overrun, 1), (b2n f.diverting, 1), (b2n f.logLoss, 1), (b2n f.spillFull, 1),
    (b2n (!f.coal.isEmpty || !f.inBuf.isEmpty), 1), (0, 3), (f.coal.length, 9)])
  else if o = 0x20010 then some (packBits [(f.divCnt, 32)])
  else if o = 0x20014 then some (packBits [(f.lossCnt, 32)])
  else if o = 0x20018 then some (packBits [(f.oowCnt, 32)])
  else if o = 0x21000 then some (fld (bitsMask (s.sitesOf p)) 0 32)
  else if o = 0x21004 then some (fld (bitsMask (s.sitesOf p)) 32 32)
  else if o = 0x22014 then some (packBits (x.cq.statBits ++ [(x.cq.level, 11)]))
  else if o = 0x22018 then some (packBits [(x.cq.rewinds, 16), (x.cq.flushes, 8)])
  else if o = 0x2201C then some (packBits [(x.fqLevel, 13), (0, 3), (b2n (s.fqWaits p), 1)])
  else if o = 0x22024 then some (packBits [(x.fq.rewinds, 16), (x.fqDiscard, 16)])
  else if o = 0x24104 then some (packBits [(x.loadIdx, 8), (b2n (x.calOut || x.uncal), 1), (b2n x.statTemp, 1), (b2n x.statUncal, 1),
    (b2n x.statLim, 1), (0, 4), (unsignedOf 8 x.target, 8), ((s.e (32 * p)).shiftByte, 8)])
  else if o = 0x24108 then some (packBits [(x.oorCnt, 32)])
  else if o = 0x2410C then some (packBits [(x.sense, 24)])
  else if o = 0x2500C then some (packBits [(x.mq.length, 8), (b2n x.ppOvfS, 1), (b2n x.mqOvf, 1),
    (b2n (decide (s.pclLevel p ≠ s.pwr.fabLevel)), 1)])
  else if o = 0x25010 then some (packBits [(x.ppOvf, 32)])
  else if 0x25100 ≤ o ∧ o < 0x25180 then
    (let e := 32 * p + (o - 0x25100) / 4
     some (packBits [((s.v e).buf.length, 7), (0, 1), (s.supplied e, 7)]))
  else none

/-- A completion or event ring has entries to write and no space for them (12 R348). -/
def State.ringWaits (s : State) (n : Nat) : Bool :=
  decide (64 ≤ n) && (s.ring n).en &&
    (if n < 128 then !s.ringSpace n && s.hif.cpls.any (fun c => s.cplRing c.ring == n)
     else (s.nextEvent (n - 128)).any (fun x => decide (s.ringFree n < x.1.length)) ||
       (!s.ringSpace n && (List.range 32).any (fun p => 128 + s.parRing p == n && s.fqHolds p)))

/-- HIF registers; a doorbell reads the last value accepted since its ring was enabled (12 R347, R348, R350, R352, R363). -/
def State.readHif (s : State) (o : Nat) : Option Nat :=
  if o = 0 then some (packBits [(s.hif.inExec.length, 11), (0, 5), (s.hif.dropped, 16)])
  else if 0x1000 ≤ o ∧ o < 0x1000 + 0x20 * 144 then
    (let n := (o - 0x1000) / 0x20
     let r := s.ring n
     if o % 0x20 = 0x18 then
       some (packBits [(b2n r.en, 1), (b2n r.err, 1), (0, 2), (r.cause, 4), (b2n (s.ringWaits n), 1)])
     else if o % 0x20 = 0x1C then some (packBits [(r.idx, 32)])
     else none)
  else if 0x8000 ≤ o ∧ o < 0x8000 + 8 * 144 then some (if o % 8 = 0 then (s.ring ((o - 0x8000) / 8)).bell else 0)
  else if 0xB000 ≤ o ∧ o < 0xB010 then
    some (fld (bitsMask ((List.range 128).filter fun k => s.hif.msixPend.get noFlag k)) (8 * (o - 0xB000)) 32)
  else none

/-- DEV registers (12 R346, R456). -/
def State.readDev (s : State) (o : Nat) : Option Nat :=
  if o = 0 then some 0x7A101F3D
  else if o = 4 then some (packBits [(0xB0, 8), (b2n Config.speed12, 1), (b2n Config.gradeX, 1)])
  else if o = 8 then some (packBits [(Config.fwMinorBuild.toNat, 16), (1, 8)])
  else if o = 0xC then some (fld Config.uid 0 32)
  else if o = 0x10 then some (fld Config.uid 32 32)
  else if o = 0x14 then some (packBits [(0xE, 4), (0, 4), (s.regF 0x100014 8 4, 4), (0, 4), (s.gen, 2)])
  else none

/-- PWR registers (15 R430). -/
def State.readPwr (s : State) (o : Nat) : Option Nat :=
  let w := s.pwr
  if o = 0 then some (packBits [(b2n s.tim.locked, 1), (b2n w.coreClk, 1), (b2n (w.entering.isSome || w.entryWait.isSome), 1), (b2n !w.jobs.isEmpty, 1),
    (w.fabLevel, 2)])
  else if o = 8 then some (packBits [(s.aon.wakeSrc, 4), (s.aon.wakeFrom, 3), (0, 1), (s.aon.wakeCount, 8)])
  else if o = 0xC then some (packBits [(s.aon.wakeEn, 3)])
  else if o = 0x10 then some (packBits ((List.range 16).map fun p => (s.pclLevel p, 2)))
  else if o = 0x14 then some (packBits ((List.range 16).map fun p => (s.pclLevel (16 + p), 2)))
  else if o = 0x18 then some (packBits [(w.pclOn, 32)])
  else if o = 0x28 then some (packBits [(w.grantNvm, 9), (b2n w.grantScrub, 1), (b2n w.grantRefresh, 1), (b2n w.overB, 1),
    (s.regF 0x200028 12 1, 1), (b2n w.warn, 1), (s.regF 0x200028 14 1, 1), (0, 1), (w.deferred, 16)])
  else if o = 0x2C then some (packBits [(w.admitA / 10, 16), (w.admitC / 10, 16)])
  else if o = 0x30 then some (packBits [(s.powerP / 10, 16), (w.peak / 10, 16)])
  else if o = 0x34 then some (packBits [(w.railReq, 10), (b2n w.reached, 1)])
  else if o = 0x38 then some (packBits [(b2n w.vcoreWarn, 1), (b2n w.vauxWarn, 1), (b2n w.vchWarn, 1), (s.regF 0x200038 3 2, 2),
    (w.firstPoint, 6), (0, 1), (s.aon.lastCold, 2)])
  else if o = 0x3C then some (packBits [(w.lastSite, 6), (0, 10), (w.lastEst / 10, 16)])
  else if o = 0x40 then some (packBits [(w.lastMeas / 10, 16), (b2n w.lastLow, 1)])
  else if 0xA0 ≤ o ∧ o < 0xC0 then
    some (packBits [(w.railMa.get zeroNat ((o - 0xA0) / 4), 16), (w.railMv.get zeroNat ((o - 0xA0) / 4), 16)])
  else none

/-- The key check value of a fuse slot: the low 32 bits of AES-256 of a zero block under its key, 0 where it is not programmed
(10 R298). -/
def FuseKey.kcv (k : FuseKey) : Nat := if k.prog then leAt (aes256 k.key (List.replicate 16 0)) 0 4 else 0

/-- One entry of CFG_BOOT_HIST (10 R323). -/
def bootHist (l : List BootRec) (n : Nat) : Nat :=
  match l[n]? with
  | some r => packBits [(r.source, 3), (1, 1), (0, 4), (r.reason, 8), (r.seq, 16)]
  | none => 0

/-- The image ID of a slot as its registers show it (10 R323). -/
def State.slotId (s : State) (n : Nat) : Nat := if (s.flash.slot n).valid then (s.flash.slot n).id else 0

/-- CFG registers and the fabric's (10 R323, 08 R256). DESIGN CHOICE (log entry 79): after reset FAB_STAT.level shows the level that 15 R418
and R430 give the fabric, not the 0b00 of R256's table. -/
def State.readCfg (s : State) (o : Nat) : Option Nat :=
  let c := s.cfg
  if o = 0 then some (packBits [(c.active, 2), (b2n c.loaded, 1), (b2n c.confirmed, 1), (b2n c.live, 1), (b2n c.base, 1),
    (b2n c.load.isSome, 1), (b2n c.released.isSome, 1)])
  else if o = 8 then some (packBits [(s.flash.prefSlot, 2), (b2n s.flash.extEn, 1), (b2n c.gStageEn, 1)])
  else if o = 0xC then some (packBits [(s.flash.keyEn, 3), (b2n c.fuseProgEn, 1), (b2n s.aon.keyLock, 1)])
  else if o = 0x10 then some (packBits [(b2n s.keys.f0.prog, 1), (b2n s.keys.f0.revoked, 1), (b2n s.keys.f1.prog, 1),
    (b2n s.keys.f1.revoked, 1), (b2n s.keys.ram.isSome, 1), (b2n s.keys.tamper, 1), (b2n s.keys.vbatLost, 1)])
  else if o = 0x14 then some s.keys.f0.kcv
  else if o = 0x18 then some s.keys.f1.kcv
  else if o = 0x1C then some (packBits [(s.aon.bootCount, 2), (c.source, 3), (0, 3), (c.lastReason, 8)])
  else if o = 0x20 then some (packBits [(b2n c.stage.isSome, 1), (c.stageSlot, 2), (b2n c.rejValid, 1), (0, 4), (c.stageReason, 8),
    (c.banksDone, 9)])
  else if o = 0x24 then some (packBits [(c.rejFrame, 32)])
  else if o = 0x28 then some (packBits [(c.jtagCtl, 3)])
  else if 0x40 ≤ o ∧ o < 0x58 then some (fld (s.slotId ((o - 0x40) / 8)) (32 * ((o - 0x40) / 4 % 2)) 32)
  else if 0x60 ≤ o ∧ o < 0x80 then some (bootHist s.flash.boots ((o - 0x60) / 4))
  else if o = 0x8000 then some (packBits [(b2n c.loaded, 1), (b2n s.fab.gsr, 1), (b2n s.fab.clocks, 1), (b2n s.fab.ports, 1),
    (s.pwr.fabLevel, 2)])
  else if o = 0x8004 then some (packBits [(s.fab.eccCorr, 16), (s.fab.eccUnc, 16)])
  else if o = 0x800C then some (packBits [(s.fab.idle &&& s.reg 0x308008, 16), (s.fab.idle, 16)])
  else if o = 0x8010 then some (packBits [(s.fab.rbId, 16), (b2n s.fab.rbUnread, 1), (b2n s.fab.rbPend.isSome, 1)])
  else none

/-- The op field of NVM_BANK_STAT (09 R287). -/
def FlashOp.code (o : FlashOp) : Nat :=
  if !o.started then 5 else if o.suspended then (if o.erase then 4 else 3) else if o.erase then 2 else 1

/-- NVM registers (09 R287). -/
def State.readNvm (s : State) (o : Nat) : Option Nat :=
  let n := s.nvm
  let b := s.regF 0x400008 0 9
  let op := if b < bankCount then (s.bankQ b).head? else none
  if o = 0 then some (packBits [(s.activeBanks, 9), (s.pwr.grantNvm, 9), (b2n n.supplyHold, 1), (b2n n.hostHold, 1), (b2n n.heldAfter, 1),
    (b2n n.journalBusy, 1)])
  else if o = 0xC then
    some (packBits ((match op with
      | some q => [(q.code, 3), (b2n q.starved, 1), (q.winSus, 7), (0, 5), (q.eraseShown, 12)]
      | none => [(0, 28)]) ++ [(if b < bankCount then (s.flash.freeOf b).length else 0, 2)]))
  else if o = 0x10 then some (match op with
      | some q => packBits [(q.sector, 7), (0, 1), (q.pulsesShown, 6), (b2n q.user, 1)]
      | none => 0)
  else if o = 0x14 then some (packBits [(n.eccCorr, 16), (n.eccHigh, 8), (n.eccUnc, 8)])
  else if o = 0x18 then some (packBits [(n.jResolved, 9), (n.jErase, 8), (n.jInt, 8)])
  else none

/-- The state field of SCB_STAT: disabled, restarting, idle, paused or traversing (11 R341). -/
def State.scbState (s : State) : Nat :=
  if s.scb.disabled then 4 else if s.scb.restarting then 3 else if s.scb.trav.isNone then 0 else if s.scrubPaused then 2 else 1

/-- Restarts of the scrubber in the preceding second (11 R340). -/
def State.scbRecent (s : State) : Nat := (s.scb.restarts.filter fun t => decide (s.tim.tick < t + secondTicks)).length

/-- SCB registers (11 R341). -/
def State.readScb (s : State) (o : Nat) : Option Nat :=
  let b := s.scb
  if o = 0 then some b.ctl
  else if o = 8 then some (packBits [(s.scbState, 3), (b2n (b.trav.any (·.sig)), 1), (b2n s.pwr.warn, 1), (b2n !s.pwr.grantScrub, 1),
    (b2n s.cfg.load.isSome, 1), (b2n s.portLent, 1), (b2n (decide (s.pwr.state = .sleep)), 1), (s.scbRecent, 2), (b2n (b.trav.any (·.held)), 1)])
  else if o = 0xC then some (packBits [(b.pos, 32)])
  else if o = 0x10 then some (packBits [(b.nomFull, 24)])
  else if o = 0x14 then some (packBits [(b.nomSig, 24)])
  else if o = 0x18 then some (packBits [(b.count, 32)])
  else if o = 0x1C then some (packBits [(b.cntSig, 16), (b.cntNsig, 16)])
  else if o = 0x20 then some (packBits [(b.cntCont, 8), (b.cntUnc, 8), (b.cntTmr, 8), (b.cntRestart, 8)])
  else if o = 0x24 then some (packBits [(b.last, 32)])
  else none

/-- TIM registers; TIM_NOW0 to 4 show the last snapshot (13 R371, R384). -/
def State.readTim (s : State) (o : Nat) : Option Nat :=
  let t := s.tim
  let word (v k : Nat) := fld v (32 * k) 32
  if o = 4 then some (packBits [(b2n t.set, 1), (b2n (t.pendRate.isSome || t.pendStep.isSome), 1), (b2n t.degraded, 1),
    (b2n t.followLock, 1), (s.regF 0x600004 4 2, 2), (b2n t.armed.isSome, 1), (s.regF 0x600004 7 2, 2)])
  else if o = 0xC then some (packBits [(t.rate, 32)])
  else if 0x30 ≤ o ∧ o < 0x3C then some (word t.snap ((o - 0x30) / 4))
  else if 0x3C ≤ o ∧ o < 0x44 then some (word t.snapTick ((o - 0x3C) / 4))
  else if 0x50 ≤ o ∧ o < 0x5C then some (word t.pps ((o - 0x50) / 4))
  else if 0x70 ≤ o ∧ o < 0x7C then some (word t.ptmT1 ((o - 0x70) / 4))
  else if 0x7C ≤ o ∧ o < 0x84 then some (word t.ptmTime ((o - 0x7C) / 4))
  else if o = 0x84 then some (packBits [(t.ptmDelay, 32)])
  else if o = 0x88 then some (packBits [(t.ptmSeq, 32)])
  else none

/-- PIN registers: pads, banks and serial masters (14 R403). -/
def State.readPin (s : State) (o : Nat) : Option Nat :=
  if 0x220 ≤ o ∧ o < 0x22C then
    some (packBits ((List.range 32).map fun i => (b2n (s.padLevel (8 * (o - 0x220) + i)), 1)))
  else if o = 0x400 then some (packBits [(s.bankLevel 0, 2), (s.bankLevel 32, 2), (s.bankLevel 64, 2)])
  else if 0x600 ≤ o ∧ o < 0x640 ∧ o % 0x10 = 0 then
    some (packBits [(s.regF (0x700000 + o) 0 16, 16), (b2n (s.spi ((o - 0x600) / 0x10)).busy, 1), (s.regF (0x700000 + o) 17 1, 1)])
  else if 0x600 ≤ o ∧ o < 0x640 ∧ o % 0x10 = 4 then some (packBits [((s.spi ((o - 0x600) / 0x10)).recv, 32)])
  else none

/-- SXL registers (05 R168). -/
def State.readSxl (s : State) (o : Nat) : Option Nat :=
  let x := s.link ((o - 0x100) / 0x40)
  if o < 0x100 ∨ 0x200 ≤ o then none
  else if o % 0x40 = 4 then some (packBits [(x.state, 3), (if x.state = 5 then x.version else 0, 2), (0, 3), (x.peer, 4), (x.reason, 4)])
  else if o % 0x40 = 8 then some (packBits [(x.lat, 8), (x.lat - 16, 8)])
  else if o % 0x40 = 0xC then some (packBits [(x.replays, 16), (x.badSide, 8), (x.retrains, 8)])
  else none

/-- Boot training runs from the release of a cold reset, or a device reset, until the memory is trained or its training has failed (07
R219, R223). -/
def State.bootTraining (s : State) : Bool := !s.aon.portHeld && !s.dvm.trained && !s.dvm.trainOff

/-- DVM registers (06 R201, 07 R223). -/
def State.readDvm (s : State) (o : Nat) : Option Nat :=
  let d := s.dvm
  if o = 0 then some (packBits [(b2n d.initDone, 1), (b2n d.trained, 1), (b2n d.selfRefresh, 1)])
  else if o = 4 then some (packBits [(s.regF 0x900004 0 2, 2), (b2n !s.pwr.grantRefresh, 1)])
  else if o = 8 then some (packBits [(d.eccCorr, 32)])
  else if o = 0xC then some (packBits [(d.eccUnc, 16)])
  else if o = 0x10 then some (packBits [(0, 1), (d.partErr, 2), (0, 5), (d.partBad, 7)])
  else if o = 0x18 then some (packBits [(b2n d.needed, 1), (b2n (d.retraining || s.bootTraining), 1), (b2n d.marginLow, 1), (b2n d.trainOff, 1), (0, 4),
    (d.minMargin, 7), (0, 1), (d.worstPc, 5)])
  else if o = 0x1C then some (packBits [(d.trainTag, 32)])
  else if o = 0x20 then some (packBits [(d.passes, 16), (d.forced, 16)])
  else if o = 0x24 then some (packBits [(d.temp, 8)])
  else none

/-- SNP registers (05 R171). -/
def State.readSnp (s : State) (o : Nat) : Option Nat :=
  if o = 0 then some (packBits [(s.snp.lastId, 16), (b2n s.snp.unread, 1), (b2n (s.snp.pend.any (·.timed)), 1)])
  else if o = 4 then some (packBits [(s.snp.refused, 16)])
  else none

/-- The read-only bits of a register, where the state gives it any. -/
def State.readSpecial (s : State) (off : Nat) : Option Nat :=
  let o := off % 0x100000
  if 0x1000000 ≤ off then
    (let p := (off - 0x1000000) / 0x40000
     let r := off % 0x40000
     if r < 0x20000 then s.readEng (32 * p + r / 0x1000) (r % 0x1000) else s.readPar p r)
  else if off / 0x100000 = 0 then s.readHif o
  else if off / 0x100000 = 1 then s.readDev o
  else if off / 0x100000 = 2 then s.readPwr o
  else if off / 0x100000 = 3 then s.readCfg o
  else if off / 0x100000 = 4 then s.readNvm o
  else if off / 0x100000 = 5 then s.readScb o
  else if off / 0x100000 = 6 then s.readTim o
  else if off / 0x100000 = 7 then s.readPin o
  else if off / 0x100000 = 8 then s.readSxl o
  else if off / 0x100000 = 9 then s.readDvm o
  else s.readSnp o

/-- What the register at a 4-byte-aligned BAR0 offset reads as: 0 where none is assigned or its parcel is off (00 R9, R11, 15
R417). -/
def State.readReg (s : State) (off : Nat) : Nat :=
  if (regInfo off).isNone || (inParcel off && !s.parcelOn ((off - 0x1000000) / 0x40000)) then 0
  else (s.readSpecial off).getD (s.reg off)

/-- A read of PWR_TEL_P starts its peak anew, and a read of TIM_NOW0 takes the snapshot that it and the words after it show (13 R371,
15 R430). -/
def State.readEffect (s : State) (off : Nat) : State :=
  if off = 0x600030 then timSnapshot s
  else if off = 0x200030 then { s with pwr := { s.pwr with peak := 0 } }
  else s

/-- One 4-byte register of a host read: its value and the state after it. -/
def State.read32 (s : State) (off : Nat) : Nat × State :=
  let t := if off = 0x600030 then s.readEffect off else s
  (t.readReg off, s.readEffect off)

/-- A host read of BAR0 below the FAB window in Run: aligned 4-byte and 8-byte reads only; any other size or alignment returns 0 and
raises ACCESS_ERROR (01 R28); one of 8 bytes reads the lower register first; a read of a parcel that is off returns 0 and raises
ACCESS_ERROR cause 7 (15 R417). -/
def State.barRead (s : State) (off size : Nat) : Nat × State :=
  let reg := (regInfo off).isSome || (decide (size = 8) && (regInfo (off + 4)).isSome)
  if (size ≠ 4 ∧ size ≠ 8) ∨ off % size ≠ 0 then (0, s.accessError off 1)
  else if inParcel off && reg && !s.parcelOn ((off - 0x1000000) / 0x40000) then (0, s.accessError off 7)
  else
    let a := s.read32 off
    if size = 4 then a
    else
      let b := a.2.read32 (off + 4)
      (a.1 + 2 ^ 32 * b.1, b.2)

/-- A host read in any power state: in Idle and Sleep it resumes or wakes the device first; in Deep Sleep and Off nothing answers
(15 R409). -/
def State.hostRead (s : State) (off size : Nat) : Nat × State :=
  if s.pwr.state = .deepSleep ∨ s.pwr.state = .off then (0, s) else (s.hostAccess id).barRead off size

end Sys2Proof.Machine
end

