-- ==== Sys2Proof/Safety.lean ====
section
/-! DEFINITION. What counts as a safe run, and the terms that statements about commands share: when a descriptor's
command starts, what its completion holds, and the state in which its effect begins. -/

namespace Sys2Proof

/-- The outcome is a next state: neither a fault nor a refusal. -/
def Safe (o : Host.Outcome Machine.State Machine.Fault Machine.Refusal) : Prop := ∃ t, o = .next t

/-- Every command waiting in a state is well formed. -/
def PendingWellFormed (s : Machine.State) : Prop := ∀ c ∈ s.pending, c.wellFormed = true

/-- The gate of a descriptor row lets the command start: the device is in Run and has entered no other state, the descriptor was not
fetched with other bytes than the row's (`fs`), it is the one whose turn it is, its dependency has not failed, base mode allows it, the
tick PLL runs and host data can be requested where it needs them, and it finds a place (12 R345, R353 to R355, 10 R319, 15 R407, R415). -/
def Machine.State.starts (s : Machine.State) (i : Machine.DescId) (fs : List (Nat × Nat × Nat)) (baseOk : Bool) : Bool :=
  decide (s.pwr.state = .run) && s.pwr.entryWait.isNone && !s.otherBytes i fs &&
    (match s.fetchedAs i with | some f => s.mayStart f && !s.depFailed f | none => true) &&
    (!s.cfg.base || baseOk) && !(Machine.needsPll i.op && s.pllStopped) &&
    (s.requests || !Machine.namesHostData i.op (Machine.hostBlocks fs)) &&
    s.placeFor i.ring && (s.ownPlace i.ring || (s.fetchedAs i).isNone || s.sharedTurn i.ring)

/-- The state in which a started descriptor's effect begins: it waits no longer and is in execution (12 R355). -/
def Machine.State.begun (s : Machine.State) (i : Machine.DescId) : Machine.State := (s.unfetch i).enter (s.named i)

/-- The completion of a descriptor with a result (12 R358). -/
def cplOf (i : Machine.DescId) (d : Machine.Done) : Machine.Cpl :=
  { op := i.op, ring := i.ring, tag := i.tag, status := d.status, cause := d.cause, hop := d.hop, flags := d.flags,
    block := d.block, index := i.index, result := d.result, irq := i.irq, serial := i.serial }

/-- The completion ring of a descriptor is enabled, so that its completion is kept until it is written (12 R349, R358). -/
abbrev Machine.State.cplOn (s : Machine.State) (i : Machine.DescId) : Prop := (s.ring (s.cplRing i.ring)).en = true

/-- The device runs normally: state Run, not in base mode, and no state entry in progress (15 R404). -/
abbrev Machine.State.normal (s : Machine.State) : Prop :=
  s.pwr.state = .run ∧ s.cfg.base = false ∧ s.pwr.entering = none

/-- Every map that a command of the host interface or of the datum counter writes is in canonical form. -/
abbrev Machine.State.mapsWf (s : Machine.State) : Prop :=
  Machine.SMap.wf Machine.regReset s.regs = true ∧ Machine.SMap.wf Machine.ringReset s.hif.rings = true ∧
    Machine.SMap.wf Machine.engReset s.eng = true ∧ Machine.SMap.wf Machine.vqReset s.vq = true ∧
    Machine.SMap.wf Machine.fmReset s.fm = true ∧ Machine.SMap.wf Machine.parReset s.par = true ∧
    Machine.SMap.wf Machine.siteReset s.sites = true ∧ Machine.SMap.wf Machine.linkReset s.links = true ∧
    Machine.SMap.wf Machine.memberReset s.member = true ∧ Machine.SMap.wf Machine.pinReset s.pins.pin = true

end Sys2Proof
end

