-- ==== Sys2Proof/Certificates/Slice0/Obligations.lean ====
section
/-! DEFINITION. The statements for the provers. Each formalises rules of the spec, or says in its docstring that it is about the
model's own conventions. -/

section
open Sys2Proof Sys2Proof.Machine

/-- Model's own queue (log entry 1): with commands waiting, a step is the front command's effect with the rest of the queue waiting. -/
def Obligations.StepRunsTheFrontCommand : Prop :=
  ∀ (s : State) (c : Instr) (rest : List Instr), s.pending = c :: rest → step s = exec c { s with pending := rest }

/-- 13 R368, R369, with log entry 2: on an empty queue a step is one datum tick while the tick PLL counts, with its nominal increment
(a third of 2 ns, the tick whose number leaves 2 at division by three one unit short) and the rate word; a system clock cycle, 10 ns
and 15 tick numbers, in Sleep and after a lost lock; and nothing before lock, in Deep Sleep and in Off. No tick touches the flash, the
keys, the power state, the members of sites or the commands that wait, where no state entry waits for its completion, and with no design
running, no strobe, fail, flash operation or measurement on its way and no link in use it changes the counter alone. -/
def Obligations.TimePassesOnAnEmptyQueue : Prop :=
  ∀ s : State, s.pending = [] → s.pwr.entryWait = none →
    let fast : Tim := { s.tim with
      value := (((s.tim.value : Int) + (if (s.tim.tick + s.tim.off) % 2 ^ 64 % 3 = 2 then 0xAAAAAAAAAA else 0xAAAAAAAAAB) +
        signed 32 s.tim.rate) % (2 ^ 48 * (1000000000 * 2 ^ 40))).toNat,
      tick := s.tim.tick + 1 }
    let slow : Tim := { s.tim with
      value := (((s.tim.value : Int) + 10 * 2 ^ 40 + 15 * signed 32 s.tim.rate) % (2 ^ 48 * (1000000000 * 2 ^ 40))).toNat,
      tick := s.tim.tick + 15 }
    let passes (c : Tim) : Prop := ∃ t, step s = .next t ∧ t.tim = c ∧ t.pending = [] ∧ t.flash = s.flash ∧ t.keys = s.keys ∧
      t.pwr = s.pwr ∧ t.member = s.member ∧
      (s.designRuns = false → s.sites = [] → s.eng.all (fun q => q.2.samples.isEmpty) = true → s.pins.failDue = [] → s.par = [] →
        s.nvm.queue = [] → s.bus = [] → s.links = [] → t = { s with tim := c })
    (s.tim.started = true → s.tim.locked = true → s.pwr.state = .run ∨ s.pwr.state = .idle → passes fast) ∧
    (s.tim.started = true → s.pwr.state = .sleep ∨ ((s.pwr.state = .run ∨ s.pwr.state = .idle) ∧ s.tim.locked = false) → passes slow) ∧
    (s.tim.started = false ∨ s.pwr.state = .deepSleep ∨ s.pwr.state = .off → step s = .next s)

/-- Model's own queue (log entry 1): no command of the table takes, adds or reorders commands that wait. -/
def Obligations.CommandsLeaveTheQueue : Prop :=
  ∀ (c : Instr) (s t : State), exec c s = .next t → t.pending = s.pending

/-- Every command that can exist completes: from every state, whatever its operands, it answers a next state. -/
def Obligations.WellFormedCommandsComplete : Prop :=
  ∀ (c : Instr) (s : State), c.wellFormed = true → ∃ t, exec c s = .next t

/-- 10 R299, 00 R12: a fuse key slot is programmed once; whatever commands follow, resets included, its key stays and its revocation
is never undone. -/
def Obligations.FuseSlotsAreForGood : Prop :=
  ∀ (s t : State) (n : Nat), step s = .next t →
    ((s.keys.fuse n).prog = true → (t.keys.fuse n).prog = true ∧ (t.keys.fuse n).key = (s.keys.fuse n).key) ∧
    ((s.keys.fuse n).revoked = true → (t.keys.fuse n).revoked = true)

/-- The store of registers is in its canonical form after reset, and so is every other map. -/
def Obligations.ResetIsCanonical : Prop :=
  State.reset.mapsWf ∧ State.reset.pending = []

/-- Every step keeps the store of registers in canonical form, so that equal registers are equal data. -/
def Obligations.StepsKeepRegistersCanonical : Prop :=
  ∀ s t : State, SMap.wf regReset s.regs = true → step s = .next t → SMap.wf regReset t.regs = true

/-- The reset values that the register tables state (02 R66, 03 R105, 04 R135, 06 R199, R200, R201, 07 R218, R223, 08 R256, R257,
09 R287, 10 R323, 11 R341, 12 R346, R347, 13 R384, 14 R403, 15 R430), as the registers read in the state after reset, for every engine,
parcel, ring and link; those the grade decides are named by the grade. SCB_CTL and the pads' functions are as shipped. -/
def Obligations.RegistersReadTheirResetValues : Prop :=
  (∀ e : Fin 1024, State.reset.readReg (engBase e) = 0xF ∧ State.reset.readReg (engBase e + 0x008) = 1 ∧
    State.reset.readReg (engBase e + 0x010) = 0 ∧ State.reset.readReg (engBase e + 0x100) = 0 ∧
    State.reset.readReg (engBase e + 0x220) = 0x400 ∧ State.reset.readReg (engBase e + 0x230) = 0x008000C0 ∧
    State.reset.readReg (engBase e + 0x300) = 0x10001 ∧ State.reset.readReg (engBase e + 0x304) = 0x6710 ∧
    State.reset.readReg (engBase e + 0x308) = 0x400) ∧
  (∀ (e : Fin 1024) (n : Fin 64), State.reset.readReg (tsBase e n) = 0 ∧ State.reset.readReg (tsBase e n + 0x20) = 0x030C30C3) ∧
  (∀ p : Fin 32, State.reset.readReg (parBase p + 0x20000) = 0x04000004 ∧ State.reset.readReg (parBase p + 0x24100) = 0x000F1801 ∧
    State.reset.readReg (parBase p + 0x25000) = 0x2020 ∧ State.reset.readReg (parBase p + 0x22014) = 0) ∧
  (∀ n : Fin 144, State.reset.readReg (ringBase n + 0xC) = 1 ∧ State.reset.readReg (ringBase n + 0x18) = 0 ∧
    State.reset.readReg (ringBase n + 0x1C) = 0) ∧
  (∀ n : Fin 4, State.reset.readReg (linkBase n) = 8 ∧ State.reset.readReg (linkBase n + 4) = 0) ∧
  State.reset.readReg 0x100000 = 0x7A101F3D ∧ State.reset.readReg 0x100014 = 0xE ∧
  State.reset.readReg 0x200018 = 0xFFFFFFFF ∧ State.reset.readReg 0x200020 = 0xBE ∧ State.reset.readReg 0x200024 = 0x82401400 ∧
  State.reset.readReg 0x200028 = 0x640 ∧ State.reset.readReg 0x200034 = (if Config.speed12 then 780 else 850) ∧
  State.reset.readReg 0x300000 = 3 ∧ State.reset.readReg 0x300028 = 7 ∧ State.reset.readReg 0x400000 = 0x208000 ∧
  State.reset.readReg 0x400004 = 0x4001 ∧ State.reset.readReg 0x500000 = 0x64240403 ∧ State.reset.readReg 0x600000 = 0x6400 ∧
  State.reset.readReg 0x900004 = 2 ∧ State.reset.readReg 0x900014 = 0x1002 ∧ State.reset.readReg 0xA00000 = 0

/-- 00 R9, R10, R11, 01 R28: an aligned 4-byte write of a register that has no action of its own and that no running site holds: each
bit that can be written takes the bit written, each write-one-to-clear bit written 1 is cleared, every other bit of the register and
everything else in the device is as it was; a poisoned write is dropped, with PCIE_ERROR (12 R366). At an offset assigned to no register,
reserved ones among them, a write takes no effect and raises no event, and a read, which is no command of the table (log entry 5),
returns 0; a write of another size than 4 or 8 bytes, or misaligned, is ignored and raises ACCESS_ERROR with cause 1.
01 R27: a write of a static register of an engine, while the engine's site has a run active, is ignored and raises
REG_WRITE_IN_RUN with the engine number and the BAR0 offset; for a static register that no engine owns, while a site with engines
in its parcel has a run active, the engine number is 0xFFFF. -/
def Obligations.RegistersAreWritten : Prop :=
  (∀ (s : State) (off : BitVec 25) (v : Quad), s.pwr.state = .run → v.toNat < 2 ^ 32 → SMap.wf regReset s.regs = true →
    (∀ r : RegInfo, off.toNat % 4 = 0 → off.toNat < 0x1800000 → bellRing off.toNat = none → regInfo off.toNat = some r →
      (inParcel off.toNat = true → s.parcelOn ((off.toNat - 0x1000000) / 0x40000) = true) →
      specialWrite off.toNat v.toNat = none → s.guarded off.toNat v.toNat r = none →
      ∃ t, exec (.registerWrite { off := off, size := 4, value := v }) s = .next t ∧ t = { s with regs := t.regs } ∧
        (∀ k, k ≠ off.toNat → t.reg k = s.reg k) ∧
        ∀ b, b < 32 → (t.reg off.toNat).testBit b =
          (if r.rw.testBit b then v.toNat.testBit b else (s.reg off.toNat).testBit b && !(r.w1c.testBit b && v.toNat.testBit b))) ∧
    (off.toNat % 4 = 0 → off.toNat < 0x1800000 → bellRing off.toNat = none → regInfo off.toNat = none →
      exec (.registerWrite { off := off, size := 4, value := v }) s = .next s ∧ s.hostRead off.toNat 4 = (0, s) ∧
      (off.toNat % 8 = 0 → bellRing (off.toNat + 4) = none → regInfo (off.toNat + 4) = none → ∀ w : Quad,
        exec (.registerWrite { off := off, size := 8, value := w }) s = .next s ∧ s.hostRead off.toNat 8 = (0, s))) ∧
    (∀ u c : Word, u ≠ 0 → exec (.registerWrite { off := off, size := 4, value := v, err := some (u, c) }) s = .next (s.pcieError u c)) ∧
    (∀ n : BitVec 4, (n ≠ 4 ∧ n ≠ 8) ∨ off.toNat % n.toNat ≠ 0 →
      exec (.registerWrite { off := off, size := n, value := v }) s = .next (s.raise 0x0101 [it4 off.toNat, it1 1]))) ∧
  (∀ (s : State) (off : BitVec 25) (v : Quad) (r : RegInfo), s.pwr.state = .run → v.toNat < 2 ^ 32 → off.toNat % 4 = 0 →
    0x1000000 ≤ off.toNat → off.toNat < 0x1800000 → regInfo off.toNat = some r →
    s.parcelOn ((off.toNat - 0x1000000) / 0x40000) = true → specialWrite off.toNat v.toNat = none →
    (∀ e, r.guard = .engine e → s.engActive e = true →
      exec (.registerWrite { off := off, size := 4, value := v }) s = .next (s.raise 0x1001 [itEng e, it4 off.toNat])) ∧
    (∀ p, r.guard = .parcel p → s.parActive p = true →
      exec (.registerWrite { off := off, size := 4, value := v }) s = .next (s.raise 0x1001 [itEng 0xFFFF, it4 off.toNat])))

/-- 12 R347, R349: a ring that is off is enabled by a write of en = 1 when its size is 16 to 65,536 entries, a generation is selected
and, for a command ring, the completion ring it names is enabled: its indices are 0, no error shows, and its fields are those written.
An event ring, or a command ring with nothing fetched, is disabled by a write of en = 0. Where the conditions do not hold the ring
stays off and RING_ERROR is raised with cause 5.
12 R350, R351: an 8-byte doorbell write whose upper half is 0, to an enabled ring, is the ring's new tail or head when it lies in
its window; a command ring's new tail may be no more than the ring's size ahead of the head and of the tail before. One of another
size, with upper bits, or to a ring that is off only raises ACCESS_ERROR, with cause 1, 4 or 6; one outside the window disables the
ring and sets its error. -/
def Obligations.RingsAndDoorbells : Prop :=
  (∀ (s : State) (ring : Fin 144) (v : Word), s.pwr.state = .run →
    ((s.ring ring).en = false → s.gen ≠ 0 → 4 ≤ v.toNat % 32 → v.toNat % 32 ≤ 16 →
      (64 ≤ ring.val ∨ (s.ring (64 + v.toNat / 2 ^ 8 % 2 ^ 6)).en = true) →
      exec (.ringEnable ring v) s = .next ((s.setReg (ringBase ring + 8) ((v.toNat &&& ringCfgMask ring) + 2 ^ 31)).setRing ring
        { en := true, err := false, cause := 0, idx := 0, bell := 0, since := 0, timer := none })) ∧
    ((s.ring ring).en = false → s.gen = 0 ∨ v.toNat % 32 < 4 ∨ 16 < v.toNat % 32 →
      exec (.ringEnable ring v) s =
        .next ((s.setRing ring { s.ring ring with cause := 5 }).raise 0x0103 [it1 ring, it1 5, it4 v.toNat])) ∧
    ((s.ring ring).en = true → ring.val < 64 ∨ 128 ≤ ring.val → s.hif.fetched.all (fun f => f.ring != ring.val) = true →
      v.toNat &&& ringCfgMask ring = s.reg (ringBase ring + 8) &&& ringCfgMask ring →
      exec (.ringDisable ring v) s =
        .next ((s.setRing ring { s.ring ring with en := false }).setReg (ringBase ring + 8) (s.reg (ringBase ring + 8) % 2 ^ 31)))) ∧
  (∀ (s : State) (c : Fin 64) (k : Fin 80) (size : BitVec 4) (v : Quad), s.pwr.state = .run →
    (size = 8 → v.toNat < 2 ^ 32 → (s.ring c).en = true →
      idxDiff v.toNat (s.ring c).idx ≤ s.ringSize c → idxDiff v.toNat (s.ring c).bell ≤ s.ringSize c →
      exec (.commandDoorbell c size v) s = .next (s.setRing c { s.ring c with bell := v.toNat })) ∧
    (size = 8 → v.toNat < 2 ^ 32 → (s.ring (64 + k)).en = true →
      idxDiff v.toNat (s.ring (64 + k)).bell ≤ idxDiff (s.ring (64 + k)).idx (s.ring (64 + k)).bell →
      exec (.consumerDoorbell k size v) s = .next (s.setRing (64 + k) { s.ring (64 + k) with bell := v.toNat })) ∧
    (size ≠ 8 → exec (.commandDoorbell c size v) s = .next (s.raise 0x0101 [it4 (0x8000 + 8 * c), it1 1])) ∧
    (size = 8 → 2 ^ 32 ≤ v.toNat → exec (.commandDoorbell c size v) s = .next (s.raise 0x0101 [it4 (0x8000 + 8 * c), it1 4])) ∧
    (size = 8 → v.toNat < 2 ^ 32 → (s.ring c).en = false →
      exec (.commandDoorbell c size v) s = .next (s.raise 0x0101 [it4 (0x8000 + 8 * c), it1 6])) ∧
    (size = 8 → v.toNat < 2 ^ 32 → (s.ring c).en = true → SMap.wf ringReset s.hif.rings = true →
      s.hif.fetched.all (fun f => f.ring != c.val) = true → s.ringSize c < idxDiff v.toNat (s.ring c).idx →
      ∃ t, exec (.commandDoorbell c size v) s = .next t ∧ (t.ring c).en = false ∧ (t.ring c).err = true ∧ (t.ring c).cause = 1 ∧
        ∀ n, n ≠ c.val → t.ring n = s.ring n))

/-- 12 R348, R350, R353, R354, R366: a fetch moves the head by one for each descriptor that it brings, up to the tail; a well-formed
descriptor waits to start, behind those of its ring that wait already, with its tag, opcode and flags as its bytes give them; an error
that is not correctable stops the ring with cause 2, behind the descriptors that came before it, and a correctable one does not.
12 R354, R358: the checks of a fetched descriptor come in the order CRC, opcode, generation flags, reserved bits, operand ranges,
data reference, dependency; a descriptor that fails one completes as malformed with that cause and never waits to start. -/
def Obligations.DescriptorsAreFetchedAndChecked : Prop :=
  (∀ (s : State) (ring : BitVec 6) (f : Fetch) (b : List Byte) (u c : Word), SMap.wf ringReset s.hif.rings = true →
    f.wellFormed = true → b.length = 64 → s.pwr.state = .run → (s.ring ring.toNat).en = true → s.requests = true →
    let q := s.ring ring.toNat
    let left := idxDiff q.bell q.idx
    let waiting (k : Nat) (b : List Byte) (dep : Option (Nat × Bool)) : FDesc :=
      { serial := s.hif.serial + k, ring := ring.toNat, index := (q.idx + k) % 2 ^ 32, tag := leAt b 2 2, op := leAt b 0 1,
        fence := (leAt b 1 1).testBit 0, irq := (leAt b 1 1).testBit 1, dep := dep, bytes := b }
    q.idx < 2 ^ 32 →
    (f.descs.length ≤ left →
      (f.err = none ∨ f.descs.length = left ∨ f.err = some (0, c) → ∃ t, exec (.descriptorFetch ring f) s = .next t ∧
        (t.ring ring.toNat).idx = (q.idx + f.descs.length) % 2 ^ 32 ∧ (t.ring ring.toNat).en = true ∧
        t.hif.serial = s.hif.serial + f.descs.length ∧ t.hif.inExec = s.hif.inExec ∧ t = { s with hif := t.hif, out := t.out } ∧
        ((∀ x ∈ f.descs, s.malformed x = none ∧ s.depOf x = none) →
          t.hif.fetched = s.hif.fetched ++ f.descs.mapIdx (fun k x => waiting k x none) ∧ t.hif.cpls = s.hif.cpls)) ∧
      (f.err = some (u, c) → u ≠ 0 → f.descs.length < left → ∃ t, exec (.descriptorFetch ring f) s = .next t ∧
        (t.ring ring.toNat).en = false ∧ (t.ring ring.toNat).err = true ∧ (t.ring ring.toNat).cause = 2 ∧
        (t.ring ring.toNat).idx = (q.idx + f.descs.length) % 2 ^ 32 ∧
        t.hif.fetched = s.hif.fetched.filter (fun x => decide (x.ring ≠ ring.toNat)) ∧
        t.hif.pci.uncStatus = s.hif.pci.uncStatus ||| u.toNat)) ∧
    (left ≠ 0 → s.malformed b = none →
      ∃ t, exec (.descriptorFetch ring { descs := [b], err := none }) s = .next t ∧
        (t.ring ring.toNat).idx = (q.idx + 1) % 2 ^ 32 ∧ (∀ n, n ≠ ring.toNat → t.ring n = s.ring n) ∧
        t.hif.fetched = s.hif.fetched ++ [waiting 0 b (s.depOf b)] ∧
        t = { s with hif := t.hif, out := t.out } ∧ t.hif.cpls = s.hif.cpls ∧ t.hif.inExec = s.hif.inExec)) ∧
  (∀ (s : State) (ring : BitVec 6) (b : List Byte) (c : Nat), SMap.wf ringReset s.hif.rings = true → b.length = 64 →
    s.pwr.state = .run → (s.ring ring.toNat).en = true → s.requests = true →
    idxDiff (s.ring ring.toNat).bell (s.ring ring.toNat).idx ≠ 0 → (s.ring (s.cplRing ring.toNat)).en = true →
    s.malformed b = some c →
    ∃ t, exec (.descriptorFetch ring { descs := [b], err := none }) s = .next t ∧ t.hif.fetched = s.hif.fetched ∧
      (∃ x : Cpl, t.hif.cpls = s.hif.cpls ++ [x] ∧ x.status = 0x09 ∧ x.cause = c ∧ x.tag = leAt b 2 2 ∧
        x.index = (s.ring ring.toNat).idx) ∧
      (s.gen ≠ 1 → leAt b 60 4 ≠ (crc32c (b.take 60)).toNat → c = 5) ∧
      (c = 1 → opKnown (leAt b 0 1) = false))

/-- 03 R102, R103, 04 R131, 05 R171, 07 R205, 08 R255, 09 R283, 10 R302, 12 R356, R358, 15 R418: a descriptor row with an operand
outside its range completes malformed with cause 3, one whose data reference is misaligned or empty with cause 4, and nothing else
of the machine changes. -/
def Obligations.OutOfRangeOperandsDoNothing : Prop :=
  ∀ (s : State) (d : DescRef) (p : ParcelNo) (e : EngineNo) (l : LinkNo) (a b : Quad) (off len mask reps : Word) (x y z : Byte)
    (id first count : BitVec 16) (o : DataOut) (blk : HostBlock) (bs : List HostBlock) (ecc : Ecc) (ok rel : Bool)
    (m : CalSeen) (r : List PageRead) (f : List (BitVec 16)) (pb : Option Word),
    let ends (c : Instr) (op cause : Nat) : Prop := s.cplOn (descId d op) → s.otherBytes (descId d op) (rowFields c) = false →
      ∃ t, exec c s = .next t ∧ t.hif.cpls = s.hif.cpls ++ [cplOf (s.named (descId d op)) { status := 9, cause := cause }] ∧
        t = { s with hif := t.hif }
    s.pwr.state = .run → (∀ h ∈ bs, h.wellFormed = true) → blk.wellFormed = true →
    ends (.load d a []) 0x01 4 ∧ ends (.cqPush d p []) 0x04 4 ∧ ends (.nvmProgram d off x []) 0x30 4 ∧
    (a.toNat % 4096 ≠ 0 ∨ b.toNat % 4096 ≠ 0 → ends (.sxlCopy d a b len l ecc ok pb) 0x03 3) ∧
    (mask.toNat = 0 ∨ off.toNat % 8 ≠ 0 ∨ len.toNat % 8 ≠ 0 ∨ len.toNat < 8 ∨ 4096 * bs.length < len.toNat ∨
      65536 < off.toNat + len.toNat → ends (.localLoad d p mask off len bs) 0x10 3) ∧
    (off.toNat % 8 ≠ 0 ∨ len.toNat % 8 ≠ 0 ∨ len.toNat < 8 ∨ 4096 * o.blocks.toNat < len.toNat ∨ 65536 < off.toNat + len.toNat →
      ends (.localRead d e off len o) 0x11 3) ∧
    (1024 < first.toNat + count.toNat ∨ 8 ≤ x.toNat → ends (.benchRead d id first count x rel o len) 0x19 3) ∧
    (2 ≤ x.toNat ∨ off.toNat % 4096 ≠ 0 → ends (.failMemRead d p x off o) 0x1A 3) ∧
    (2 ≤ x.toNat ∨ off.toNat % 4096 ≠ 0 ∨ len.toNat % 4096 ≠ 0 → ends (.failMemClear d p x off len) 0x1B 3) ∧
    (x.toNat < 16 → 12 ≤ x.toNat ∨ 32 ≤ y.toNat ∨ z.toNat = 0 ∨ reps.toNat = 0 ∨ 65536 < reps.toNat ∨ id.toNat < 128 →
      ends (.calMeasure d p x y z mask len reps id o m) 0x1C 3) ∧
    (3 ≤ x.toNat ∨ 3 ≤ y.toNat → ends (.imageStage d x y len) 0x20 3) ∧
    (x.toNat < 3 → y.toNat = 0 → len.toNat = 0 → ends (.imageStage d x y len) 0x20 4) ∧
    (3 ≤ x.toNat → ends (.switchOver d x rel) 0x21 3) ∧ (2 ≤ x.toNat → ends (.keyFuseProgram d x blk rel) 0x23 3) ∧
    (2 ≤ x.toNat → ends (.keyFuseRevoke d x) 0x24 3) ∧ (2 ≤ x.toNat → ends (.keyRamLoad d x blk) 0x25 3) ∧
    (count.toNat = 0 ∨ 384 < len.toNat + count.toNat → ends (.readbackRead d id len count rel o) 0x28 3) ∧
    (x.toNat < 4 → 4 ≤ y.toNat → ends (.pwrLevel d x mask y) 0x41 3) ∧
    (o.addr.toNat % 4096 ≠ 0 ∨ o.checks.toNat % 4 ≠ 0 ∨ o.blocks.toNat = 0 →
      ends (.dvmRead d a o ecc) 0x02 4 ∧ ends (.nvmRead d off x o r) 0x30 4 ∧ ends (.slotScan d x y o f) 0x30 4 ∧
      ends (.wearReport d o) 0x30 4)

/-- 12 R348, R352, R358: the oldest completion due to an enabled completion ring with a free slot is written to host memory at the
ring's tail as 32 bytes, the tail moves, and the descriptor leaves execution; no other completion is lost or reordered.
01 R31, R32, 12 R362, R363: the oldest event due to an enabled event ring with space goes out at the ring's tail, with its
continuations at once behind it, as records of 32 bytes whose last four are the CRC-32C of the others; the other events stay, in their
order. A record of a parcel's FQ goes out unchanged, and the next of its packet is due then. -/
def Obligations.CompletionsAndEventsAreWritten : Prop :=
  (∀ (s : State) (ring : BitVec 6) (x : Cpl) (early rest : List Cpl), s.mapsWf → s.requests = true → s.pwr.entryWait = none →
    (s.ring (64 + ring.toNat)).en = true → s.ringSpace (64 + ring.toNat) = true → s.hif.cpls = early ++ x :: rest →
    (∀ y ∈ early, s.cplRing y.ring ≠ 64 + ring.toNat) → s.cplRing x.ring = 64 + ring.toNat →
    ∃ t l, exec (.completionWrite ring) s = .next t ∧ t.hif.cpls = early ++ rest ∧
      t.out = s.out ++ .host (s.ringAddr (64 + ring.toNat) +
        32 * ((s.ring (64 + ring.toNat)).idx % s.ringSize (64 + ring.toNat))) (x.bytes s.gen) :: l ∧
      (x.bytes s.gen).length = 32 ∧
      (t.ring (64 + ring.toNat)).idx = ((s.ring (64 + ring.toNat)).idx + 1) % 2 ^ 32 ∧
      t.hif.inExec = s.hif.inExec.filter (fun y => !(y.ring == x.ring && y.index == x.index && y.serial == x.serial)) ∧
      t = { s with hif := t.hif, out := t.out }) ∧
  (∀ (s : State) (k : BitVec 4) (p : ParcelNo) (r : EvRec) (early more rest : List EvRec), s.mapsWf → s.pwr.state = .run →
    s.requests = true → (s.ring (128 + k.toNat)).en = true → (s.ring (128 + k.toNat)).idx < 2 ^ 32 →
    let slot (i : Nat) := s.ringAddr (128 + k.toNat) +
      32 * (((s.ring (128 + k.toNat)).idx + i) % 2 ^ 32 % s.ringSize (128 + k.toNat))
    (s.hif.evBuf = early ++ r :: more ++ rest → (∀ q ∈ early, s.evRing q.code ≠ k.toNat ∨ q.cont = true) → s.evRing r.code = k.toNat →
      r.cont = false → (∀ q ∈ more, q.cont = true) → (∀ q ∈ rest.head?, q.cont = false) →
      more.length < s.ringFree (128 + k.toNat) → s.hif.lost = 0 →
      ∃ t l, exec (.eventRecordWrite k .buffer) s = .next t ∧ t.hif.evBuf = early ++ rest ∧
        t.out = s.out ++ (r :: more).mapIdx (fun i q => .host (slot i) q.bytes) ++ l ∧
        (∀ q ∈ r :: more, q.bytes.length = 32 ∧ leAt q.bytes 28 4 = (crc32c (q.bytes.take 28)).toNat) ∧
        (t.ring (128 + k.toNat)).idx = ((s.ring (128 + k.toNat)).idx + 1 + more.length) % 2 ^ 32 ∧
        t = { s with hif := t.hif, out := t.out }) ∧
    (s.parRing p.toNat = k.toNat → s.fqHolds p.toNat = true → s.ringSpace (128 + k.toNat) = true → s.parcelsClocked = true →
      let x := s.p p.toNat
      ∃ t l, exec (.eventRecordWrite k (.parcel p)) s = .next t ∧
        t.out = s.out ++ .host (slot 0) (wordBytes ((x.fq.q.drop (1 + 4 * x.fqDone)).take 4)) :: l ∧
        (t.ring (128 + k.toNat)).idx = ((s.ring (128 + k.toNat)).idx + 1) % 2 ^ 32 ∧ t.hif.evBuf = s.hif.evBuf ∧
        (x.fqDone + 1 < hdrLen (x.fq.q.headD 0) / 4 → t.p p.toNat = { x with fqDone := x.fqDone + 1 }) ∧
        (hdrLen (x.fq.q.headD 0) / 4 ≤ x.fqDone + 1 → (t.p p.toNat).fqDone = 0) ∧ (∀ q, q ≠ p.toNat → t.p q = s.p q) ∧
        t = { s with hif := t.hif, par := t.par, out := t.out }))

/-- 12 R346, R352, R345: DEV_GEN takes the host's set while no ring is enabled, and the generation selected is the highest in both sets;
with a ring enabled the write raises ACCESS_ERROR cause 5 and changes nothing else. A moderation timer that has run out sends the
ring's message, or sets its pending bit while the vector is masked, and starts its count anew. Bus Master Enable, and what else the host
programs, are as configuration space sets them. -/
def Obligations.GenerationsTimersAndBusMaster : Prop :=
  ∀ (s : State) (v : Word) (ring : Fin 80) (on : Bool) (ctl : PciCtl), s.mapsWf → s.pwr.state = .run →
    ((∀ n, n < 144 → (s.ring n).en = false) →
      ∃ t, exec (.devGenWrite v) s = .next t ∧ t = { s with regs := t.regs } ∧ (∀ k, k ≠ 0x100014 → t.reg k = s.reg k) ∧
        t.gen = (if v.toNat.testBit 11 then 3 else if v.toNat.testBit 10 then 2 else if v.toNat.testBit 9 then 1 else 0)) ∧
    (∀ n, n < 144 → (s.ring n).en = true → exec (.devGenWrite v) s = .next (s.raise 0x0101 [it4 0x100014, it1 5])) ∧
    ((s.ring (64 + ring)).timer.isSome = true → s.regF (ringBase (64 + ring) + 12) 16 16 ≠ 0 → s.requests = true →
      ∃ t, exec (.interruptTimer ring) s = .next t ∧ (t.ring (64 + ring)).timer = none ∧ (t.ring (64 + ring)).since = 0 ∧
        (s.vectorOpen (s.ringVector (64 + ring)) = true → t.out = s.out ++ [.msix (s.ringVector (64 + ring))] ∧
          t.hif.msixPend = s.hif.msixPend) ∧
        (s.vectorOpen (s.ringVector (64 + ring)) = false → t.out = s.out ∧
          t.hif.msixPend.get noFlag (s.ringVector (64 + ring)) = true)) ∧
    (∃ t, exec (.busMasterEnable on ctl) s = .next t ∧ t.hif.busMaster = on ∧ t.hif.pci.mps = ctl.mps.toNat ∧
      t.hif.pci.ptm = ctl.ptm ∧ t.hif.pci.msix = ctl.msix ∧ t.hif.pci.fmask = ctl.fmask ∧ t.hif.pci.d3 = ctl.d3 ∧
      t = { s with hif := t.hif, out := t.out } ∧ (on = false → t.out = s.out))

/-- 01 R28, R30, 08 R252: an aligned access of 4 or 8 bytes to the FAB window is presented to the running design behind those still held,
and its acknowledgement within 2 µs completes it, a read with the design's data in the access's lanes of the 8-byte word; 2 µs without
one complete it, a read with 0, and raise FAB_WINDOW_TIMEOUT with its offset. With no design running a read completes with 0 and a
write is dropped, with no event. An access of another size, or misaligned, raises ACCESS_ERROR with cause 1. -/
def Obligations.FabWindowAccesses : Prop :=
  ∀ (s : State) (off : BitVec 23) (size : BitVec 4) (wr : Bool) (v data : Quad) (a : FabAccess) (rest : List FabAccess),
    s.pwr.state = .run →
    let x : FabAccess := { off := off.toNat, size := size.toNat, write := wr, value := if wr then v.toNat % 2 ^ (8 * size.toNat) else 0 }
    let behind : List FabAccess := match rest with
      | [] => []
      | b :: l => { b with from_ := some (b.from_.getD s.tim.tick) } :: l
    let done (d : Nat) : State := { s with
      hif := { s.hif with fab := behind },
      out := if a.write then s.out else s.out ++ [.fabRead (d / 2 ^ (8 * (a.off % 8)) % 2 ^ (8 * a.size))] }
    (size = 4 ∨ size = 8 → off.toNat % size.toNat = 0 →
      (s.designRuns = true →
        (s.hif.fab = [] → exec (.fabWindowAccess off size wr v) s = .next
          { s with hif := { s.hif with fab := [{ x with from_ := some s.tim.tick }] } }) ∧
        (s.hif.fab = a :: rest → a.from_.isSome = true → exec (.fabWindowAccess off size wr v) s = .next
          { s with hif := { s.hif with fab := s.hif.fab ++ [x] } })) ∧
      (s.designRuns = false →
        exec (.fabWindowAccess off size wr v) s = .next (if wr then s else { s with out := s.out ++ [.fabRead 0] }))) ∧
    ((size ≠ 4 ∧ size ≠ 8) ∨ off.toNat % size.toNat ≠ 0 →
      ∃ t, exec (.fabWindowAccess off size wr v) s = .next t ∧ t.hif.fab = s.hif.fab ∧
        t.hif.evBuf = (s.raise 0x0101 [it4 (0x1800000 + off.toNat), it1 1]).hif.evBuf) ∧
    (s.hif.fab = a :: rest →
      (s.winOver a = false → exec (.winAck data) s = .next (done data.toNat) ∧ exec .fabWindowTimeout s = .next s) ∧
      (s.winOver a = true → exec .fabWindowTimeout s = .next ((done 0).raise 0x0102 [it4 (0x1800000 + a.off)]) ∧
        exec (.winAck data) s = .next s)) ∧
    (s.hif.fab = [] → exec (.winAck data) s = .next s ∧ exec .fabWindowTimeout s = .next s)

/-- 00 R12, R13, 12 R364, R365: a device reset, whichever of its triggers makes it, disables every ring, holds nothing fetched, in
execution or due, dissolves every site and clears channels-live; it keeps what flash sectors, key fuses, the key RAM and the AON
domain hold, and the commands that wait. DEV_RESET needs its key and keeps configuration space; the others clear Bus Master Enable. -/
def Obligations.DeviceResetsKeepAndClear : Prop :=
  ∀ (s : State) (v : Word), s.normal →
    (∀ c ∈ ([.devReset v, .functionLevelReset, .perstAssert, .hotReset, .dlDown] : List Instr),
      (c = .devReset v → v.toNat % 2 ^ 16 = 0x9D2B) →
      ∃ t, exec c s = .next t ∧ (∀ n, (t.ring n).en = false) ∧ t.hif.fetched = [] ∧ t.hif.inExec = [] ∧ t.hif.cpls = [] ∧
        t.sites = [] ∧ t.cfg.live = false ∧ t.tim.started = false ∧ t.regF 0x100014 8 4 = 0 ∧ t.pending = s.pending ∧
        t.flash.pages = s.flash.pages ∧ t.flash.sectors = s.flash.sectors ∧ t.flash.map = s.flash.map ∧
        t.keys.f0 = s.keys.f0 ∧ t.keys.f1 = s.keys.f1 ∧ t.keys.ram = s.keys.ram ∧
        t.aon.wakeEn = s.aon.wakeEn ∧ t.aon.wakeCount = s.aon.wakeCount ∧ t.aon.keyLock = s.aon.keyLock ∧
        t.hif.busMaster = (if c = .devReset v then s.hif.busMaster else false)) ∧
    (v.toNat % 2 ^ 16 ≠ 0x9D2B → exec (.devReset v) s = .next (s.raise 0x0101 [it4 0x100020, it1 2]))

/-- 10 R323, R300, R312, R298: a keyed configuration register takes a write that carries 0xC5A7 in its upper half, and one without only
raises KEY_WRITE_REFUSED; CFG_KEY_POLICY keeps its value while locked. TAMPER on a pin that selects it, and the loss of VBAT, clear the
key RAM and leave their sticky bits; the loss of VAON clears the AON domain, with the boot-attempt counter and the lock. -/
def Obligations.KeyedWritesAndZeroization : Prop :=
  ∀ (s : State) (v : Word) (pin : Fin 2), s.pwr.state = .run →
    (v.toNat / 2 ^ 16 = 0xC5A7 →
      exec (.cfgBootPolicyWrite v) s = .next { s with cfg := { s.cfg with gStageEn := v.toNat.testBit 3 },
                                                      flash := { s.flash with prefSlot := v.toNat % 4, extEn := v.toNat.testBit 2 } } ∧
      exec (.cfgJtagCtlWrite v) s = .next { s with cfg := { s.cfg with jtagCtl := v.toNat % 8 } } ∧
      exec (.cfgKeyPolicyWrite v) s = .next (if s.aon.keyLock then s
        else { s with cfg := { s.cfg with fuseProgEn := v.toNat.testBit 3 }, aon := { s.aon with keyLock := v.toNat.testBit 4 },
                      flash := { s.flash with keyEn := v.toNat % 8 } })) ∧
    (v.toNat / 2 ^ 16 ≠ 0xC5A7 →
      exec (.cfgBootPolicyWrite v) s = .next (s.raise 0x0309 [it4 0x300008]) ∧
      exec (.cfgKeyPolicyWrite v) s = .next (s.raise 0x0309 [it4 0x30000C]) ∧
      exec (.cfgJtagCtlWrite v) s = .next (s.raise 0x0309 [it4 0x300028])) ∧
    (s.pins.tamper.get noFlag pin.val = true →
      exec (.tamper pin) s = .next (({ s with keys := { s.keys with ram := none, tamper := true } }).raise 0x0308 [])) ∧
    exec .vbatLost s = .next (({ s with keys := { s.keys with ram := none, vbatLost := true } }).raise 0x0308 []) ∧
    (∀ st ∈ ([.deepSleep, .off] : List PState), let q : State := { s with pwr := { s.pwr with state := st } }
      exec .vbatLost q = .next { q with keys := { s.keys with ram := none, vbatLost := true, eventDue := s.keys.eventDue ++ [1] } }) ∧
    ∃ t, exec .vaonLoss s = .next t ∧ t.aon.bootCount = 0 ∧ t.aon.keyLock = false ∧ t.aon.wakeCount = 0 ∧ t = { s with aon := t.aon }

/-- 10 R298, R299: KEY_FUSE_PROGRAM writes the block's first 32 bytes as the key of a slot that is neither programmed nor revoked, with
fuse_prog_en = 1 and VPP present, and clears fuse_prog_en; KEY_FUSE_REVOKE revokes a slot once; KEY_RAM_LOAD unwraps a key under an
available fuse key; KEY_RAM_CLEAR empties the key RAM. Each completes, and changes nothing else. -/
def Obligations.KeyCommands : Prop :=
  ∀ (s : State) (d : DescRef) (slot : Byte) (b : HostBlock) (k : List Byte), b.wellFormed = true → b.err = none →
    crc32c b.data = b.check → slot.toNat < 2 →
    (s.starts (descId d 0x23) (rowFields (.keyFuseProgram d slot b true)) false = true → s.cplOn (descId d 0x23) → s.cfg.fuseProgEn = true →
      (s.keys.fuse slot.toNat).prog = false → (s.keys.fuse slot.toNat).revoked = false →
      ∃ t, exec (.keyFuseProgram d slot b true) s = .next t ∧ (t.keys.fuse slot.toNat).prog = true ∧
        (t.keys.fuse slot.toNat).key = b.data.take 32 ∧ t.keys.fuse (1 - slot.toNat) = s.keys.fuse (1 - slot.toNat) ∧
        t.keys.ram = s.keys.ram ∧ t.cfg = { s.cfg with fuseProgEn := false } ∧
        t.hif.cpls = s.hif.cpls ++ [cplOf (s.named (descId d 0x23)) {}] ∧ t = { s with keys := t.keys, cfg := t.cfg, hif := t.hif }) ∧
    (s.starts (descId d 0x24) (rowFields (.keyFuseRevoke d slot)) false = true → s.cplOn (descId d 0x24) → (s.keys.fuse slot.toNat).revoked = false →
      ∃ t, exec (.keyFuseRevoke d slot) s = .next t ∧ t.keys.fuse slot.toNat = { s.keys.fuse slot.toNat with revoked := true } ∧
        t.keys.fuse (1 - slot.toNat) = s.keys.fuse (1 - slot.toNat) ∧
        t.hif.cpls = s.hif.cpls ++ [cplOf (s.named (descId d 0x24)) {}] ∧ t = { s with keys := t.keys, hif := t.hif }) ∧
    (s.starts (descId d 0x25) (rowFields (.keyRamLoad d slot b)) true = true → s.cplOn (descId d 0x25) → s.keyFor slot.toNat = some k →
      ∃ t, exec (.keyRamLoad d slot b) s = .next t ∧
        (match keyUnwrap k (b.data.take 40) with
         | some x => t.keys = { s.keys with ram := some x } ∧ t.hif.cpls = s.hif.cpls ++ [cplOf (s.named (descId d 0x25)) {}]
         | none => t.keys = s.keys ∧ t.hif.cpls = s.hif.cpls ++ [cplOf (s.named (descId d 0x25)) { status := 2 }]) ∧
        t = { s with keys := t.keys, hif := t.hif }) ∧
    (s.starts (descId d 0x26) [] false = true → s.cplOn (descId d 0x26) →
      ∃ t, exec (.keyRamClear d) s = .next t ∧ t.keys = { s.keys with ram := none } ∧
        t.hif.cpls = s.hif.cpls ++ [cplOf (s.named (descId d 0x26)) {}] ∧ t = { s with keys := t.keys, hif := t.hif })

/-- 10 R301, R307, R309, 08 R243: a load whose header and slot are valid, whose key is available where it is bound to one, whose pages, with
their own addresses, and frame checks are good and whose frames keep the long-line rule is released: configuration SRAM and fabric RAM hold
the slot's frames, the slot is active, GSR deasserts and the start-confirm timer runs. Clocks, parcel ports and pins follow in this order;
the pins leave their boot state, and channels-live is set where the image says so. Where the long-line rule is broken GSR stays asserted.
A switch-over whose load fails completes with the first reason, and the slot active before is loaded again. 09 R277, R280: a load waits for
the journal, and its reads that were corrected are counted. -/
def Obligations.ReleaseInOrder : Prop :=
  ∀ (s : State) (l : Load) (bad : List (Fin 260 × BitVec 13)) (corrected : BitVec 16) (high : BitVec 8) (headerBad : Bool),
    (s.cfg.load = some l →
      (s.nvm.journalBusy = true → exec (.gsrRelease bad corrected high headerBad) s = .next s) ∧
      (s.nvm.journalBusy = false → (s.flash.slot l.slot).valid = true → l.keyOk = true →
        (∀ b, b < 256 → s.flash.bankCheck b l.slot = (s.flash.slot l.slot).checks.get zeroNat b) → s.flash.strayPages l.slot = [] →
        ∃ t, exec (.gsrRelease [] corrected high false) s = .next t ∧
          (Config.longLine (s.flash.longFrames l.slot) = none →
            t.fab.gsr = false ∧ t.fab.sram = s.flash.sramOf l.slot ∧ t.fab.ram = s.flash.ramOf l.slot ∧ t.cfg.active = l.slot ∧
            t.cfg.loaded = true ∧ t.cfg.load = none ∧ t.cfg.released = some l ∧ t.cfg.phase = 1 ∧ t.aon.loadFlag = false ∧
            t.cfg.source = l.source ∧ t.nvm.eccCorr = satAdd 16 s.nvm.eccCorr corrected.toNat) ∧
          (Config.longLine (s.flash.longFrames l.slot) ≠ none → t.fab.gsr = s.fab.gsr ∨ t.fab.gsr = true)) ∧
      (∀ i mp, l.why = .switch i mp → l.prev < 3 → s.nvm.journalBusy = false → s.cplOn i → s.sites = [] → s.fab.rbPend = none →
        headerBad = true ∨ (s.flash.slot l.slot).valid = false ∨ l.keyOk = false ∨ bad ≠ [] →
        ∃ t q, exec (.gsrRelease bad corrected high headerBad) s = .next t ∧
          t.cfg.load = some { slot := l.prev, why := .revert, prev := s.cfg.active, keyOk := q } ∧
          t.hif.cpls = s.hif.cpls ++ [cplOf i
            { status := 2, flags := 1, cause := (if headerBad || !(s.flash.slot l.slot).valid then 1 else if !l.keyOk then 4 else 7) }])) ∧
    (s.cfg.phase = 1 → exec .fabricClocksEnable s =
      .next { s with cfg := { s.cfg with phase := 2 }, fab := { s.fab with clocks := true, edges := 0 } }) ∧
    (s.cfg.phase = 2 → exec .parcelPortsEnable s =
      .next { s with cfg := { s.cfg with phase := 3 }, fab := { s.fab with ports := true } }) ∧
    (s.cfg.phase = 3 → SMap.wf pinReset s.pins.pin = true →
      ∃ t, exec .gpioBootExit s = .next t ∧ (∀ n, n < 96 → (t.pin n).boot = false) ∧
        t.cfg = { s.cfg with phase := 4, live := s.cfg.live || (s.flash.slot s.cfg.active).policy.testBit 0 } ∧
        t = { s with pins := t.pins, cfg := t.cfg })

/-- 10 R310 to R312, R316, R398: a write of ok, or START_OK at 1 once the fabric clocks run, from the fabric or from a pin that serves it,
confirms the start: the timer stops, the boot-attempt counter is 0, the attempt is the newest of the boot history, and START_CONFIRMED is
raised. A start that is not confirmed in time has GSR asserted, channels not live and no site formed; after a switch-over its attempt is
recorded with reason 0x06 (the model's reading, log entry 70), and the slot active before is loaded again. -/
def Obligations.StartsAreConfirmedOrReverted : Prop :=
  ∀ (s : State) (v : Word) (l : Load) (fabric pad : Bool), s.pwr.state = .run → s.cfg.released = some l →
    (∀ c ∈ ([.cfgStartOk v, .startOkSignal fabric pad] : List Instr), (c = .cfgStartOk v → v.toNat.testBit 0 = true) →
      (c = .startOkSignal fabric pad → s.fab.clocks = true ∧
        (fabric = true ∨ (pad = true ∧ s.inputServed 10 (fun _ => true) = true))) → s.hif.evBuf.length < 4096 →
      ∃ t, exec c s = .next t ∧ t.cfg.released = none ∧ t.cfg.confirmed = true ∧ t.cfg.booting = false ∧ t.aon.bootCount = 0 ∧
        t.flash.boots = ({ source := l.source, reason := 0, seq := s.flash.bootSeq + 1 } :: s.flash.boots).take 8 ∧
        t.hif.evBuf = s.hif.evBuf ++ evRecords s.devNum 0x0302 s.stampNow false [[]] ∧
        t = { s with cfg := t.cfg, aon := t.aon, flash := t.flash, hif := t.hif }) ∧
    (∃ t, exec .startConfirmTimeout s = .next t ∧ t.fab.gsr = true ∧ t.fab.clocks = false ∧ t.cfg.live = false ∧
      t.cfg.loaded = false ∧ t.sites = [] ∧
      (∀ d p, l.why = .switch d p → l.prev < 3 →
        (∃ q, t.cfg.load = some { slot := l.prev, why := .revert, prev := 3, keyOk := q }) ∧ t.aon.loadFlag = true ∧
        t.flash.boots = ({ source := l.source, reason := 6, seq := s.flash.bootSeq + 1 } :: s.flash.boots).take 8 ∧
        t.cfg.lastReason = 6))

/-- 10 R308, R315, R319: SWITCH_OVER of a valid slot, with no run active, no staging of that slot and no other switch-over in its way, begins
a load of it: every site is dissolved, channels are not live, GSR is asserted and the AON flag marks the load; otherwise it completes refused.
BOOT_RETRY leaves base mode, with the counter cleared and every parcel on, and loads the preferred slot where it is valid;
outside base mode it completes refused. In base mode a descriptor that is not one of R319's completes with status 0x0A, refused,
base mode, and does nothing else (the rows named here; log entry 6 for a row with no fetched descriptor). -/
def Obligations.SwitchOverAndBootRetry : Prop :=
  ∀ (s : State) (d : DescRef) (slot : Byte) (mp : Bool),
    (s.starts (descId d 0x21) (rowFields (.switchOver d slot mp)) false = true → slot.toNat < 3 → s.cfg.base = false →
      (s.fab.rbPend = none → s.activeSites = [] → (s.flash.slot slot.toNat).valid = true →
        (∀ x ∈ s.cfg.stage, x.slot ≠ slot.toNat) → (∀ l ∈ s.cfg.load, l.switches = false) →
        ∃ t, exec (.switchOver d slot mp) s = .next t ∧
          t.cfg.load = some { slot := slot.toNat, why := .switch (s.named (descId d 0x21)) mp, prev := s.cfg.active,
                              keyOk := s.boundKeyOk slot.toNat } ∧
          t.sites = [] ∧ t.cfg.live = false ∧ t.cfg.loaded = false ∧ t.fab.gsr = true ∧ t.aon.loadFlag = true ∧
          t.flash = s.flash ∧ t.hif.cpls = s.hif.cpls) ∧
      (s.cplOn (descId d 0x21) → s.activeSites ≠ [] ∨ (s.flash.slot slot.toNat).valid = false ∨
          (∃ x ∈ s.cfg.stage, x.slot = slot.toNat) ∨ (∃ l ∈ s.cfg.load, l.switches = true) →
        ∃ t, exec (.switchOver d slot mp) s = .next t ∧ t.hif.cpls = s.hif.cpls ++ [cplOf (s.named (descId d 0x21)) { status := 1 }] ∧
          t = { s with hif := t.hif })) ∧
    (s.starts (descId d 0x22) [] true = true → s.cplOn (descId d 0x22) →
      (s.cfg.base = true → s.sites = [] → s.fab.rbPend = none →
        ∃ t, exec (.bootRetry d) s = .next t ∧ t.hif.cpls = s.hif.cpls ++ [cplOf (s.named (descId d 0x22)) {}] ∧
          (s.cfg.wakeSlot = 3 → (s.flash.slot s.pref).valid = true → s.aon.loadFlag = false →
            t.cfg.base = false ∧ t.aon.bootCount = 0 ∧ t.cfg.booting = true ∧
            (∀ p, p < 32 → t.parcelOn p = true) ∧ (∃ q k, t.cfg.load = some { slot := s.pref, why := .boot s.pref, prev := q, keyOk := k }))) ∧
      (s.cfg.base = false →
        ∃ t, exec (.bootRetry d) s = .next t ∧ t.hif.cpls = s.hif.cpls ++ [cplOf (s.named (descId d 0x22)) { status := 1 }] ∧
          t = { s with hif := t.hif })) ∧
    (s.pwr.state = .run → s.pwr.entryWait = none → s.cfg.base = true → ∀ (n : SiteNo) (w : Word),
      ∀ p ∈ ([(.siteDissolve d n, 0x13), (.runAbort d n, 0x15), (.runReset d n, 0x16), (.channelsLiveSet d, 0x17),
          (.channelsLiveClear d, 0x17), (.keyRamClear d, 0x26), (.nvmErase d w, 0x30), (.nvmSuspend d, 0x30), (.nvmResume d, 0x30),
          (.pwrStateIdle d, 0x40), (.pwrStateSleep d, 0x40), (.pwrStateOff d, 0x40), (.clkSwitchFio d, 0x42),
          (.pclPowerOn d w, 0x43), (.pclPowerOff d w, 0x43)] : List (Instr × Nat)),
      s.fetchedAs (descId d p.2) = none → s.cplOn (descId d p.2) →
      ∃ t, exec p.1 s = .next t ∧ t.hif.cpls = s.hif.cpls ++ [cplOf (descId d p.2) { status := 0x0A }] ∧
        t = { s with hif := t.hif })

/-- 10 R289, R302, R303, R306: IMAGE_STAGE opens a staging of a slot that is neither active nor the target of a load, slot G only with
g_stage_en, which the staging clears; it is busy while another is in progress and otherwise refused. The first block whose header no check
refuses makes the slot invalid; a good block of a body whose structure holds adds its bytes, from the host or from a flash source whose
directory names the image; a block from the host whose check fails ends the staging. With every byte checked and every flash operation done
STAGE_DONE makes the slot valid with the image's ID and completes the descriptor, or the port's command, or begins the boot's load; an
external flash that stops responding ends a staging from it, with reason 0x0E, or in a boot 0x08. -/
def Obligations.ImagesAreStaged : Prop :=
  ∀ (s : State) (d : DescRef) (slot source : Byte) (blocks : Word) (b : HostBlock) (dirs : List (List Byte)) (octal : Bool) (x : Staging)
    (i : DescId) (f g : Bool),
    (s.starts (descId d 0x20) (rowFields (.imageStage d slot source blocks)) true = true → slot.toNat < 3 → source.toNat < 3 →
      (source.toNat = 0 ↔ blocks.toNat ≠ 0) →
      (s.cfg.stage = none → s.cfg.active ≠ slot.toNat →
        (∀ l ∈ s.cfg.load, l.slot ≠ slot.toNat) → (slot.toNat = 2 → s.cfg.gStageEn = true) →
        ∃ t, exec (.imageStage d slot source blocks) s = .next t ∧
          t.cfg = { s.cfg with
                    stage := some { src := .host (s.named (descId d 0x20)) (decide (source.toNat ≠ 0)) (decide (source.toNat = 2)),
                                    slot := slot.toNat, blocks := blocks.toNat },
                    stageSlot := slot.toNat, stageReason := 0, banksDone := 0, gStageEn := s.cfg.gStageEn && decide (slot.toNat ≠ 2) } ∧
          t = { s with cfg := t.cfg, hif := t.hif }) ∧
      (s.cplOn (descId d 0x20) →
        (s.cfg.stage = some x →
          ∃ t, exec (.imageStage d slot source blocks) s = .next t ∧
            t.hif.cpls = s.hif.cpls ++ [cplOf (s.named (descId d 0x20)) { status := 3 }] ∧ t = { s with hif := t.hif }) ∧
        (s.cfg.stage = none → s.cfg.active = slot.toNat ∨ (slot.toNat = 2 ∧ s.cfg.gStageEn = false) →
          ∃ t, exec (.imageStage d slot source blocks) s = .next t ∧
            t.hif.cpls = s.hif.cpls ++ [cplOf (s.named (descId d 0x20)) { status := 1 }] ∧ t = { s with hif := t.hif }))) ∧
    (b.wellFormed = true → b.err = none → s.cfg.stage = some x → x.src ≠ .jtag → x.arrived = false →
      (x.fromFlash = false → crc32c b.data = b.check ∧ s.requests = true) → (x.fromFlash = true → x.bytes ≠ [] ∧ x.dirLen.isSome = true) →
      let y : Staging := { x with bytes := x.bytes ++ b.data }
      (x.begun = true → y.body.bad = none → (y.bytes.length < 84 + (readHeader y.bytes).len ∨ s.stageOps = true) →
        ∃ t z, exec (.stageBlock b dirs octal) s = .next t ∧ t.cfg.stage = some z ∧ z.bytes = y.bytes ∧ z.src = x.src ∧
          z.slot = x.slot ∧ z.handled = y.body.frames.length ∧ z.arrived = decide (84 + (readHeader y.bytes).len ≤ y.bytes.length) ∧
          t = { s with cfg := t.cfg, nvm := t.nvm }) ∧
      (x.begun = false → s.headerFault y = none → (∀ k, k < 256 → s.flash.freeOf k ≠ []) →
        let k : Staging := { y with key := (s.keyFor (readHeader y.bytes).keySel).getD [] }
        k.body.bad = none → y.bytes.length < 84 + (readHeader y.bytes).len → SMap.wf slotReset s.flash.slots = true →
        ∃ t z, exec (.stageBlock b dirs octal) s = .next t ∧ t.cfg.stage = some z ∧ z.begun = true ∧ z.bytes = y.bytes ∧ z.slot = x.slot ∧
          (t.flash.slot x.slot).valid = false ∧ (∀ n, n ≠ x.slot → t.flash.slot n = s.flash.slot n) ∧ t.hif.cpls = s.hif.cpls)) ∧
    (b.wellFormed = true → b.err = none → s.cfg.stage = some x → x.src = .host i false g → x.arrived = false →
      s.requests = true → crc32c b.data ≠ b.check → s.cfg.stageNext = none → s.cplOn i →
      ∃ t c, exec (.stageBlock b dirs octal) s = .next t ∧ t.cfg.stage = none ∧ t.cfg.stageReason = 0x0C ∧
        t.hif.cpls = s.hif.cpls ++ [c] ∧ c.cause = 0x0C ∧ c.status = 0x0B ∧ c.block = x.bytes.length / 4096) ∧
    (s.cfg.stage = some x → x.ready = true → s.stageOps = false → SMap.wf slotReset s.flash.slots = true → s.cfg.stageNext = none →
      ∃ t, exec .stageDone s = .next t ∧ (t.flash.slot x.slot).valid = true ∧ (t.flash.slot x.slot).id = (readHeader x.bytes).id ∧
        (∀ k, k ≠ x.slot → t.flash.slot k = s.flash.slot k) ∧ t.cfg.stage = none ∧ t.cfg.stageReason = 0 ∧
        (x.src = .host i f g → s.cplOn i →
          t.hif.cpls = s.hif.cpls ++ [cplOf i { result := leBytes 4 0 ++ leBytes 8 (readHeader x.bytes).id }] ∧
          t = { s with flash := t.flash, cfg := t.cfg, hif := t.hif }) ∧
        (x.src = .jtag → t.cfg.jtagStatus = 0) ∧
        (x.src = .boot g → x.stale = false → ∃ q k, t.cfg.load =
          some { slot := x.slot, why := .boot (if g then 4 else 3), prev := q, keyOk := k })) ∧
    (s.cfg.stage = some x → x.fromFlash = true → x.arrived = false → s.cfg.stageNext = none →
      ∃ t, exec .extFlashTimeout s = .next t ∧ t.flash.slots = s.flash.slots ∧
        (x.src = .host i true g → s.cplOn i → t.cfg.stage = none ∧ t.cfg.stageReason = 0x0E ∧
          t.hif.cpls = s.hif.cpls ++ [cplOf i { status := 2, cause := 0x0E, result := leBytes 4 0 ++ leBytes 8 0 }]) ∧
        (x.src = .boot g → x.stale = false →
          t.flash.boots = ({ source := if g then 4 else 3, reason := 8, seq := s.flash.bootSeq + 1 } :: s.flash.boots).take 8))

/-- 10 R321: with the TAP powered, IDCODE shifts out 0x27A1_08E9; SAMPLE/PRELOAD the levels at the lands; EXTEST drives the lands while
it is enabled, channels are not live and no run is active; BYPASS puts out what it takes in one bit later, behind a 0; RB_OUT shifts
out the 384 frames of the last capture.
10 R322: a CFG_CMD shifts out the status as it was when the command came; op 0 and op 4 change nothing else; op 1 opens a staging
of a slot, op 2 begins the load of a valid slot, and op 3 leaves base mode, each under the same conditions as its descriptor. A set
reserved operand bit, or an op that is not listed, refuses the command. With cfg_en = 0 the port acts as BYPASS. CFG_IN adds a good block to
the staging the port has opened. -/
def Obligations.JtagRegistersAndCommands : Prop :=
  (∀ (s : State) (lands tdi : List Bool), s.pwr.state ≠ .deepSleep → s.pwr.state ≠ .off →
    exec .jtagIdcode s = .next { s with cfg := { s.cfg with jtagIr := 1 }, out := s.out ++ [.tdo 32 0x27A108E9] } ∧
    (∃ v, exec (.jtagSample lands) s =
        .next { s with cfg := { s.cfg with jtagIr := 2 }, out := s.out ++ [.tdo lands.length v] } ∧
      ∀ i, i < lands.length → v.testBit i = lands.getD i false) ∧
    (s.cfg.jtagCtl.testBit 2 = true → s.cfg.live = false → s.activeSites = [] →
      exec (.jtagExtest lands) s = .next { s with cfg := { s.cfg with jtagIr := 3 },
                                                  out := s.out ++ lands.mapIdx (fun k b => .level "LAND" k b) }) ∧
    (s.cfg.jtagCtl.testBit 2 = false ∨ s.cfg.live = true ∨ s.activeSites ≠ [] →
      ∃ v, exec (.jtagExtest lands) s =
        .next { s with cfg := { s.cfg with jtagIr := 3 }, out := s.out ++ [.tdo lands.length v] } ∧
        ∀ i, i + 1 < lands.length → v.testBit (i + 1) = lands.getD i false) ∧
    (∃ v, exec (.jtagBypass tdi) s =
        .next { s with cfg := { s.cfg with jtagIr := 0xFF }, out := s.out ++ [.tdo tdi.length v] } ∧
      v.testBit 0 = false ∧ ∀ i, i + 1 < tdi.length → v.testBit (i + 1) = tdi.getD i false) ∧
    (s.cfg.jtagCtl.testBit 1 = true → s.fab.rbHeld = true →
      ∃ v, exec .jtagRbOut s =
        .next { s with cfg := { s.cfg with jtagIr := 0x22 }, out := s.out ++ [.tdo (384 * 4096) v] } ∧
        (∀ (k : Fin 384) (i : Fin 512), v / 2 ^ (8 * (512 * k.val + i.val)) % 256 =
          leAt (captureFrame s.fab.rbFf k.val) i.val 1)) ∧
    (s.cfg.jtagCtl.testBit 1 = false →
      exec .jtagRbOut s = .next { s with cfg := { s.cfg with jtagIr := 0x22 }, out := s.out ++ [.tdo 1 0] })) ∧
  (∀ (s : State) (w : BitVec 64) (v : BitVec 56) (b : HostBlock) (x : Staging), s.pwr.state = .run →
    (s.cfg.jtagCtl.testBit 0 = false → exec (.cfgCmdNop w) s =
      .next { s with cfg := { s.cfg with jtagIr := 0x21 }, out := s.out ++ [.tdo 64 (2 * w.toNat % 2 ^ 64)] }) ∧
    (s.cfg.jtagCtl.testBit 0 = true →
    (operandReserved (w.toNat / 256) = false →
      (w.toNat % 256 = 0 ∨ w.toNat % 256 = 4 → exec (.cfgCmdNop w) s =
        .next { s with cfg := { s.cfg with jtagIr := 0x21 }, out := s.out ++ [.tdo 64 (s.jtagStat % 2 ^ 64)] }) ∧
      (4 < w.toNat % 256 → exec (.cfgCmdNop w) s =
        .next { s with cfg := { s.cfg with jtagIr := 0x21, jtagStatus := 2, jtagReason := 0 },
                       out := s.out ++ [.tdo 64 (s.jtagStat % 2 ^ 64)] })) ∧
    (operandReserved v.toNat = false → exec (.cfgCmdStatusRead v) s =
      .next { s with cfg := { s.cfg with jtagIr := 0x21 }, out := s.out ++ [.tdo 64 (s.jtagStat % 2 ^ 64)] }) ∧
    (∀ c ∈ ([.cfgCmdStage v, .cfgCmdSwitchOver v, .cfgCmdBootRetry v, .cfgCmdStatusRead v] : List Instr),
      operandReserved v.toNat = true →
      exec c s = .next { s with cfg := { s.cfg with jtagIr := 0x21, jtagStatus := 2, jtagReason := 0 },
                                out := s.out ++ [.tdo 64 (s.jtagStat % 2 ^ 64)] }) ∧
    (operandReserved v.toNat = false → v.toNat % 4 ≠ 3 → s.cfg.stage = none → s.jtagBusy = false →
      (∀ l ∈ s.cfg.load, l.slot ≠ v.toNat % 4) → s.cfg.active ≠ v.toNat % 4 →
      (v.toNat % 4 = 2 → s.cfg.gStageEn = true) →
      ∃ t, exec (.cfgCmdStage v) s = .next t ∧ t.cfg.stage = some { src := .jtag, slot := v.toNat % 4 } ∧ t.cfg.jtagOp = 1 ∧
        t.cfg.jtagStatus = 1 ∧ t.cfg.jtagTag = v.toNat / 2 ^ 8 % 2 ^ 16 ∧ t = { s with cfg := t.cfg, out := t.out }) ∧
    (operandReserved v.toNat = false → v.toNat % 4 ≠ 3 → s.activeSites = [] → s.jtagBusy = false →
      (∀ y ∈ s.cfg.stage, y.slot ≠ v.toNat % 4) → (∀ l ∈ s.cfg.load, l.switches = false) →
      s.cfg.base = false → (s.flash.slot (v.toNat % 4)).valid = true →
      ∃ t, exec (.cfgCmdSwitchOver v) s = .next t ∧
        t.cfg.load = some { slot := v.toNat % 4, why := .jtag (v.toNat.testBit 2), prev := s.cfg.active,
                            keyOk := s.boundKeyOk (v.toNat % 4) } ∧ t.cfg.jtagOp = 2 ∧
        t.cfg.jtagStatus = 1 ∧ t.sites = [] ∧ t.fab.gsr = true) ∧
    (operandReserved v.toNat = false → s.jtagBusy = false → s.cfg.base = true → s.sites = [] → s.fab.rbPend = none →
      ∃ t, exec (.cfgCmdBootRetry v) s = .next t ∧ t.cfg.jtagOp = 3 ∧ t.cfg.jtagStatus = 0 ∧
        (s.cfg.wakeSlot = 3 → (s.flash.slot s.pref).valid = true → s.aon.loadFlag = false →
          t.cfg.base = false ∧ t.aon.bootCount = 0 ∧
          (∃ q k, t.cfg.load = some { slot := s.pref, why := .boot s.pref, prev := q, keyOk := k }))) ∧
    (b.wellFormed = true → crc32c b.data = b.check → s.cfg.stage = some x → x.src = .jtag → x.arrived = false → x.begun = true →
      ({ x with bytes := x.bytes ++ b.data } : Staging).body.bad = none →
      ((x.bytes ++ b.data).length < 84 + (readHeader (x.bytes ++ b.data)).len ∨ s.stageOps = true) →
      ∃ t y, exec (.jtagCfgIn b) s = .next t ∧ t.cfg.stage = some y ∧ y.bytes = x.bytes ++ b.data ∧
        t.cfg.jtagBlocks = min (s.cfg.jtagBlocks + 1) 65535 ∧ t = { s with cfg := t.cfg, nvm := t.nvm })))

/-- 13 R371 to R373, R378, R383, R375: set, adjust and a rate written wait for the next sync tick, and on a follower are ignored with
ign_write; arm arms the alarm at TIM_ALARM0 to 2, and disarm clears it; a read of TIM_NOW0 snapshots the counter and the tick number;
a PTM dialog sends its request and keeps its t1, and one that PTM Enable forbids only sets ptm_fail. -/
def Obligations.TimeCommands : Prop :=
  ∀ (s : State) (force : Bool) (v : Word), s.pwr.state = .run →
    (s.regF 0x600000 0 2 ≠ 2 →
      exec (.timCmdSet force) s = .next { s with tim := { s.tim with pendStep := some .set, pendForce := force } } ∧
      exec (.timCmdAdjust force) s = .next { s with tim := { s.tim with pendStep := some .adjust, pendForce := force } } ∧
      exec (.timRateWrite v) s = .next { s with tim := { s.tim with pendRate := some v.toNat } }) ∧
    (s.regF 0x600000 0 2 = 2 → ∀ c ∈ ([.timCmdSet force, .timCmdAdjust force, .timRateWrite v] : List Instr),
      exec c s = .next (s.setReg 0x600004 (s.reg 0x600004 ||| 2 ^ 8))) ∧
    exec .timCmdArm s = .next { s with tim := { s.tim with
      armed := some (s.reg 0x600060 + s.reg 0x600064 * 2 ^ 32 + s.reg 0x600068 * 2 ^ 64) } } ∧
    exec .timCmdDisarm s = .next { s with tim := { s.tim with armed := none } } ∧
    exec .timNowSnapshot s = .next { s with tim := { s.tim with
      snap := visible s.tim.value, snapTick := (s.tim.tick + s.tim.off) % 2 ^ 64 } } ∧
    (s.hif.pci.ptm = true → exec .timCmdPtm s = .next { s with
      tim := { s.tim with ptm := s.tim.ptm ++ [visible s.tim.value] }, out := s.out ++ [.level "PTM_REQUEST" 0 true] }) ∧
    (s.hif.pci.ptm = false → exec .timCmdPtm s = .next (s.setReg 0x600004 (s.reg 0x600004 ||| 2 ^ 7)))

/-- 13 R367: the 96 visible bits of a value are its fraction, nanoseconds and seconds, and a value made from them is that value with the
24 lowest bits 0.
13 R368: three datum ticks in a row, with no command between them and rate word r, advance the counter by 2 ns and three times r,
from whatever tick number they begin. -/
def Obligations.DatumTimeCounts : Prop :=
  (∀ v : Nat, v < 2 ^ 48 * (1000000000 * 2 ^ 40) →
    visible v < 2 ^ 96 ∧ ofVisible (visible v) = v / 2 ^ 24 * 2 ^ 24 ∧
    visible v % 2 ^ 16 = v / 2 ^ 24 % 2 ^ 16 ∧ visible v / 2 ^ 16 % 2 ^ 32 = v / 2 ^ 40 % 1000000000 ∧
    visible v / 2 ^ 48 = v / (1000000000 * 2 ^ 40)) ∧
  (∀ (s a b c : State), s.pending = [] → s.tim.started = true → s.tim.locked = true → s.pwr.state = .run →
    (s.tim.tick + s.tim.off) % 2 ^ 64 + 2 < 2 ^ 64 →
    step s = .next a → step a = .next b → step b = .next c →
    (c.tim.value : Int) = ((s.tim.value : Int) + 2 ^ 41 + 3 * signed 32 s.tim.rate) % (2 ^ 48 * (1000000000 * 2 ^ 40)) ∧
    c.tim.tick = s.tim.tick + 3)

/-- 13 R370, R372 to R374, R379: at a sync tick the rate that waits is in force; a set or adjust that waits gives the counter its new value
and raises TIM_STEPPED with the times before and after (held in the event buffer where it has room), unless a timed action is pending
and force is 0: then TIM_STEP_REFUSED is raised and the value stays. A forced one disarms the alarm. Either way it waits no longer, and
every earlier tick keeps its value. With role off no message goes out. Nothing happens at another tick.
13 R370, R381, R382: at a follower, TIME_TICK from the reference gives this tick the reference's number plus the link's latency, and
its rate word; the TIME_VAL that belongs to it sets the value, advanced by the increments since, and, without a correction of the tick,
locks the follower. Another TIME_VAL changes nothing of the counter. -/
def Obligations.TimeIsSetAndFollowed : Prop :=
  (∀ s : State, s.tim.started = true → s.hif.evBuf.length + 2 ≤ 4096 →
    (s.tim.locked = true → s.pwr.state ≠ .sleep → (s.tim.tick + s.tim.off) % 2 ^ 64 % 65536 ≠ 0 → exec .syncTick s = .next s) ∧
    (s.syncDue = true →
      (∃ t, exec .syncTick s = .next t ∧ ∀ n, n < s.tim.tick → t.valueAt n = s.valueAt n) ∧
      (s.tim.pendStep = none →
        ∃ t, exec .syncTick s = .next t ∧
          t.tim = { s.tim with rate := s.tim.pendRate.getD s.tim.rate, pendRate := none, hist := t.tim.hist } ∧
          t = { s with tim := t.tim, links := t.links, out := t.out } ∧
          (s.regF 0x600000 0 2 = 0 → t.links = s.links ∧ t.out = s.out)) ∧
      (∀ k, s.tim.pendStep = some k → s.timedPending = false ∨ s.tim.pendForce = true →
        ∃ t, exec .syncTick s = .next t ∧
          t.tim = { s.tim with
            rate := s.tim.pendRate.getD s.tim.rate, pendRate := none, pendStep := none, pendForce := false,
            armed := if s.tim.pendForce then none else s.tim.armed,
            set := s.tim.set || decide (k = .set), hist := t.tim.hist,
            value := if k = .set then ofVisible (s.reg 0x600020 + s.reg 0x600024 * 2 ^ 32 + s.reg 0x600028 * 2 ^ 64)
              else (((s.tim.value : Int) + signed 64 (s.reg 0x600010 + s.reg 0x600014 * 2 ^ 32) * 2 ^ 24) %
                (2 ^ 48 * (1000000000 * 2 ^ 40))).toNat } ∧
          (t.hif.evBuf.length + 2 ≤ 4096 →
            (evRecords s.devNum 0x0601 (stamp80 t.tim.value) false
              (packItems [] [itTime (stamp80 s.tim.value), itTime (stamp80 t.tim.value)])).all (fun r => t.hif.evBuf.contains r) = true) ∧
          (s.timedPending = false →
            t.hif.evBuf = s.hif.evBuf ++ evRecords s.devNum 0x0601 (stamp80 t.tim.value) false
              (packItems [] [itTime (stamp80 s.tim.value), itTime (stamp80 t.tim.value)]) ∧
            t = { s with tim := t.tim, hif := t.hif, links := t.links, out := t.out })) ∧
      (∀ k, s.tim.pendStep = some k → s.timedPending = true → s.tim.pendForce = false →
        ∃ t, exec .syncTick s = .next t ∧ t.tim.value = s.tim.value ∧ t.tim.pendStep = none ∧
          t.hif.evBuf = s.hif.evBuf ++ evRecords s.devNum 0x0602 s.stampNow false [[]] ∧
          t = { s with tim := t.tim, hif := t.hif, links := t.links, out := t.out }))) ∧
  (∀ (s : State) (h : MsgHead) (b : BitVec 64) (rate : Word) (low : BitVec 16) (tm : DatumTime),
    (s.link h.link.toNat).state = 5 → s.regF 0x600000 0 2 = 2 → s.regF 0x600000 2 2 = h.link.toNat →
    (∃ t, exec (.timeTick h b rate) s = .next t ∧ t.tickNo = (b.toNat + (s.link h.link.toNat).lat) % 2 ^ 64 ∧ t.tim.rate = rate.toNat ∧
      t.tim.tickB = b.toNat ∧ t.tim.tickSeen = true ∧ t.tim.value = s.tim.value ∧ t.tim.tick = s.tim.tick ∧
      t = { s with tim := t.tim, links := t.links }) ∧
    (s.tim.tickSeen = true → low.toNat = s.tim.tickB % 2 ^ 16 →
      (∃ t, exec (.timeVal h low tm) s = .next t ∧ t.tim.value = s.followValue s.tim.tickB tm.toNat ∧ t.tim.tickSeen = false ∧
        t.tim.followLock = (!s.tim.corrected)) ∧
      (s.tickNo = s.tim.tickB → (ofVisible tm.toNat = s.tim.value ∨ ofVisible tm.toNat = s.tim.value + 2 ^ 40) →
        s.tim.value + 2 ^ 40 < 2 ^ 48 * (1000000000 * 2 ^ 40) →
        ∃ t, exec (.timeVal h low tm) s = .next t ∧ t.tim.value = ofVisible tm.toNat ∧ t.tim.tickSeen = false ∧
          t.tim.followLock = !s.tim.corrected ∧ t = { s with tim := t.tim, links := t.links })) ∧
    (s.tim.tickSeen = false ∨ low.toNat ≠ s.tim.tickB % 2 ^ 16 →
      ∃ t, exec (.timeVal h low tm) s = .next t ∧ t.tim = s.tim ∧ t = { s with links := t.links }))

/-- 13 R375 to R378, R383: a PTM dialog starts each interval, and its response writes the oldest dialog's t1, the Master Time and the
Propagation Delay together with the next sequence count; one without a response sets ptm_fail; a PPS_IN edge of the chosen polarity,
after 20 ns at the other level, is captured in datum time, and one missing for 1.1 s raises PPS_MISSING once; PPS_OUT rises at a whole
second and falls pps_width ms later; an armed alarm fires once, at or after its time; a follower with no good message in four sync
intervals loses its lock. -/
def Obligations.TimeEvents : Prop :=
  ∀ (s : State) (time : Quad) (delay : Word) (t1 : Nat) (rest : List Nat) (rise : Bool) (before : BitVec 16) (also : Byte),
    s.pwr.state = .run →
    (s.regF 0x600000 16 8 ≠ 0 →
      (s.hif.pci.ptm = true → exec .ptmInterval s = .next { s with
        tim := { s.tim with ptm := s.tim.ptm ++ [visible s.tim.value] }, out := s.out ++ [.level "PTM_REQUEST" 0 true] }) ∧
      (s.hif.pci.ptm = false → exec .ptmInterval s = .next (s.setReg 0x600004 (s.reg 0x600004 ||| 2 ^ 7)))) ∧
    (s.regF 0x600000 16 8 = 0 → exec .ptmInterval s = .next s) ∧
    (s.tim.ptm = t1 :: rest →
      exec (.ptmResponse time delay) s = .next { s with tim := { s.tim with
        ptm := rest, ptmT1 := t1, ptmTime := time.toNat, ptmDelay := delay.toNat, ptmSeq := (s.tim.ptmSeq + 1) % 2 ^ 32 } } ∧
      exec .ptmTimeout s = .next (({ s with tim := { s.tim with ptm := rest } }).setReg 0x600004 (s.reg 0x600004 ||| 2 ^ 7))) ∧
    ((s.reg 0x600000).testBit 4 = true → (s.reg 0x600000).testBit 5 = !rise → 20 ≤ before.toNat →
      exec (.ppsInEdge rise before) s = .next (
        let t := ({ s with tim := { s.tim with
          pps := visible s.tim.value, ppsLast := some s.tim.tick, ppsMissRaised := false } }).setReg 0x600004 (s.reg 0x600004 ||| 2 ^ 4)
        if (s.reg 0x600000).testBit 6 then t.raise 0x0604 [itTime s.stampNow] else t)) ∧
    ((s.reg 0x600000).testBit 4 = false ∨ (s.reg 0x600000).testBit 5 = rise ∨ before.toNat < 20 →
      exec (.ppsInEdge rise before) s = .next s) ∧
    (∀ n, s.tim.ppsLast = some n → n + 1650000000 ≤ s.tim.tick → s.tim.ppsMissRaised = false →
      exec .ppsMissing s = .next ((({ s with tim := { s.tim with ppsMissRaised := true } }).setReg 0x600004
        (s.reg 0x600004 ||| 2 ^ 5)).raise 0x0605 [])) ∧
    ((s.reg 0x600000).testBit 7 = true → s.tim.set = true → s.atSecond = true → s.tim.ppsOut = false →
      exec .ppsOutRise s = .next { s with
        tim := { s.tim with ppsOut := true, ppsRise := s.tim.value }, out := s.out ++ [.level "PPS_OUT" 0 true] }) ∧
    (s.tim.ppsOut = true → s.tim.ppsRise ≤ s.tim.value → s.tim.value < 2 ^ 48 * (1000000000 * 2 ^ 40) →
      max 1 (s.reg 0x600000 / 2 ^ 8 % 2 ^ 8) * 1000000 * 2 ^ 40 ≤ s.tim.value - s.tim.ppsRise →
      exec .ppsOutFall s = .next { s with tim := { s.tim with ppsOut := false }, out := s.out ++ [.level "PPS_OUT" 0 false] }) ∧
    (∀ a, s.tim.armed = some a →
      (ofVisible a ≤ s.tim.value →
        exec (.timAlarm also) s = .next (({ s with tim := { s.tim with armed := none } }).raise 0x0603 [])) ∧
      (s.tim.value < ofVisible a → exec (.timAlarm also) s = .next s)) ∧
    (s.regF 0x600000 0 2 = 2 → s.tim.followLock = true → s.tim.goodAt + 262144 ≤ s.tim.tick →
      exec .timFollowLost s = .next (({ s with tim := { s.tim with followLock := false } }).raise 0x0606 []))

/-- 14 R387, R391, R392, R395: a write of PIN_FUNCn that changes the function of an unlocked pin out of its boot state is stored, and the
pad is held as it was until the takeover, when the new function drives it; in the boot state, or during a hold, or with the same
function it is only stored; a write to a locked pin stores nothing and sets its violation bit, and raises PIN_LOCK_VIOLATION where the
bit was clear; one that the pin cannot take is ignored whole and raises PIN_FUNC_INVALID, on a locked pin beside the violation; a
violation bit is cleared by writing 1.
14 R393, R394: the lock key is 0x5A1C and then 0xC3E5 within 64 control-clock cycles; within 64 more a write of PIN_LOCKk locks the
pins whose bits are 1 and leaves the others; any other key value, or a step that comes late, abandons the sequence, and a write
outside the window locks nothing and raises PIN_KEY_REFUSED. -/
def Obligations.PinFunctionsAndLocks : Prop :=
  (∀ (s : State) (pin : Fin 96) (v : Word), s.pwr.state = .run →
    (s.pinBit 0x700310 pin = false → funcInvalid pin v.toNat = false →
      let u := s.setReg (0x700000 + 4 * pin) (v.toNat % 2 ^ 10)
      let w := if pin.val < 2 then
        { u with pins := { u.pins with tamper := u.pins.tamper.set noFlag pin (decide (v.toNat % 16 = 9)) } } else u
      (s.showsBoot pin = false → (s.pin pin).hold = none → v.toNat % 16 ≠ (s.pin pin).func →
        exec (.pinFuncWrite pin v) s = .next (w.setPin pin { s.pin pin with hold := some (s.padDrive pin) })) ∧
      (s.showsBoot pin = true ∨ (s.pin pin).hold ≠ none ∨ v.toNat % 16 = (s.pin pin).func →
        exec (.pinFuncWrite pin v) s = .next w)) ∧
    ((s.pin pin).hold.isSome = true →
      exec (.functionTakeover pin) s = .next (s.setPin pin
        { s.pin pin with hold := none, func := s.reg (0x700000 + 4 * pin) % 16 })) ∧
    (s.pinBit 0x700310 pin = true → funcInvalid pin v.toNat = false →
      exec (.pinFuncWrite pin v) s = .next (
        let u := s.setReg (0x700320 + 4 * (pin.val / 32)) (s.reg (0x700320 + 4 * (pin.val / 32)) ||| 2 ^ (pin.val % 32))
        if s.pinBit 0x700320 pin then u else u.raise 0x0701 [it1 pin, it4 (0x700000 + 4 * pin)])) ∧
    (13 ≤ v.toNat % 16 ∨ (v.toNat % 16 = 2 ∧ pin.val % 8 ≠ 0) ∨ (v.toNat % 16 = 9 ∧ 2 ≤ pin.val) ∨ 5 ≤ v.toNat / 16 % 8 ∨
        v.toNat / 256 % 4 = 3 →
      exec (.pinFuncWrite pin v) s = .next (
        (if s.pinBit 0x700310 pin then s.lockViolation pin else s).raise 0x0703 [it1 pin, it4 v.toNat])) ∧
    (∀ k : Fin 3, SMap.wf regReset s.regs = true →
      ∃ t, exec (.registerWrite { off := BitVec.ofNat 25 (0x700320 + 4 * k), size := 4, value := v.setWidth 64 }) s = .next t ∧
        (∀ b, b < 32 → (t.reg (0x700320 + 4 * k)).testBit b = ((s.reg (0x700320 + 4 * k)).testBit b && !v.toNat.testBit b)) ∧
        (∀ a, a ≠ 0x700320 + 4 * k → t.reg a = s.reg a) ∧ t = { s with regs := t.regs })) ∧
  (∀ (s : State) (v w : Word) (k : Fin 3) (cyc : Word), s.pwr.state = .run →
    (v.toNat % 2 ^ 16 = 0x5A1C →
      exec (.pinLockKeyWrite v cyc) s = .next { s with pins := { s.pins with keyStage := 1 } }) ∧
    (v.toNat % 2 ^ 16 = 0xC3E5 → s.pins.keyStage = 1 → cyc.toNat ≤ 64 →
      exec (.pinLockKeyWrite v cyc) s = .next { s with pins := { s.pins with keyStage := 2 } }) ∧
    (v.toNat % 2 ^ 16 ≠ 0x5A1C → v.toNat % 2 ^ 16 ≠ 0xC3E5 ∨ s.pins.keyStage ≠ 1 ∨ 64 < cyc.toNat →
      exec (.pinLockKeyWrite v cyc) s = .next { s with pins := { s.pins with keyStage := 0 } }) ∧
    (s.pins.keyStage = 2 → cyc.toNat ≤ 64 → SMap.wf regReset s.regs = true →
      ∃ t, exec (.pinLockWrite k w cyc) s = .next t ∧
        (∀ i, i < 32 → (t.reg (0x700310 + 4 * k)).testBit i = ((s.reg (0x700310 + 4 * k)).testBit i || w.toNat.testBit i)) ∧
        (∀ a, a ≠ 0x700310 + 4 * k → t.reg a = s.reg a) ∧ t = { s with regs := t.regs }) ∧
    (s.pins.keyStage ≠ 2 ∨ 64 < cyc.toNat →
      ∃ t, exec (.pinLockWrite k w cyc) s = .next t ∧ t.regs = s.regs ∧
        t.pins.keyStage = (if s.pins.keyStage = 2 then 0 else s.pins.keyStage) ∧
        t.hif.evBuf = (s.raise 0x0704 [it4 (0x700310 + 4 * k)]).hif.evBuf))

/-- 15 R405 to R408: PWR_STATE and the keyed PWR_CMD enter Idle and Sleep at once, each command's own completion due, and begin the entry
to Deep Sleep with its retention mask or to Off; naming the present state changes nothing. The entry that PWR_STATE commands waits while
its completion cannot be written. Entry needs no descriptor in execution, no run, no flash operation and no load; otherwise it is
refused with the cause. Sleep stops the tick PLL and the fabric clocks and puts the DVM into self-refresh, and keeps engines, queues,
sites, registers and flash. -/
def Obligations.PowerStatesAreEntered : Prop :=
  ∀ (s : State) (d : DescRef) (mask : BitVec 256) (key : BitVec 16) (all : Bool), s.pwr.state = .run →
    let k := s.named (descId d 0x40)
    let due (t : State) : Bool := t.hif.cpls.any (fun c => c.serial == k.serial && c.ring == k.ring && c.index == k.index)
    let free : Prop := s.activeSites = [] ∧ s.snp.pend = none ∧ s.snp.flight = []
    let calm : Prop := s.flashBusy = false ∧ s.cfg.load = none ∧ s.cfg.released = none
    let slept (t : State) : Prop := t = { s with
      pwr := t.pwr, tim := { s.tim with locked := false, degraded := false }, dvm := { s.dvm with selfRefresh := true },
      fab := { s.fab with clocks := false }, scb := { s.scb with trav := none, stopping := false, restarting := false },
      links := t.links, hif := t.hif, out := t.out } ∧ (SMap.wf linkReset s.links = true → ∀ l, l < 4 → (t.link l).state = 0)
    (s.cplOn (descId d 0x40) →
      (s.starts (descId d 0x40) (rowFields (.pwrStateRun d)) false = true →
        ∃ t, exec (.pwrStateRun d) s = .next t ∧ t.hif.cpls = s.hif.cpls ++ [cplOf k {}] ∧ t = { s with hif := t.hif }) ∧
      (∀ p ∈ ([(.pwrStateIdle d, .idle, 0), (.pwrStateSleep d, .sleep, 0), (.pwrStateDeepSleep d mask, .deepSleep, mask.toNat),
          (.pwrStateOff d, .off, 0)] : List (Instr × PState × Nat)),
        s.starts (descId d 0x40) (rowFields p.1) false = true →
        (s.hif.inExec = [] → free → calm → ∃ t, exec p.1 s = .next t ∧
          (due t = true → t.pwr = { s.pwr with entryWait := some (k, p.2.1, p.2.2) } ∧
            t = { s with pwr := t.pwr, hif := t.hif, out := t.out }) ∧
          (due t = false →
            (p.2.1 = .idle → t.pwr = { s.pwr with state := .idle, reverseBias := true, entryWait := none } ∧
              t = { s with pwr := t.pwr, hif := t.hif, out := t.out }) ∧
            (p.2.1 = .sleep → t.pwr = { s.pwr with
              state := .sleep, reverseBias := true, pllOn := false, coreClk := false, fromSleep := true, sleepAt := s.tim.tick,
              entryWait := none } ∧ slept t) ∧
            (p.2.1 = .deepSleep ∨ p.2.1 = .off → t.pwr = { s.pwr with entering := some p.2.1, mask := p.2.2, entryWait := none } ∧
              t = { s with pwr := t.pwr, hif := t.hif, out := t.out })) ∧
          (s.requests = false → due t = true)) ∧
        ((∃ x ∈ s.hif.inExec, x.ring ≠ d.ring.toNat) ∨ s.activeSites ≠ [] ∨ s.snp.pend ≠ none ∨ s.snp.flight ≠ [] →
          ∃ t, exec p.1 s = .next t ∧ t.hif.cpls = s.hif.cpls ++ [cplOf k { status := 1, cause := 1 }] ∧ t = { s with hif := t.hif }) ∧
        (s.hif.inExec = [] → free →
          (s.flashBusy = true →
            ∃ t, exec p.1 s = .next t ∧ t.hif.cpls = s.hif.cpls ++ [cplOf k { status := 1, cause := 2 }] ∧ t = { s with hif := t.hif }) ∧
          (s.flashBusy = false → s.cfg.load ≠ none ∨ s.cfg.released ≠ none →
            ∃ t, exec p.1 s = .next t ∧ t.hif.cpls = s.hif.cpls ++ [cplOf k { status := 1, cause := 3 }] ∧
              t = { s with hif := t.hif })))) ∧
    (∀ (i : DescId) (m : Nat) (ring : BitVec 6) (x : Cpl) (early rest : List Cpl), s.pwr.entryWait = some (i, .idle, m) →
      s.requests = true → (s.ring (64 + ring.toNat)).en = true → s.ringSpace (64 + ring.toNat) = true →
      s.hif.cpls = early ++ x :: rest → (∀ y ∈ early, s.cplRing y.ring ≠ 64 + ring.toNat) → s.cplRing x.ring = 64 + ring.toNat →
      (early ++ rest).any (fun c => c.serial == i.serial && c.ring == i.ring && c.index == i.index) = false →
      ∃ t, exec (.completionWrite ring) s = .next t ∧ t.hif.cpls = early ++ rest ∧
        t.pwr = { s.pwr with state := .idle, reverseBias := true, entryWait := none }) ∧
    (key = 0x6B4D →
      exec (.pwrCmdRun key) s = .next s ∧
      (s.cfg.base = false → s.hif.inExec = [] → free → calm →
        (∃ t, exec (.pwrCmdIdle key) s = .next t ∧ t.pwr = { s.pwr with state := .idle, reverseBias := true, entryWait := none } ∧
          t = { s with pwr := t.pwr, hif := t.hif, out := t.out }) ∧
        (∃ t, exec (.pwrCmdSleep key) s = .next t ∧ t.pwr = { s.pwr with
          state := .sleep, reverseBias := true, pllOn := false, coreClk := false, fromSleep := true, sleepAt := s.tim.tick,
          entryWait := none } ∧ slept t) ∧
        (∃ t, exec (.pwrCmdDeepSleep key all) s = .next t ∧
          t.pwr = { s.pwr with entering := some .deepSleep, mask := if all then 2 ^ 256 - 1 else 0, entryWait := none } ∧
          t = { s with pwr := t.pwr, hif := t.hif, out := t.out }) ∧
        (∃ t, exec (.pwrCmdOff key) s = .next t ∧ t.pwr = { s.pwr with entering := some .off, mask := 0, entryWait := none } ∧
          t = { s with pwr := t.pwr, hif := t.hif, out := t.out })) ∧
      (∀ c ∈ ([.pwrCmdIdle key, .pwrCmdSleep key, .pwrCmdDeepSleep key all, .pwrCmdOff key] : List Instr),
        (s.cfg.base = true → exec c s = .next (s.raise 0x020A [it1 3])) ∧
        (s.cfg.base = false → s.hif.inExec ≠ [] → exec c s = .next (s.raise 0x020A [it1 1])))) ∧
    (key ≠ 0x6B4D → ∀ c ∈ ([.pwrCmdRun key, .pwrCmdIdle key, .pwrCmdSleep key, .pwrCmdDeepSleep key all, .pwrCmdOff key] : List Instr),
      exec c s = .next (s.raise 0x020A [it1 0]))

/-- 15 R408, R413, R416: PME_Turn_Off, or 10 ms without it, takes the device down to the state it enters; then engines have lost
everything but the vector memory of the banks that the mask keeps, in Off every bank; AON, flash pages, fuses and key RAM are kept.
A retained bank is lost with its supply. A cold reset and the end of Off lose every bank and clear the key lock; the release samples
MA[2:0] and starts the tick PLL. -/
def Obligations.PoweringDownAndColdResets : Prop :=
  ∀ (s : State) (st : PState) (vcore ref10 crystal : Bool) (ma : BitVec 3), SMap.wf engReset s.eng = true →
    (s.pwr.entering = some st → st = .deepSleep ∨ st = .off → s.pwr.wakeDue = none →
      ∀ c ∈ ([.pmeTurnOff, .pmeWaitTimeout] : List Instr),
        ∃ t, exec c s = .next t ∧ t.pwr.state = st ∧ t.aon = { s.aon with pwrGood := decide (st ≠ .off) } ∧ t.keys = s.keys ∧
          t.flash = s.flash ∧ t.sites = [] ∧ t.cfg.loaded = false ∧
          ∀ e, t.e e = (if st = .deepSleep ∧ s.pwr.mask.testBit (e / 4) = true then { mem := (s.e e).mem } else {})) ∧
    (s.pwr.state = .deepSleep → exec .deepSleepSupplyLoss s = .next { s with eng := [] }) ∧
    (s.pwr.state = .run →
      ∃ t, exec (.coldReset vcore) s = .next t ∧ t.aon.lastCold = (if vcore then 2 else 1) ∧ t.aon.keyLock = false ∧
        t.aon.portHeld = true ∧ t.aon.wakeCount = s.aon.wakeCount ∧ t.keys = s.keys ∧ t.flash = s.flash ∧ t.eng = [] ∧ t.sites = [] ∧
        t.tim.started = false ∧ (∀ n, (t.ring n).en = false)) ∧
    (s.pwr.state = .run → s.aon.portHeld = true →
      ∃ t, exec (.porstRelease ma ref10 crystal) s = .next t ∧ t.aon.portHeld = false ∧ t.aon.ma = ma.toNat ∧
        t.aon.slowXtal = crystal ∧ t.pwr.pllOn = true ∧ t.pwr.ref10 = ref10 ∧ t.keys.ram = s.keys.ram) ∧
    (s.pwr.state = .off → s.aon.pwrGood = true →
      ∃ t, exec .offEnd s = .next t ∧ t.pwr.state = .run ∧ t.aon.lastCold = 3 ∧ t.aon.keyLock = false ∧ t.eng = [] ∧
        t.keys.ram = s.keys.ram ∧ t.pwr.pllOn = true)

/-- 15 R404, R409, R411, R412: the WAKE land, a BAR0 access, an L1 exit and, from Sleep while enabled, PCIe and the two-wire address bring the
device from Idle and Sleep to Run; of the sources that act together the lowest code is recorded, with the state left and the count
kept, and PWR_STATE_CHANGED is raised; from Off the WAKE land and PERST# raise PWR_GOOD, unless a thermal trip is not over; from Deep
Sleep they bring it to Run. One that comes during the entry to these states waits for its end. -/
def Obligations.WakingNamesItsSource : Prop :=
  ∀ (s : State) (also : Byte) (addr : BitVec 7),
    let lowest (src q : Nat) : Prop := (q = src ∨ also.toNat.testBit q = true) ∧ s.wakesFrom s.pwr.state q = true ∧
      ∀ k, k < q → k = src ∨ also.toNat.testBit k = true → s.wakesFrom s.pwr.state k = false
    let resumed (u t : State) (q : Nat) : Prop := t = (({ u with
      aon := { s.aon with wakeSrc := q, wakeFrom := s.pwr.state.code, wakeCount := min (s.aon.wakeCount + 1) 255 },
      pwr := { s.pwr with state := .run, reverseBias := decide (s.pwr.state = PState.sleep),
                          coreClk := s.pwr.coreClk && decide (s.pwr.state = PState.idle) } }).raise
        0x0207 [it1 q, it1 s.pwr.state.code, it1 (min (s.aon.wakeCount + 1) 255)])
    (s.pwr.state = .idle ∨ s.pwr.state = .sleep →
      (∀ p ∈ ([(.wakeLand also, 1), (.bar0AccessWake also, 3)] : List (Instr × Nat)),
        ∃ t q, exec p.1 s = .next t ∧ lowest p.2 q ∧ resumed s t q) ∧
      (s.hif.pci.aspm = true → s.pwr.state = .idle ∨ s.aon.wakeEn.testBit 2 = true →
        ∃ t q, exec (.linkL1Exit also) s = .next t ∧ lowest 4 q ∧ resumed s t q)) ∧
    (addr.toNat = 0x68 + s.aon.ma →
      (s.pwr.state = .sleep → s.aon.wakeEn.testBit 0 = true → ∃ t q, exec (.twoWireAddressMatch addr also) s = .next t ∧
        lowest 2 q ∧ resumed { s with out := s.out ++ [.twoWireAck [true, false]] } t q) ∧
      (s.pwr.state = .sleep → s.aon.wakeEn.testBit 0 = false →
        exec (.twoWireAddressMatch addr also) s = .next { s with out := s.out ++ [.twoWireAck [true, false]] }) ∧
      (s.pwr.state = .run ∨ s.pwr.state = .idle → s.pwr.entering = none →
        exec (.twoWireAddressMatch addr also) s = .next { s with out := s.out ++ [.twoWireAck [true]] })) ∧
    (addr.toNat ≠ 0x68 + s.aon.ma ∨ s.pwr.state = .off → exec (.twoWireAddressMatch addr also) s = .next s) ∧
    (∀ p ∈ ([(.wakeLand also, 1), (.perstDeassert also, 6)] : List (Instr × Nat)),
      (s.pwr.state = .off → s.aon.pwrGood = false → s.aon.hot = false →
        ∃ q, lowest p.2 q ∧ exec p.1 s = .next { s with aon := { s.aon with
          wakeSrc := q, wakeFrom := 4, wakeCount := min (s.aon.wakeCount + 1) 255, pwrGood := true, wakePend := true } }) ∧
      (s.pwr.state = .off → s.aon.hot = true → exec p.1 s = .next s) ∧
      (s.pwr.state = .deepSleep →
        ∃ t q, exec p.1 s = .next t ∧ lowest p.2 q ∧ t.pwr.state = .run ∧ t.aon.wakeSrc = q ∧ t.aon.wakeFrom = 3 ∧
          t.aon.wakeCount = min (s.aon.wakeCount + 1) 255 ∧ t.pwr.pllOn = true ∧ t.keys.ram = s.keys.ram)) ∧
    (∀ st, s.pwr.state = .run → s.pwr.entering = some st → st = .deepSleep ∨ st = .off → s.pwr.wakeDue = none → also = 0 →
      exec (.perstDeassert also) s = .next { s with pwr := { s.pwr with wakeDue := some 6 } }) ∧
    (s.pwr.state = .run → s.pwr.entering = none →
      exec (.wakeLand also) s = .next (s.raise 0x0207 [it1 1, it1 0, it1 s.aon.wakeCount]) ∧
      exec (.bar0AccessWake also) s = .next s ∧ exec (.linkL1Exit also) s = .next s ∧ exec (.perstDeassert also) s = .next s)

/-- 15 R418 to R420: PWR_LEVEL records the level of a named parcel that is off, and changes the fabric and the named parcels that no active
run holds, at once where the grade has the level and the rail request is high enough; otherwise the request rises first, and the change
completes when the rail is reached; 1 ms without that fails it with the levels as they were. The domains that a run holds follow when
it ends, and the completion says that they had to wait. -/
def Obligations.PerformanceLevelsChange : Prop :=
  ∀ (s : State) (d : DescRef) (sel level : Byte) (mask : Word) (j : LevelJob) (ring : BitVec 6) (index : Word),
    SMap.wf (fun _ => topLevel) s.pwr.pclLevel = true →
    let k := s.named (descId d 0x41)
    let named (p : Nat) : Bool := sel.toNat.testBit 1 && mask.toNat.testBit p
    (s.starts (descId d 0x41) (rowFields (.pwrLevel d sel mask level)) false = true → sel.toNat < 4 → level.toNat ≤ 3 →
      (topLevel < level.toNat → s.cplOn (descId d 0x41) → ∃ t, exec (.pwrLevel d sel mask level) s = .next t ∧
        t.hif.cpls = s.hif.cpls ++ [cplOf k { status := 1, cause := 4 }] ∧ t = { s with hif := t.hif }) ∧
      (level.toNat ≤ topLevel → ∃ t, exec (.pwrLevel d sel mask level) s = .next t ∧
        t = { s with pwr := t.pwr, fab := t.fab, eng := t.eng, hif := t.hif, out := t.out } ∧
        (∀ p, p < 32 → named p = true → s.parcelOn p = false → t.pclLevel p = level.toNat) ∧
        (∀ p, named p = false → t.pclLevel p = s.pclLevel p) ∧
        (levelMv level.toNat ≤ s.pwr.railReq → s.pwr.jobs = [] →
          (∀ p, p < 32 → named p = true → s.parActive p = false → t.pclLevel p = level.toNat) ∧
          (∀ p, p < 32 → s.parcelOn p = true → s.parActive p = true → t.pclLevel p = s.pclLevel p) ∧
          t.pwr.fabLevel = (if sel.toNat.testBit 0 = true ∧ s.activeSites = [] then level.toNat else s.pwr.fabLevel) ∧
          (s.cplOn (descId d 0x41) →
            (∀ p, p < 32 → named p = true → s.parcelOn p = true → s.parActive p = false) →
            (sel.toNat.testBit 0 = true → s.activeSites = []) → t.hif.cpls = s.hif.cpls ++ [cplOf k {}] ∧ t.pwr.jobs = [])) ∧
        (s.pwr.railReq < levelMv level.toNat → s.pwr.jobs = [] →
          (∃ p, p < 32 ∧ named p = true ∧ s.parcelOn p = true ∧ s.parActive p = false) ∨
            (sel.toNat.testBit 0 = true ∧ s.activeSites = []) →
          t.pwr.railReq = levelMv level.toNat ∧ t.pwr.fabLevel = s.pwr.fabLevel ∧ t.hif.cpls = s.hif.cpls ∧
            (∀ p, s.parcelOn p = true → t.pclLevel p = s.pclLevel p) ∧
            ∃ x, t.pwr.jobs = [x] ∧ x.desc = k ∧ x.railWait = true ∧ x.level = level.toNat))) ∧
    (s.jobAt ring.toNat index.toNat = some j → j.mask < 2 ^ 32 → j.fabric = true ∨ j.mask ≠ 0 →
      (j.railWait = false → (∀ x ∈ s.pwr.jobs, x.railWait = false) → levelMv j.level ≤ s.pwr.railReq →
        (∀ p, p < 32 → j.mask.testBit p = true → s.parActive p = false) → (j.fabric = true → s.activeSites = []) →
        ∃ t, exec (.levelChange ring index) s = .next t ∧ t.pwr.jobs = s.pwr.jobs.erase j ∧
          (s.cplOn j.desc → t.hif.cpls = s.hif.cpls ++ [cplOf j.desc { flags := if j.waited then 1 else 0 }]) ∧
          t.pwr.fabLevel = (if j.fabric then j.level else s.pwr.fabLevel) ∧
          ∀ p, p < 32 → t.pclLevel p = if j.mask.testBit p then j.level else s.pclLevel p) ∧
      (j.railWait = false → (∀ p, p < 32 → j.mask.testBit p = true → s.parActive p = true) → (j.fabric = true → s.activeSites ≠ []) →
        ∃ t, exec (.levelChange ring index) s = .next t ∧ t.pwr.fabLevel = s.pwr.fabLevel ∧ t.pwr.pclLevel = s.pwr.pclLevel ∧
          t.hif.cpls = s.hif.cpls ∧ { j with waited := true } ∈ t.pwr.jobs) ∧
      (j.railWait = true → ∃ t, exec (.levelRailTimeout ring index) s = .next t ∧ t.pwr.jobs = s.pwr.jobs.erase j ∧
        t.pwr.fabLevel = s.pwr.fabLevel ∧ t.pwr.pclLevel = s.pwr.pclLevel ∧
        (s.cplOn j.desc →
          t.hif.cpls = s.hif.cpls ++ [cplOf j.desc { status := 2, cause := 1, flags := if j.waited then 1 else 0 }]))) ∧
    (∃ t, exec .railSenseReached s = .next t ∧ (∀ x ∈ t.pwr.jobs, x.railWait = false) ∧
      (∀ p, p < 32 → (∀ x ∈ s.pwr.jobs, x.railWait = true → x.mask.testBit p = false) → t.pclLevel p = s.pclLevel p) ∧
      (s.activeSites = [] → ∀ x ∈ s.pwr.jobs, x.railWait = true → s.cplOn x.desc →
        cplOf x.desc { flags := if x.waited then 1 else 0 } ∈ t.hif.cpls) ∧
      (s.activeSites = [] → s.pwr.jobs = [j] → j.railWait = true → j.mask < 2 ^ 32 →
        t.pwr.fabLevel = (if j.fabric then j.level else s.pwr.fabLevel) ∧
        ∀ p, p < 32 → t.pclLevel p = if j.mask.testBit p then j.level else s.pclLevel p))

/-- 15 R414, R415, R417, 01 R23, R26, 13 R369: CLK_SWITCH to the system clock completes at once with the PLL locked, and otherwise when it
locks, or with status 5 after 1 ms; to FIO it completes at once. While the tick PLL is stopped RUN_START, BENCH_TAKE and
READBACK_CAPTURE wait, a RUN_START at most its pre-roll timeout. The lock after a wake from Sleep restarts the fabric clocks. A lost
lock stops every running site with reason 5 and makes its channels safe. PCL_POWER switches the named domains, and refuses to switch
off one that has an engine in a site; a CQ_PUSH or CAL_MEASURE in progress there ends as refused (the model's reading, log entry 80). -/
def Obligations.ClocksAndParcelDomains : Prop :=
  ∀ (s : State) (d : DescRef) (mask : Word) (i : DescId) (ref10 : Bool),
    (s.starts (descId d 0x42) (rowFields (.clkSwitchPll d ref10)) false = true → s.pwr.clkWait = none →
      (s.tim.locked = true → s.cplOn (descId d 0x42) →
        ∃ t, exec (.clkSwitchPll d ref10) s = .next t ∧ t.pwr = { s.pwr with coreClk := true } ∧
          t.hif.cpls = s.hif.cpls ++ [cplOf (s.named (descId d 0x42)) { result := [1] }] ∧ t = { s with pwr := t.pwr, hif := t.hif }) ∧
      (s.tim.locked = false →
        ∃ t, exec (.clkSwitchPll d ref10) s = .next t ∧ t.pwr.pllOn = true ∧ t.pwr.clkWait = some (s.named (descId d 0x42)) ∧
          t.hif.cpls = s.hif.cpls ∧ t = { s with pwr := t.pwr, hif := t.hif })) ∧
    (s.starts (descId d 0x42) (rowFields (.clkSwitchFio d)) false = true → s.cplOn (descId d 0x42) →
      ∃ t, exec (.clkSwitchFio d) s = .next t ∧ t.pwr = { s.pwr with coreClk := false } ∧
        t.hif.cpls = s.hif.cpls ++ [cplOf (s.named (descId d 0x42)) { result := [if s.tim.locked then 1 else 0] }] ∧
        t = { s with pwr := t.pwr, hif := t.hif }) ∧
    (s.pwr.clkWait = some i → s.cplOn i →
      exec .clkSwitchTimeout s = .next { s with
        pwr := { s.pwr with clkWait := none }, hif := { s.hif with cpls := s.hif.cpls ++ [cplOf i { status := 5, result := [0] }] } }) ∧
    (s.pwr.pllOn = true → s.tim.locked = false → s.pwr.state = .run →
      (s.pwr.fromSleep = false →
        (s.pwr.clkWait = none → exec .pllLock s = .next { s with
          tim := { s.tim with locked := true, degraded := false, started := true } }) ∧
        (s.pwr.clkWait = some i → s.cplOn i → exec .pllLock s = .next { s with
          tim := { s.tim with locked := true, degraded := false, started := true },
          pwr := { s.pwr with clkWait := none, coreClk := true },
          hif := { s.hif with cpls := s.hif.cpls ++ [cplOf i { result := [1] }] } })) ∧
      (s.pwr.fromSleep = true → ∃ t, exec .pllLock s = .next t ∧
        t.tim = { s.tim with locked := true, degraded := false, started := true } ∧ t.pwr.fromSleep = false ∧
        t.pwr.reverseBias = false ∧ t.dvm.selfRefresh = false ∧ t.fab = { s.fab with clocks := decide (2 ≤ s.cfg.phase) } ∧
        (s.activeSites = [] → t.eng = s.eng ∧ t.sites = s.sites ∧ t.flash = s.flash))) ∧
    (s.tim.locked = true → SMap.wf siteReset s.sites = true → SMap.wf engReset s.eng = true →
      (∀ q ∈ s.sites, ∀ r ∈ q.2.run, r.resets = []) →
      ∃ t, exec .pllLost s = .next t ∧ t.tim = { s.tim with locked := false, degraded := true } ∧
        (∀ n r, s.run n = some r → r.stoppable = true → ∃ x, t.run n = some x ∧ x.phase = .draining ∧ x.stall = none ∧
          ∀ e ∈ s.engines n, 4 ≤ (t.e e).seq) ∧
        (∀ n r, s.run n = some r → ∀ e ∈ s.engines n, (t.e e).safe = true ∧ (t.e e).den = false ∧ (t.e e).drv = false)) ∧
    (s.pwr.state = .run → s.cfg.base = false → s.tim.locked = false → s.tim.degraded = false →
      ∀ (n : SiteNo) (x : BitVec 16) (net : BitVec 5) (timed b c : Bool) (w : Word) (v : DatumTime), x ≠ 0 →
        (∀ q ∈ ([(.runStart d n timed b x w v, 0x14), (.benchTake d x timed b c v, 0x18), (.readbackCapture d x net timed b v, 0x27)] :
          List (Instr × Nat)), (∀ f, s.fetchedAs (descId d q.2) = some f → s.depFailed f = false) → exec q.1 s = .next s) ∧
        (∀ f, s.run n.toNat = none → s.hif.fetched = [f] → f.op = 0x14 → leAt f.bytes 16 1 = n.toNat → s.mayStart f = true →
          s.cplOn f.id → ∃ t, exec (.prerollTimeout n) s = .next t ∧ t.hif.fetched = [] ∧
            t.hif.cpls = s.hif.cpls ++ [cplOf f.id { status := 1, cause := 9 }] ∧ t = { s with hif := t.hif })) ∧
    (s.cplOn (descId d 0x43) →
      (s.starts (descId d 0x43) (rowFields (.pclPowerOn d mask)) false = true →
        ∃ t, exec (.pclPowerOn d mask) s = .next t ∧ (∀ p, p < 32 → t.parcelOn p = (s.parcelOn p || mask.toNat.testBit p)) ∧
          t.hif.cpls = s.hif.cpls ++ [cplOf (s.named (descId d 0x43)) {}]) ∧
      (s.starts (descId d 0x43) (rowFields (.pclPowerOff d mask)) false = true →
        ((∀ p, p < 32 → mask.toNat.testBit p = true → s.sitesOf p = []) →
          ∃ t l, exec (.pclPowerOff d mask) s = .next t ∧ (∀ p, p < 32 → t.parcelOn p = (s.parcelOn p && !mask.toNat.testBit p)) ∧
            (∀ e, s.parcelOn (e / 32) = true → mask.toNat.testBit (e / 32) = true → t.e e = {}) ∧
            t.hif.cpls = s.hif.cpls ++ l ++ [cplOf (s.named (descId d 0x43)) {}] ∧
            ((∀ p, p < 32 → mask.toNat.testBit p = true → (s.p p).push = none ∧ (s.p p).meas = none) → l = []) ∧
            ∀ p, p < 32 → s.parcelOn p = true → mask.toNat.testBit p = true →
              (∀ u, (s.p p).push = some u → s.cplOn u.desc → cplOf u.desc { status := 1, cause := 1 } ∈ l) ∧
              (∀ m, (s.p p).meas = some m → s.cplOn m.desc → cplOf m.desc { status := 1, cause := 1 } ∈ l)) ∧
        (∀ p, mask.toNat.testBit p = true → s.sitesOf p ≠ [] →
          ∃ t, exec (.pclPowerOff d mask) s = .next t ∧ t.hif.cpls = s.hif.cpls ++ [cplOf (s.named (descId d 0x43)) { status := 1 }] ∧
            t = { s with hif := t.hif })))

/-- 15 R410, R422 to R424, 16 R449: SUPPLY_WARN, with a reading below 94 % of the VCORE request, of 1.8 V for VAUX or of 1.2 V for VCH, begins
an interval that revokes every grant, holds the flash and flags the running sites; SUPPLY_CLEAR ends it. A rail below its fault threshold
of 88 %, in whose interval it lies, and the thermal trip, stop every running site with reason 3; 10 µs after the trip the device goes down to Off. The two-wire target answers its own address, and reads and writes in Run and Idle only.
15 R426 to R430: every telemetry update measures P over the last ten updates, its peak, and Tj, and clamps the budget to 40 to 190 W;
over the budget the device is so marked, and the pump grant halves before any other grant is touched, then the scrub grant goes, then
the refresh margin. In Off it only ends what a thermal trip holds back, below 95 °C. -/
def Obligations.SuppliesTemperatureAndBudget : Prop :=
  (∀ (s : State) (rail : Fin 3) (point : Fin 34) (mv : BitVec 16) (vch : Bool) (tj count b : Byte) (bs : List Byte) (addr : BitVec 7),
    SMap.wf siteReset s.sites = true →
    let watched : Prop := s.pwr.state = .run ∨ s.pwr.state = .idle ∨ s.pwr.state = .sleep
    let stopped (t : State) : Prop := ∀ n r, s.run n = some r → r.stoppable = true → r.stop = none →
      t.run n = some { r with stop := some (3, s.siteTick r) }
    let low : Prop := 100 * mv.toNat < 94 *
      (if rail.val = 0 then min s.pwr.railReq s.railInUse else if rail.val = 1 then 1800 else 1200)
    (¬low ∨ ¬watched → exec (.supplyWarn rail point mv) s = .next s) ∧
    (watched → low → s.pwr.warn = false → s.hif.evBuf.length < 4096 →
      ∃ t l, exec (.supplyWarn rail point mv) s = .next t ∧ t.pwr.warn = true ∧ t.pwr.warnCount = s.pwr.warnCount + 1 ∧
        t.pwr.grantNvm = 0 ∧ t.pwr.grantScrub = false ∧ t.pwr.grantRefresh = false ∧ t.nvm.supplyHold = true ∧
        (s.nvm.queue = [] → t.nvm = { s.nvm with supplyHold := true }) ∧
        t.hif.evBuf = s.hif.evBuf ++ evRecords s.devNum 0x0201 s.stampNow false
          (packItems [] [it1 rail, it1 point, it2 mv.toNat]) ++ l ∧
        (∀ n r, s.run n = some r → r.stoppable = true → t.run n = some { r with flagWarn := true })) ∧
    (watched → low → s.pwr.warn = true → ∃ t, exec (.supplyWarn rail point mv) s = .next t ∧ t = { s with pwr := t.pwr } ∧
      (rail.val = 0 → t.pwr = { s.pwr with vcoreWarn := true }) ∧ (rail.val = 1 → t.pwr = { s.pwr with vauxWarn := true }) ∧
      (rail.val = 2 → t.pwr = { s.pwr with vchWarn := true })) ∧
    (s.pwr.warn = true → s.hif.evBuf.length < 4096 →
      ∃ t l, exec .supplyClear s = .next t ∧ t.pwr.warn = false ∧ t.pwr.warnTo = s.tim.tick ∧ t.nvm.supplyHold = false ∧
        ((s.reg 0x400004).testBit 0 = true → t.nvm.heldAfter = false) ∧
        t.hif.evBuf = s.hif.evBuf ++ evRecords s.devNum 0x0202 s.stampNow false
          (packItems [] [it4 (2 * (s.tim.tick - s.pwr.warnFrom) / 3)]) ++ l) ∧
    (watched →
      (100 * mv.toNat < 88 * (if vch then 1200 else 1800) →
        ∃ t, exec (.supplyFault vch mv) s = .next t ∧ t.pwr.warn = true ∧
          t.pwr.vauxFault = (s.pwr.vauxFault || !vch) ∧ t.pwr.vchFault = (s.pwr.vchFault || vch) ∧
          (s.pwr.warn = true → t.pwr = { s.pwr with
            vauxFault := s.pwr.vauxFault || !vch, vchFault := s.pwr.vchFault || vch,
            vauxWarn := s.pwr.vauxWarn || !vch, vchWarn := s.pwr.vchWarn || vch } ∧ stopped t) ∧
          (s.pwr.warn = false → ∀ n r, s.run n = some r → r.stoppable = true → r.stop = none →
            t.run n = some { r with flagWarn := true, stop := some (3, s.siteTick r) })) ∧
      (88 * (if vch then 1200 else 1800) ≤ 100 * mv.toNat → exec (.supplyFault vch mv) s = .next s) ∧
      (s.pwr.tempWarn = false → tjMax < signed 8 tj.toNat →
        exec (.thermalWarn tj) s = .next (({ s with pwr := { s.pwr with tempWarn := true } }).raise 0x020B [it1 tj.toNat])) ∧
      (s.pwr.tripped = false →
        ∃ t, exec .thermalTrip s = .next t ∧ t.pwr = { s.pwr with tripped := true } ∧ stopped t)) ∧
    (s.pwr.state = .run ∨ s.pwr.state = .idle → addr.toNat = 0x68 + s.aon.ma →
      exec (.twoWireWrite addr (b :: bs)) s = .next { s with
        pwr := { s.pwr with twiPtr := b.toNat % 8 }, out := s.out ++ [.twoWireAck (true :: true :: bs.map fun _ => true)] } ∧
      (∃ l, exec (.twoWireRead addr count) s = .next { s with out := s.out ++ [.twoWireAck [true], .twoWire l] } ∧
        l.length = count.toNat ∧ ∀ k, k < count.toNat →
          ((s.pwr.twiPtr + k) % 8 = 0 → l[k]? = some (if s.pwr.state = .run then 0 else 1)) ∧
          ((s.pwr.twiPtr + k) % 8 = 4 → l[k]? = some (BitVec.ofNat 8 s.pwr.tj)))) ∧
    (s.pwr.state = .sleep ∨ s.pwr.state = .deepSleep ∨ s.pwr.state = .off ∨ addr.toNat ≠ 0x68 + s.aon.ma →
      exec (.twoWireWrite addr bs) s = .next s ∧ exec (.twoWireRead addr count) s = .next s) ∧
    (s.pwr.tripped = true →
      ∃ t, exec .thermalTripOff s = .next t ∧ t.pwr.state = .off ∧ t.aon.pwrGood = false ∧ t.aon.hot = true ∧ t.eng = [] ∧
        t.keys = s.keys)) ∧
  (∀ (s : State) (l : List RailTel) (tj : Byte),
    (s.pwr.state = .run ∨ s.pwr.state = .idle →
      ∃ t, exec (.telemetryUpdate l tj) s = .next t ∧
        t.pwr.telP = ((l.map fun r => r.ma10.toNat * r.mv.toNat).sum / 100 :: s.pwr.telP).take 10 ∧ t.pwr.tj = tj.toNat ∧
        t.pwr.budget = min 190 (max 40 (s.reg 0x200020 % 256)) ∧ t.pwr.peak = max s.pwr.peak t.powerP ∧
        (t.pwr.budget * 1000 < t.powerP → t.pwr.overNow = true ∧
          (0 < s.pwr.grantNvm → t.pwr.grantNvm = s.pwr.grantNvm / 2 ∧ t.pwr.grantScrub = s.pwr.grantScrub ∧
            t.pwr.grantRefresh = s.pwr.grantRefresh) ∧
          (s.pwr.grantNvm = 0 → t.pwr.grantNvm = 0 ∧ t.pwr.grantScrub = false ∧
            t.pwr.grantRefresh = (s.pwr.grantRefresh && s.pwr.grantScrub)))) ∧
    (s.pwr.state = .off →
      exec (.telemetryUpdate l tj) s = .next { s with aon := { s.aon with hot := s.aon.hot && decide (95 ≤ signed 8 tj.toNat) } }))

/-- 04 R133, R136, 14 R385, R386, R400, R401: PIN_FAILOUT's RW fields are stored and its clear deasserts a level-mode output; a pulse ends on
time; an SPI master shifts a word of len + 1 bits, from its most significant bit or with lsb from the other end, and receives one, which
is 0 where no pin serves its input, and a write while it is busy only sets err; an enabled RUN_IN edge of the chosen polarity on the
lowest-numbered pin that selects it is reported with its time, and stops its site where it is told to; a bank's new level is reported
once. -/
def Obligations.PinsSerialAndTriggers : Prop :=
  ∀ (s : State) (n m : BitVec 2) (k : BitVec 1) (bank : Fin 3) (level : BitVec 2) (v : Word) (rise : Bool),
    let ctl := s.reg (0x700600 + 0x10 * m.toNat)
    let bits := ctl / 2 ^ 10 % 2 ^ 5 + 1
    let trig := s.reg (0x700500 + 4 * k.toNat)
    let seen : State := s.raise 0x0702 [it1 k.toNat, itTime (stamp80 (s.valueAt (s.tim.tick - 3)))]
    (s.pwr.state = .run →
      (∃ t, exec (.pinFailoutClear n v) s = .next t ∧ t.reg (0x700F00 + 4 * n.toNat) = v.toNat &&& 0xFF01FFF7 ∧
        (∀ a, a ≠ 0x700F00 + 4 * n.toNat → t.reg a = s.reg a) ∧ t = { s with regs := t.regs, pins := t.pins } ∧
        (∀ i, t.pins.failOut.get noFlag i = (s.pins.failOut.get noFlag i &&
          !(decide (i = n.toNat) && v.toNat.testBit 3 && v.toNat.testBit 1)))) ∧
      ((s.spi m.toNat).busy = false →
        ∃ t, exec (.spiDataWrite m v) s = .next t ∧ t.out = s.out ++ [.spi m.toNat (v.toNat % 2 ^ bits)] ∧
          t.spi m.toNat = { s.spi m.toNat with busy := true, start := s.tim.tick, send := v.toNat % 2 ^ bits } ∧
          (∀ i, i ≠ m.toNat → t.spi i = s.spi i) ∧ t = { s with pins := t.pins, out := t.out }) ∧
      ((s.spi m.toNat).busy = true →
        exec (.spiDataWrite m v) s = .next (s.setReg (0x700600 + 0x10 * m.toNat) (ctl ||| 2 ^ 17)))) ∧
    ((s.reg (0x700F00 + 4 * n.toNat)).testBit 1 = false → s.pins.failEnd.get zeroNat n.toNat ≤ s.tim.tick →
      exec (.failOutPulseEnd n) s = .next { s with pins := { s.pins with failOut := s.pins.failOut.set noFlag n.toNat false } }) ∧
    ((s.reg (0x700F00 + 4 * n.toNat)).testBit 1 = true ∨ s.tim.tick < s.pins.failEnd.get zeroNat n.toNat →
      exec (.failOutPulseEnd n) s = .next s) ∧
    ((s.spi m.toNat).busy = true → s.pwr.coreClk = false ∨ s.spiOver m.toNat = true →
      ∃ t, exec (.spiTransferDone m v) s = .next t ∧ (t.spi m.toNat).busy = false ∧ (∀ i, i ≠ m.toNat → t.spi i = s.spi i) ∧
        t = { s with pins := t.pins } ∧ (s.misoServed m.toNat = false → (t.spi m.toNat).recv = 0) ∧
        (s.misoServed m.toNat = true → (t.spi m.toNat).recv < 2 ^ bits ∧
          ∀ i, i < bits → (t.spi m.toNat).recv.testBit i = v.toNat.testBit (if ctl.testBit 15 then i else bits - 1 - i))) ∧
    (s.inputServed 4 (fun p => decide (p % 2 = k.toNat)) = true → trig.testBit 0 = true → trig.testBit 1 = !rise →
      (trig.testBit 2 = false ∨ s.run (trig / 2 ^ 8 % 2 ^ 6) = none → exec (.runInEdge k rise) s = .next seen) ∧
      (∀ r, trig.testBit 2 = true → s.run (trig / 2 ^ 8 % 2 ^ 6) = some r →
        ∃ t, exec (.runInEdge k rise) s = .next t ∧
          (r.stoppable = true → r.stop = none →
            t.run (trig / 2 ^ 8 % 2 ^ 6) = some { r with stop := some (3, s.siteTick r) } ∧ t.hif = seen.hif) ∧
          (r.waiting = true → r.resets = [] → t.run (trig / 2 ^ 8 % 2 ^ 6) = none))) ∧
    (s.inputServed 4 (fun p => decide (p % 2 = k.toNat)) = false ∨ trig.testBit 0 = false ∨ trig.testBit 1 = rise →
      exec (.runInEdge k rise) s = .next s) ∧
    (s.pins.bank.get bankReset bank.val ≠ level.toNat →
      exec (.pinBankChange bank level) s = .next (({ s with
        pins := { s.pins with bank := s.pins.bank.set bankReset bank level.toNat } }).raise 0x0705 [it1 bank, it1 level.toNat])) ∧
    (s.pins.bank.get bankReset bank.val = level.toNat → exec (.pinBankChange bank level) s = .next s)

/-- 04 R121, R123, R124, R127, R128, R132, 06 R183, R186: the log ring takes the oldest record of the input buffer, whole and in order; the
128 oldest records move to the next block of the spill partition, with its check value; the oldest entry of the coalescing buffer sets
exactly its lanes' bits in the map area, and diversion ends with the last; and the oldest records are sealed in the next REC packet of
the FQ, which a packet spoiled on its way leaves as they were. Other parcels keep theirs. -/
def Obligations.FailRecordsFlowInOrder : Prop :=
  ∀ (s : State) (p : ParcelNo) (r : Rec) (rest : List Rec) (a mask : Nat) (coal : List (Nat × Nat)) (ecc retry : Option Ecc),
    let f := s.f p.toNat
    let x := s.p p.toNat
    let recs := s.nextPacket p.toNat
    (f.inBuf = r :: rest → f.log.length < s.logCap p.toNat →
      ∃ t l, exec (.logRingAccept p) s = .next t ∧ (t.f p.toNat).inBuf = rest ++ l ∧ (t.f p.toNat).log = f.log ++ [r] ∧
        (f.lossPend = 0 → l = []) ∧ (f.lossPend ≠ 0 → rest.length < 64 → (t.f p.toNat).lossPend = 0 ∧ l.length = 1) ∧
        (t.f p.toNat).mem = f.mem ∧ (t.f p.toNat).spillN = f.spillN ∧ (∀ q, q ≠ p.toNat → t.f q = s.f q)) ∧
    (s.logFree p.toNat ≤ 128 → 128 ≤ f.log.length → 128 ≤ s.spillFree p.toNat → s.dvm.ready = true →
      ∃ t, exec (.logSpill p) s = .next t ∧ (t.f p.toNat).log = f.log.drop 128 ∧
        (t.f p.toNat).spillN = f.spillN + 1 ∧ (t.f p.toNat).inBuf = f.inBuf ∧
        ((∀ b ∈ f.log, b.length = 32) →
          t.dvm.block (s.spillBlock p.toNat f.spillN) = (f.log.take 128).flatten ∧
          t.dvm.blockOk (s.spillBlock p.toNat f.spillN) = true ∧
          (∀ b, b ≠ s.spillBlock p.toNat f.spillN → t.dvm.block b = s.dvm.block b)) ∧
        (∀ q, q ≠ p.toNat → t.f q = s.f q)) ∧
    (128 < s.logFree p.toNat ∨ f.log.length < 128 ∨ s.spillFree p.toNat < 128 ∨ s.dvm.ready = false →
      exec (.logSpill p) s = .next s) ∧
    (f.coal = (a, mask) :: coal →
      ∃ t, exec (.mapRetire p) s = .next t ∧ (t.f p.toNat).coal = coal ∧ t = { s with fm := t.fm, hif := t.hif } ∧
        (f.diverting = false ∨ coal ≠ [] → t = { s with fm := t.fm } ∧ (t.f p.toNat).inBuf = f.inBuf) ∧
        (f.diverting = true → coal = [] → (t.f p.toNat).diverting = false) ∧
        (∀ q, q ≠ p.toNat → t.f q = s.f q) ∧
        (∀ k i, i < 8 → ((t.f p.toNat).mem.get zeroByte k).getLsbD i = ((f.mem.get zeroByte k).getLsbD i ||
          (let b := 8 * k + i
           let first := 8 * (s.fmArea p.toNat 1).1 + (a - s.mapBase p.toNat) * s.mapWidth p.toNat
           decide (first ≤ b) && decide (b < first + s.mapWidth p.toNat) && mask.testBit (b - first))))) ∧
    (s.parcelsClocked = true → s.parcelOn p.toNat = true →
      (f.spillN = 0 ∨ 128 ≤ f.drain.length → recs ≠ [] → x.fq.q.length + 4 * recs.length + 2 ≤ 4096 → x.fq.seqNo < 2 ^ 16 →
        x.fq.exp = none ∨ x.fq.exp = some x.fq.seqNo → (∀ b ∈ recs, b.length = 32) →
        (∃ t h pay tr, exec (.fqPacketSeal p false ecc retry) s = .next t ∧
          (t.p p.toNat).fq.q = x.fq.q ++ h :: pay ++ [tr] ∧ pay.length = 4 * recs.length ∧
          wordBytes pay = recs.flatten ∧ hdrLen h = pay.length ∧ hdrType h = 0x20 ∧ hdrSeq h = x.fq.seqNo ∧
          tr = (crc32c (wordBytes (h :: pay))).toNat + hdrSeq h * 2 ^ 32 ∧
          (t.p p.toNat).fq.seqNo = (x.fq.seqNo + 1) % 2 ^ 16 ∧ (t.p p.toNat).fqLoss = none ∧
          (x.fqLoss = none → (t.f p.toNat).drain ++ (t.f p.toNat).log = (f.drain ++ f.log).drop recs.length) ∧
          (∀ q, q ≠ p.toNat → t.p q = s.p q)) ∧
        (∃ t, exec (.fqPacketSeal p true ecc retry) s = .next t ∧ (t.p p.toNat).fq.q = x.fq.q ∧ t.f p.toNat = f ∧
          (t.p p.toNat).fq.rewinds = min (x.fq.rewinds + 1) 65535 ∧ (∀ q, q ≠ p.toNat → t.p q = s.p q))) ∧
      (f.spillN = 0 → recs = [] → ∀ c, exec (.fqPacketSeal p c ecc retry) s = .next s) ∧
      (∀ c, f.spillN ≠ 0 → f.drain.length < 128 → s.dvm.ready = true →
        ∃ t, exec (.fqPacketSeal p c ecc retry) s = .next t ∧ (t.f p.toNat).spillN = f.spillN - 1))

/-- 04 R131, 15 R417: FAIL_MEM_READ puts out the bytes of its range of an area of the slice, with their check values, and changes nothing
else; FAIL_MEM_CLEAR makes the bytes of its range 0 and keeps every other byte. Both are refused while a run is active in the parcel,
and with cause 1 where the parcel is off.
03 R102, R103, 12 R356, R360, R361, 15 R417: LOCAL_LOAD, of any blocks, writes its bytes to the same offset of every engine that its mask
names in the parcel, and no other byte of any local memory; a block that fails its check, a run or a parcel that is off leaves every
byte as it was. LOCAL_READ puts out the bytes of its range in blocks with their check values, 0 behind them, and changes none. -/
def Obligations.LocalAndFailMemoryCommands : Prop :=
  (∀ (s : State) (d : DescRef) (p : ParcelNo) (area : Byte) (off len : Word) (o : DataOut),
    (s.starts (descId d 0x1B) (rowFields (.failMemClear d p area off len)) false = true → s.cplOn (descId d 0x1B) → area.toNat < 2 → off.toNat % 4096 = 0 → len.toNat % 4096 = 0 →
      (s.parcelOn p.toNat = true → s.parActive p.toNat = false → (s.fmArea p.toNat area.toNat).2 ≠ 0 →
        off.toNat + len.toNat ≤ (s.fmArea p.toNat area.toNat).2 →
        ∃ t, exec (.failMemClear d p area off len) s = .next t ∧ t.hif.cpls = s.hif.cpls ++ [cplOf (s.named (descId d 0x1B)) {}] ∧
          t = { s with fm := t.fm, hif := t.hif } ∧ (∀ q, q ≠ p.toNat → t.f q = s.f q) ∧
          (t.f p.toNat = { s.f p.toNat with mem := (t.f p.toNat).mem }) ∧
          (∀ b, (t.f p.toNat).mem.get zeroByte b = if (s.fmArea p.toNat area.toNat).1 + off.toNat ≤ b ∧
            b < (s.fmArea p.toNat area.toNat).1 + off.toNat + len.toNat then 0 else (s.f p.toNat).mem.get zeroByte b)) ∧
      (s.parcelOn p.toNat = true → s.parActive p.toNat = true ∨ (s.fmArea p.toNat area.toNat).2 = 0 ∨
          (s.fmArea p.toNat area.toNat).2 < off.toNat + len.toNat →
        ∃ t, exec (.failMemClear d p area off len) s = .next t ∧ t.hif.cpls = s.hif.cpls ++ [cplOf (s.named (descId d 0x1B)) { status := 1 }] ∧
          t = { s with hif := t.hif }) ∧
      (s.parcelOn p.toNat = false →
        ∃ t, exec (.failMemClear d p area off len) s = .next t ∧
          t.hif.cpls = s.hif.cpls ++ [cplOf (s.named (descId d 0x1B)) { status := 1, cause := 1 }] ∧ t = { s with hif := t.hif })) ∧
    (s.starts (descId d 0x1A) (rowFields (.failMemRead d p area off o)) false = true → s.cplOn (descId d 0x1A) → area.toNat < 2 →
      off.toNat % 4096 = 0 → outBad o = false →
      (s.parcelOn p.toNat = false →
        ∃ t, exec (.failMemRead d p area off o) s = .next t ∧
          t.hif.cpls = s.hif.cpls ++ [cplOf (s.named (descId d 0x1A)) { status := 1, cause := 1 }] ∧ t = { s with hif := t.hif }) ∧
      (s.parcelOn p.toNat = true → s.parActive p.toNat = true ∨ (s.fmArea p.toNat area.toNat).2 = 0 ∨
          (s.fmArea p.toNat area.toNat).2 < off.toNat + 4096 * o.blocks.toNat →
        ∃ t, exec (.failMemRead d p area off o) s = .next t ∧
          t.hif.cpls = s.hif.cpls ++ [cplOf (s.named (descId d 0x1A)) { status := 1 }] ∧ t = { s with hif := t.hif }) ∧
      (s.parcelOn p.toNat = true → s.parActive p.toNat = false → (s.fmArea p.toNat area.toNat).2 ≠ 0 →
      off.toNat + 4096 * o.blocks.toNat ≤ (s.fmArea p.toNat area.toNat).2 →
      ∃ t l, exec (.failMemRead d p area off o) s = .next t ∧ t.hif.cpls = s.hif.cpls ++ [cplOf (s.named (descId d 0x1A)) {}] ∧
        t = { s with hif := t.hif, out := t.out } ∧ t.out = s.out ++ l ∧ l.length = 2 * o.blocks.toNat ∧
        (∀ k, k < o.blocks.toNat → ∃ bs, l[2 * k]? = some (.host (o.addr.toNat + 4096 * k) bs) ∧ bs.length = 4096 ∧
          l[2 * k + 1]? = some (.host (o.checks.toNat + 4 * k) (leBytes 4 (crc32c bs).toNat)) ∧
          ∀ i, i < 4096 → bs[i]? = some ((s.f p.toNat).mem.get zeroByte ((s.fmArea p.toNat area.toNat).1 + off.toNat + 4096 * k + i)))))) ∧
  (∀ (s : State) (d : DescRef) (p : ParcelNo) (e : EngineNo) (mask off len : Word) (bs : List HostBlock) (o : DataOut),
    (s.starts (descId d 0x10) (rowFields (.localLoad d p mask off len bs)) false = true → s.cplOn (descId d 0x10) →
      (∀ b ∈ bs, b.wellFormed = true) → mask.toNat ≠ 0 → localRangeOk off.toNat len.toNat bs.length = true →
      (s.parcelOn p.toNat = false →
        ∃ t, exec (.localLoad d p mask off len bs) s = .next t ∧
          t.hif.cpls = s.hif.cpls ++ [cplOf (s.named (descId d 0x10)) { status := 1, cause := 1 }] ∧ t = { s with hif := t.hif }) ∧
      (s.parcelOn p.toNat = true → (∃ k, k < 32 ∧ mask.toNat.testBit k = true ∧ s.engActive (32 * p.toNat + k) = true) →
        ∃ t, exec (.localLoad d p mask off len bs) s = .next t ∧
          t.hif.cpls = s.hif.cpls ++ [cplOf (s.named (descId d 0x10)) { status := 1 }] ∧ t = { s with hif := t.hif }) ∧
      (s.parcelOn p.toNat = true → (∀ k, k < 32 → mask.toNat.testBit k = true → s.engActive (32 * p.toNat + k) = false) →
        (∀ k b, bs[k]? = some b → b.err = none → crc32c b.data ≠ b.check →
          (∀ j c, j < k → bs[j]? = some c → c.err = none ∧ crc32c c.data = c.check) →
          ∃ t, exec (.localLoad d p mask off len bs) s = .next t ∧ t.eng = s.eng ∧
            ∃ x : Cpl, t.hif.cpls = s.hif.cpls ++ [x] ∧ x.status = 0x0B ∧ x.block = k) ∧
        ((∀ b ∈ bs, b.err = none ∧ crc32c b.data = b.check) →
          ∃ t, exec (.localLoad d p mask off len bs) s = .next t ∧ t.hif.cpls = s.hif.cpls ++ [cplOf (s.named (descId d 0x10)) {}] ∧
            t = { s with eng := t.eng, hif := t.hif } ∧
            (∀ k i, k < 32 → mask.toNat.testBit k = true → i < len.toNat →
              (bs.flatMap HostBlock.data)[i]? = some ((t.e (32 * p.toNat + k)).mem.get zeroByte (off.toNat + i))) ∧
            (∀ k c, k < 32 → mask.toNat.testBit k = true → c < off.toNat ∨ off.toNat + len.toNat ≤ c →
              (t.e (32 * p.toNat + k)).mem.get zeroByte c = (s.e (32 * p.toNat + k)).mem.get zeroByte c) ∧
            (∀ f, f / 32 ≠ p.toNat ∨ mask.toNat.testBit (f % 32) = false → t.e f = s.e f)))) ∧
    (s.starts (descId d 0x11) (rowFields (.localRead d e off len o)) false = true → s.cplOn (descId d 0x11) → outBad o = false →
      localRangeOk off.toNat len.toNat o.blocks.toNat = true →
      (s.parcelOn (e.toNat / 32) = false →
        ∃ t, exec (.localRead d e off len o) s = .next t ∧
          t.hif.cpls = s.hif.cpls ++ [cplOf (s.named (descId d 0x11)) { status := 1, cause := 1 }] ∧ t = { s with hif := t.hif }) ∧
      (s.parcelOn (e.toNat / 32) = true →
        ∃ t l, exec (.localRead d e off len o) s = .next t ∧ t.hif.cpls = s.hif.cpls ++ [cplOf (s.named (descId d 0x11)) {}] ∧
          t = { s with hif := t.hif, out := t.out } ∧ t.out = s.out ++ l ∧ l.length = 2 * ((len.toNat + 4095) / 4096) ∧
          (∀ k, k < (len.toNat + 4095) / 4096 → ∃ b, l[2 * k]? = some (.host (o.addr.toNat + 4096 * k) b) ∧ b.length = 4096 ∧
            l[2 * k + 1]? = some (.host (o.checks.toNat + 4 * k) (leBytes 4 (crc32c b).toNat)) ∧
            ∀ i, i < 4096 → b[i]? = some (if 4096 * k + i < len.toNat then
              (s.e e.toNat).mem.get zeroByte (off.toNat + 4096 * k + i) else 0)))))

/-- 03 R70, R72 to R74, R76: at an engine's boundary each data word takes ownership of its periods: VEC of n periods, a slot for each,
its compares masked by m; RPT of n that reapply the slot; WAIT of n with compares masked; every other word of one period, with a slot
where q is 0 and, where q is 1, reapplied and masked. A count is an immediate plus 1, or a counter whose 0 is 2^32; in double mode each
period is a pair. Nothing else changes.
03 R93, R94: a counter word computes its result on 32 bits, wrapping, and it is written at the end of its period: LDL sets the lower
half and clears the upper, LDH sets the upper half and keeps the lower, ADDI and SUBI add and subtract an immediate, ADD, SUB and MOV
take another counter, ANDI masks. -/
def Obligations.WordsOwnPeriodsAndCount : Prop :=
  (∀ (s : State) (e : EngineNo) (n : Nat) (r : Run) (m q : Bool) (c : BitVec 20) (g : BitVec 3) (ts : BitVec 6) (target : BitVec 14),
    s.siteOf e.toNat = some n → s.run n = some r → r.phase = .running → r.stop = none → r.err = none → r.stall = none →
    (s.e e.toNat).seq = 1 → (s.e e.toNat).own = none → (s.e e.toNat).inPeriod = false → (s.e e.toNat).delay = 0 →
    4 * (s.e e.toNat).next < s.seqBytes e.toNat →
    let x := s.e e.toNat
    let own (w k : Nat) (takes masked : Bool) : Own :=
      { word := w, addr := x.next, left := if s.tsDouble e.toNat x.ts then 2 * k else k, takes := takes, masked := masked,
        double := s.tsDouble e.toNat x.ts }
    let reg := if s.counter e.toNat g.toNat = 0 then 2 ^ 32 else s.counter e.toNat g.toNat
    let goes (i : Instr) (w k : Nat) (takes masked : Bool) : Prop :=
      exec i s = .next (s.setE e.toNat { x with next := x.next + 1, own := some (own w k takes masked) })
    goes (.vec e m (.imm c)) (0x01 * 2 ^ 26 + m.toNat * 2 ^ 25 + c.toNat) (c.toNat + 1) true m ∧
    goes (.vec e m (.reg g)) (0x01 * 2 ^ 26 + m.toNat * 2 ^ 25 + 2 ^ 24 + g.toNat) reg true m ∧
    goes (.rpt e (.imm c)) (0x02 * 2 ^ 26 + c.toNat) (c.toNat + 1) false false ∧
    goes (.rpt e (.reg g)) (0x02 * 2 ^ 26 + 2 ^ 24 + g.toNat) reg false false ∧
    goes (.wait e (.imm c)) (0x03 * 2 ^ 26 + c.toNat) (c.toNat + 1) false true ∧
    goes (.wait e (.reg g)) (0x03 * 2 ^ 26 + 2 ^ 24 + g.toNat) reg false true ∧
    exec (.tset e q ts) s = .next (s.setE e.toNat { x with
      next := x.next + 1, tsNext := some ts.toNat,
      own := some (own (0x0D * 2 ^ 26 + q.toNat * 2 ^ 25 + ts.toNat) 1 (!q) q) }) ∧
    (x.body = none → exec (.jmp e q target) s = .next (s.setE e.toNat { x with
      next := target.toNat, own := some (own (0x08 * 2 ^ 26 + q.toNat * 2 ^ 25 + target.toNat) 1 (!q) q) }))) ∧
  (∀ (s : State) (e : EngineNo) (n : Nat) (r : Run) (q : Bool) (d g : BitVec 3) (imm : BitVec 16),
    s.siteOf e.toNat = some n → s.run n = some r → r.phase = .running → r.stop = none → r.err = none → r.stall = none →
    (s.e e.toNat).seq = 1 → (s.e e.toNat).own = none → (s.e e.toNat).inPeriod = false → (s.e e.toNat).delay = 0 →
    4 * (s.e e.toNat).next < s.seqBytes e.toNat →
    let a : Word := s.regs.get regReset (engBase e.toNat + 0x20 + 4 * d.toNat)
    let b : Word := s.regs.get regReset (engBase e.toNat + 0x20 + 4 * g.toNat)
    let i : Word := imm.setWidth 32
    ∀ c ∈ ([(.ldl e q d imm, i), (.ldh e q d imm, i <<< 16 ||| a &&& 0xFFFF), (.addi e q d imm, a + i), (.subi e q d imm, a - i),
        (.add e q d g, a + b), (.sub e q d g, a - b), (.mov e q d g, b), (.andi e q d imm, a &&& i)] : List (Instr × Word)),
      ∃ t, exec c.1 s = .next t ∧ (t.e e.toNat).cntWrite = some (d.toNat, c.2.toNat) ∧
        (t.e e.toNat).next = (s.e e.toNat).next + 1 ∧
        (∀ o, (t.e e.toNat).own = some o → o.addr = (s.e e.toNat).next ∧ o.takes = !q ∧ o.masked = q ∧
          o.left = if s.tsDouble e.toNat (s.e e.toNat).ts then 2 else 1) ∧
        (∀ f, f ≠ e.toNat → t.e f = s.e f) ∧ t = { s with eng := t.eng })

/-- 03 R77 to R79, R83 to R86, R89, R92, R95: what the control words do at an engine's boundary: LOOP pushes its count and body, ENDL
counts down and branches or pops, CALL and RET use the return stack, MATCH opens a body with its limit, BFL, ENDM and SYNC leave their
decision to the end of their period, SRC sets the source and pointer of the following periods, MARK, like any
other data word, owns one period, and HALT ends the engine's run. -/
def Obligations.ControlWordsTransfer : Prop :=
  ∀ (s : State) (e : EngineNo) (n : Nat) (r : Run) (q u c p : Bool) (cnt : BitVec 20) (cond : BitVec 3) (target : BitVec 14)
    (mask : BitVec 8) (source : BitVec 2) (lptr : BitVec 13) (id : BitVec 16) (g : BitVec 3),
    s.siteOf e.toNat = some n → s.run n = some r → r.phase = .running → r.stop = none → r.err = none → r.stall = none →
    (s.e e.toNat).seq = 1 → (s.e e.toNat).own = none → (s.e e.toNat).inPeriod = false → (s.e e.toNat).delay = 0 →
    4 * (s.e e.toNat).next < s.seqBytes e.toNat →
    let x := s.e e.toNat
    let dbl := s.tsDouble e.toNat x.ts
    let reg := if s.counter e.toNat g.toNat = 0 then 2 ^ 32 else s.counter e.toNat g.toNat
    let own (w : Nat) : Option Own :=
      some { word := w, addr := x.next, left := if dbl then 2 else 1, takes := !q, masked := q, double := dbl }
    (x.loops.length < 4 → exec (.loop e q (.imm cnt)) s = .next (s.setE e.toNat { x with
      next := x.next + 1, loops := (cnt.toNat + 1, (x.next + 1) % 2 ^ 14) :: x.loops,
      own := own (0x04 * 2 ^ 26 + q.toNat * 2 ^ 25 + cnt.toNat) }) ∧
      exec (.loop e q (.reg g)) s = .next (s.setE e.toNat { x with
        next := x.next + 1, loops := (reg, (x.next + 1) % 2 ^ 14) :: x.loops,
        own := own (0x04 * 2 ^ 26 + q.toNat * 2 ^ 25 + 2 ^ 24 + g.toNat) })) ∧
    (∀ k b rest, x.loops = (k, b) :: rest → (∀ y, x.body = some y → y.depth < x.loops.length) →
      (k = 1 → exec (.endl e q) s = .next (s.setE e.toNat { x with
        next := x.next + 1, loops := rest, own := own (0x05 * 2 ^ 26 + q.toNat * 2 ^ 25) })) ∧
      (k ≠ 1 → exec (.endl e q) s = .next (s.setE e.toNat { x with
        next := b, loops := (k - 1, b) :: rest, own := own (0x05 * 2 ^ 26 + q.toNat * 2 ^ 25) }))) ∧
    (x.body = none →
      (x.calls.length < 8 → exec (.call e q target) s = .next (s.setE e.toNat { x with
        next := target.toNat, calls := (x.next + 1) :: x.calls,
        own := own (0x06 * 2 ^ 26 + q.toNat * 2 ^ 25 + target.toNat) })) ∧
      (∀ b rest, x.calls = b :: rest → exec (.ret e q) s = .next (s.setE e.toNat { x with
        next := b, calls := rest, own := own (0x07 * 2 ^ 26 + q.toNat * 2 ^ 25) })) ∧
      exec (.bfl e q u c cond target) s = .next (s.setE e.toNat { x with
        next := x.next + 1,
        own := own (0x09 * 2 ^ 26 + q.toNat * 2 ^ 25 + u.toNat * 2 ^ 24 + c.toNat * 2 ^ 23 + cond.toNat * 2 ^ 20 + target.toNat) }) ∧
      exec (.matchOpen e q u (.imm cnt)) s = .next (s.setE e.toNat { x with
        next := x.next + 1, mt := false,
        body := some { limit := cnt.toNat + 1, site := u, body := x.next + 1, depth := x.loops.length },
        own := own (0x0A * 2 ^ 26 + q.toNat * 2 ^ 25 + u.toNat * 2 ^ 23 + cnt.toNat) }) ∧
      exec (.matchOpen e q u (.reg g)) s = .next (s.setE e.toNat { x with
        next := x.next + 1, mt := false,
        body := some { limit := reg, site := u, body := x.next + 1, depth := x.loops.length },
        own := own (0x0A * 2 ^ 26 + q.toNat * 2 ^ 25 + 2 ^ 24 + u.toNat * 2 ^ 23 + g.toNat) }) ∧
      (mask ≠ 0 → exec (.sync e q mask) s = .next (s.setE e.toNat { x with
        next := x.next + 1, own := own (0x0C * 2 ^ 26 + q.toNat * 2 ^ 25 + mask.toNat) })) ∧
      (∃ t, exec (.halt e) s = .next t ∧ (t.e e.toNat).seq = 4 ∧ (t.e e.toNat).stopTick = x.pos / 256 ∧
        (s.haltSafe e.toNat = false → t.e e.toNat = { x with seq := 4, stopTick := x.pos / 256, haltHold := true }) ∧
        (s.haltSafe e.toNat = true → (t.e e.toNat).safe = true ∧ (t.e e.toNat).den = false ∧ (t.e e.toNat).drv = false) ∧
        (∀ f, f ≠ e.toNat → t.e f = s.e f) ∧
        ((∃ f ∈ s.engines n, f ≠ e.toNat ∧ (s.e f).seq < 4) → t = { s with eng := t.eng }) ∧
        ((∀ f ∈ s.engines n, f ≠ e.toNat → (s.e f).seq = 4) → ∃ y, t.run n = some y ∧ y.phase = .draining ∧ y.reason = 1))) ∧
    (∀ b, x.body = some b → x.loops.length = b.depth → exec (.endm e q) s = .next (s.setE e.toNat { x with
      next := x.next + 1, own := own (0x0B * 2 ^ 26 + q.toNat * 2 ^ 25) })) ∧
    (source ≠ 3 → (p = false → lptr = 0) → exec (.src e q p source lptr) s = .next (s.setE e.toNat { x with
      next := x.next + 1, srcNext := some source.toNat, lptrNext := if p then some lptr.toNat else none,
      own := own (0x0E * 2 ^ 26 + q.toNat * 2 ^ 25 + p.toNat * 2 ^ 24 + source.toNat * 2 ^ 22 + lptr.toNat) })) ∧
    exec (.mark e q id) s = .next (s.setE e.toNat { x with
      next := x.next + 1, own := own (0x0F * 2 ^ 26 + q.toNat * 2 ^ 25 + id.toNat) })

/-- 05 R138, R139, R140, 02 R61, 12 R360, R366: SITE_FORM with a good block puts exactly the engines that the block names for this device in
the site, and takes out those that were in it, whatever devices the site spans; engines that leave have safe channels. SITE_DISSOLVE
takes out every engine of the site. Both are refused while the site has a run active; a block that fails its check, or could not be
read, forms nothing. Other sites and their engines stay. -/
def Obligations.SitesFormAndDissolve : Prop :=
  ∀ (s : State) (d : DescRef) (n : SiteNo) (b : HostBlock),
    (s.starts (descId d 0x12) (rowFields (.siteForm d n b)) false = true → s.cplOn (descId d 0x12) → b.wellFormed = true →
      let names (e : Nat) : Bool := (leAt b.data (64 + 128 * s.devNum + 4 * (e / 32)) 4).testBit (e % 32)
      let set := leAt b.data 0 2
      (b.err = none → crc32c b.data = b.check →
        (s.active n.toNat = false → s.cfg.load = none → set.testBit s.devNum = true →
          ((∀ k, k < 16 → set.testBit k = true → k = s.devNum) ∨ ∃ l, l < 4 ∧ (s.link l).state = 5) → leAt b.data 2 1 < 2 →
          (∀ k, k < 4096 → 3 ≤ k → k < 64 ∨ 2112 ≤ k → leAt b.data k 1 = 0) →
          (∀ e, e < 1024 → names e = true → s.parcelOn (e / 32) = true ∧ (s.siteOf e = none ∨ s.siteOf e = some n.toNat)) →
          ∃ t, exec (.siteForm d n b) s = .next t ∧ t.hif.cpls = s.hif.cpls ++ [cplOf (s.named (descId d 0x12)) {}] ∧
            t = { s with sites := t.sites, member := t.member, eng := t.eng, hif := t.hif } ∧
            t.site n.toNat = { formed := true, devset := set, abort := (leAt b.data 2 1).testBit 0, counts := blockCounts b.data } ∧
            (∀ k, k ≠ n.toNat → t.site k = s.site k) ∧
            (∀ e, e < 1024 → t.siteOf e = if names e then some n.toNat else if s.siteOf e = some n.toNat then none else s.siteOf e) ∧
            (∀ e, e < 1024 → names e = false → s.siteOf e = some n.toNat → (t.e e).safe = true)) ∧
        (s.active n.toNat = true ∨ s.cfg.load ≠ none ∨ set.testBit s.devNum = false ∨ 2 ≤ leAt b.data 2 1 ∨
            (∃ e, e < 1024 ∧ names e = true ∧ (s.parcelOn (e / 32) = false ∨ ∃ k ∈ s.siteOf e, k ≠ n.toNat)) →
          ∃ t, exec (.siteForm d n b) s = .next t ∧ t.hif.cpls = s.hif.cpls ++ [cplOf (s.named (descId d 0x12)) { status := 1 }] ∧
            t = { s with hif := t.hif })) ∧
      (b.err = none → crc32c b.data ≠ b.check →
        ∃ t, exec (.siteForm d n b) s = .next t ∧
          t.hif.cpls = s.hif.cpls ++ [cplOf (s.named (descId d 0x12)) { status := 0x0B, hop := 1, block := 0 }] ∧
          t = { s with hif := t.hif }) ∧
      (∀ u c, b.err = some (u, c) → u ≠ 0 →
        ∃ t, exec (.siteForm d n b) s = .next t ∧
          t.hif.cpls = s.hif.cpls ++ [cplOf (s.named (descId d 0x12)) { status := 0x0E, block := 0 }] ∧ t.sites = s.sites ∧
          t.member = s.member ∧ t.eng = s.eng)) ∧
    (s.starts (descId d 0x13) (rowFields (.siteDissolve d n)) false = true → s.cplOn (descId d 0x13) →
      (s.active n.toNat = false →
        ∃ t, exec (.siteDissolve d n) s = .next t ∧ t.hif.cpls = s.hif.cpls ++ [cplOf (s.named (descId d 0x13)) {}] ∧
          t = { s with sites := t.sites, member := t.member, eng := t.eng, hif := t.hif } ∧ t.site n.toNat = {} ∧
          (∀ k, k ≠ n.toNat → t.site k = s.site k) ∧
          (∀ e, t.siteOf e = if s.siteOf e = some n.toNat then none else s.siteOf e) ∧
          (∀ e, s.siteOf e = some n.toNat → (t.e e).safe = true)) ∧
      (s.active n.toNat = true →
        ∃ t, exec (.siteDissolve d n) s = .next t ∧ t.hif.cpls = s.hif.cpls ++ [cplOf (s.named (descId d 0x13)) { status := 1 }] ∧
          t = { s with hif := t.hif }))

/-- 05 R142 to R144, 15 R420, R428: a RUN_START with a pre-roll timeout that no check refuses gives its site a run, admitted where the budget
allows it and deferred with RUN_DEFERRED otherwise; one that a check refuses completes with that check's cause, and one of a site whose
level changes waits. Once every pre-roll condition of the device is met it is ready; with every device of the set ready the leader fixes
the start 8 t + Q later, or at the start time given, which may be late only where the start allows it. A start not ready in time, or
without a reply to its RUN_PREP, completes refused with cause 9 or 8. -/
def Obligations.RunsStart : Prop :=
  ∀ (s : State) (d : DescRef) (n : SiteNo) (timed lateOk : Bool) (tmo : BitVec 16) (est : Word) (tm : DatumTime) (r : Run) (i : DescId),
    SMap.wf siteReset s.sites = true → s.hif.evBuf.length < 4096 →
    (tmo ≠ 0 → s.starts (descId d 0x14) (rowFields (.runStart d n timed lateOk tmo est tm)) false = true →
      (s.levelChanging n.toNat = true → exec (.runStart d n timed lateOk tmo est tm) s = .next s) ∧
      (s.levelChanging n.toNat = false →
        (s.startFail n.toNat none = none →
          ∃ t x, exec (.runStart d n timed lateOk tmo est tm) s = .next t ∧ t.run n.toNat = some x ∧
            x.desc = some (s.named (descId d 0x14)) ∧ x.timed = (if timed then some tm.toNat else none) ∧ x.lateOk = lateOk ∧
            x.up = none ∧ x.est = s.estimate n.toNat est.toNat true ∧ t.hif.cpls = s.hif.cpls ∧
            (∀ k, k ≠ n.toNat → t.site k = s.site k) ∧
            (s.admitSum x.est ≤ s.pwr.budget * 1000 → x.phase = .preroll ∧ t.hif.evBuf = s.hif.evBuf) ∧
            (s.pwr.budget * 1000 < s.admitSum x.est → x.phase = .deferred ∧
              t.hif.evBuf = s.hif.evBuf ++ evRecords s.devNum 0x0204 s.stampNow false
                (packItems [] [it1 n.toNat, it2 (s.admitSum x.est / 10), it2 (s.pwr.budget * 100)]))) ∧
        (∀ f, s.startFail n.toNat none = some f → s.cplOn (descId d 0x14) →
          ∃ t, exec (.runStart d n timed lateOk tmo est tm) s = .next t ∧ t.sites = s.sites ∧
            t.hif.cpls = s.hif.cpls ++ [cplOf (s.named (descId d 0x14)) { status := 1, cause := f.cause }] ∧
            (s.cfg.load = none → (s.site n.toNat).formed = true → (s.site n.toNat).counts.sum ≠ 0 → s.active n.toNat = true →
              f.cause = 2 ∧ t = { s with hif := t.hif })))) ∧
    (s.run n.toNat = some r → r.phase = .preroll → s.runsHeld = false → (∀ e ∈ s.engines n.toNat, s.prerolled r e = true) →
      let here (k : Nat) : Prop := k = s.devNum ∨ k ∈ r.readies
      let soon := s.siteTick r + 8 * r.div + 4 * r.lead
      let begins (c : Nat) : Nat := tickUp r.div (if r.routes = [] then c else 4 * ((c + 3) / 4))
      let fixed (c : Nat) : Prop := ∃ t x, exec (.prerollMet n) s = .next t ∧ t.run n.toNat = some x ∧ x.phase = .scheduled ∧
        x.start = begins c ∧ x.desc = r.desc ∧ ∀ k, k ≠ n.toNat → t.site k = s.site k
      (r.up ≠ none ∨ (∃ k ∈ maskBits 16 (s.site n.toNat).devset, ¬ here k) →
        ∃ t x, exec (.prerollMet n) s = .next t ∧ t.run n.toNat = some x ∧ x.phase = .ready ∧ x.desc = r.desc ∧
          (r.up = none → s.devNum ∈ x.readies) ∧ ∀ k, k ≠ n.toNat → t.site k = s.site k) ∧
      (r.up = none → (∀ k ∈ maskBits 16 (s.site n.toNat).devset, here k) →
        (r.timed = none → fixed soon) ∧
        (∀ T, r.timed = some T →
          (soon ≤ 4 * s.tickOf (ofVisible T) → fixed (4 * s.tickOf (ofVisible T))) ∧
          (4 * s.tickOf (ofVisible T) < soon → r.lateOk = true → fixed soon) ∧
          (4 * s.tickOf (ofVisible T) < soon → r.lateOk = false → r.desc = some i → s.cplOn i →
            ∃ t l, exec (.prerollMet n) s = .next t ∧ t.run n.toNat = none ∧
              t.hif.cpls = s.hif.cpls ++ cplOf i { status := 1, cause := 0x0A } :: l)))) ∧
    (s.run n.toNat = some r → r.phase = .preroll → s.runsHeld = true ∨ (∃ e ∈ s.engines n.toNat, s.prerolled r e = false) →
      exec (.prerollMet n) s = .next s) ∧
    (s.run n.toNat = some r → r.phase = .deferred ∨ r.phase = .preroll ∨ r.phase = .ready → r.up = none → r.desc = some i → s.cplOn i →
      (∃ t l, exec (.prerollTimeout n) s = .next t ∧ t.run n.toNat = none ∧ t.member = s.member ∧
        t.hif.cpls = s.hif.cpls ++ cplOf i { status := 1, cause := 9 } :: l ∧ (r.resets = [] → t.eng = s.eng)) ∧
      (s.spans n.toNat = true →
        ∃ t l, exec (.runPrepNoReply n) s = .next t ∧ t.run n.toNat = none ∧ t.member = s.member ∧
          t.hif.cpls = s.hif.cpls ++ cplOf i { status := 1, cause := 8 } :: l ∧ (r.resets = [] → t.eng = s.eng)))

/-- 03 R97, 05 R143, R153, R145, 04 R129: at start commit every engine of the site takes its start address, source, pointer and timing
set from its registers, its counts are 0, its memory and levels stay, and other engines are not touched; at the start tick they run,
with RUN_STARTED (their levels 0 while channels are not live); and once everything has drained, the leader completes the RUN_START with
the run's end when every device of the set is done, and another device sends DONE. -/
def Obligations.RunsCommitRunAndEnd : Prop :=
  ∀ (s : State) (n : SiteNo) (r : Run) (i : DescId), SMap.wf siteReset s.sites = true → s.run n.toNat = some r →
    (r.phase = .scheduled → s.runsHeld = false →
      ∃ t x, exec (.startCommit n) s = .next t ∧ t.run n.toNat = some x ∧ x.phase = .committed ∧ x.start = r.start ∧
        (∀ e ∈ s.engines n.toNat, (t.e e).pc = s.startPc e ∧ (t.e e).next = s.startPc e ∧ (t.e e).src = s.startSrc e ∧
          (t.e e).lptr = s.startLptr e ∧ (t.e e).ts = s.startTs e ∧ (t.e e).failCnt = 0 ∧ (t.e e).cyc = 0 ∧ (t.e e).loops = [] ∧
          (t.e e).mem = (s.e e).mem ∧ (t.e e).den = (s.e e).den ∧ (t.e e).drv = (s.e e).drv) ∧
        (∀ e, e ∉ s.engines n.toNat → t.e e = s.e e) ∧ t.regs = s.regs ∧ t.member = s.member) ∧
    (r.phase = .committed → s.hif.evBuf.length + 2 ≤ 4096 →
      ∃ t x, exec (.runStarted n) s = .next t ∧ t.run n.toNat = some x ∧ x.phase = .running ∧ x.start = r.start ∧
        ((∀ p ∈ s.parcels n.toNat, (s.f p).spillFull = false) → x = { r with phase := .running, endAt := r.start }) ∧
        (∀ e ∈ s.engines n.toNat, t.e e = { s.e e with
          seq := 1, pos := 0, late := [], den := (s.e e).den && s.cfg.live, drv := (s.e e).drv && s.cfg.live }) ∧
        (∀ e, e ∉ s.engines n.toNat → t.e e = s.e e) ∧
        t.hif.evBuf = s.hif.evBuf ++ evRecords s.devNum 0x1010 (s.stampVco r.start) false
          (packItems [] [it1 n.toNat, it1 (if r.flagV1 then 1 else 0), it2 r.lead, itTime (s.stampVco r.start)])) ∧
    (r.phase = .draining → s.drained n.toNat = true → s.engines n.toNat ≠ [] →
      (r.up = none → (∀ k ∈ maskBits 16 (s.site n.toNat).devset, k = s.devNum ∨ k ∈ r.dones) → r.desc = some i → s.cplOn i →
        ∃ t c l, exec (.runEndCompletion n) s = .next t ∧ t.run n.toNat = none ∧ t.hif.cpls = s.hif.cpls ++ c :: l ∧ c.status = 0 ∧
          c.cause = s.runReason r ∧ (r.stop = none → r.err = none → r.others = [] → c.cause = 1) ∧
          c.flags = s.runFlags r ∧ c.tag = i.tag ∧ c.index = i.index ∧ c.result = leBytes 10 (s.stampVco r.endAt) ∧
          (r.resets = [] → t.fm = s.fm ∧ ∀ e, t.e e = { s.e e with edges := (t.e e).edges, late := (t.e e).late })) ∧
      (r.up = none → (∃ k ∈ maskBits 16 (s.site n.toNat).devset, k ≠ s.devNum ∧ k ∉ r.dones) →
        ∃ t, exec (.runEndCompletion n) s = .next t ∧ t = { s with sites := t.sites } ∧ ∃ x, t.run n.toNat = some x ∧
          s.devNum ∈ x.dones ∧ x = { r with dones := x.dones }) ∧
      (∀ l, r.up = some l →
        ((∃ k ∈ r.readies, k ∉ r.dones) → ∃ t, exec (.runEndCompletion n) s = .next t ∧
          t.run n.toNat = some { r with doneSent := true } ∧ (r.doneSent = true → t = s)) ∧
        ((∀ k ∈ r.readies, k ∈ r.dones) → ∃ t, exec (.runEndCompletion n) s = .next t ∧ t.run n.toNat = none))) ∧
    (r.phase = .draining → s.drained n.toNat = false → s.engines n.toNat ≠ [] → exec (.runEndCompletion n) s = .next s)

/-- 02 R64, R457, 03 R100, 05 R145 to R147: RUN_ABORT of a running site asks for a stop with reason 3 whose tick 0 is the present tick, and
completes when it has taken effect; RUN_RESET likewise with reason 8; either cancels a start that has not committed; of a site without a
run RUN_ABORT completes with status 8 and RUN_RESET puts the engines' sequencers at reset with memory kept. The stop leaves every engine
of the site stopped and its channel safe; a sequence error stops those that are frozen or at a barrier. CHANNELS_LIVE sets and clears
channels-live, and a clear asks every run to stop. -/
def Obligations.RunsStopAndReset : Prop :=
  ∀ (s : State) (d : DescRef) (n : SiteNo) (r : Run) (reason t0 : Nat), SMap.wf siteReset s.sites = true →
    (s.starts (descId d 0x15) (rowFields (.runAbort d n)) false = true →
      (s.run n.toNat = some r → r.stoppable = true → r.stop = none →
        ∃ t, exec (.runAbort d n) s = .next t ∧ t.hif.cpls = s.hif.cpls ∧
          t.run n.toNat = some { r with stop := some (3, s.siteTick r), aborts := r.aborts ++ [s.named (descId d 0x15)] }) ∧
      (s.run n.toNat = some r → r.waiting = true → s.cplOn (descId d 0x15) →
        ∃ t, exec (.runAbort d n) s = .next t ∧ t.run n.toNat = none ∧ cplOf (s.named (descId d 0x15)) {} ∈ t.hif.cpls) ∧
      (s.run n.toNat = none → s.cplOn (descId d 0x15) →
        ∃ t, exec (.runAbort d n) s = .next t ∧ t.hif.cpls = s.hif.cpls ++ [cplOf (s.named (descId d 0x15)) { status := 8 }] ∧
          t = { s with hif := t.hif })) ∧
    (s.starts (descId d 0x16) (rowFields (.runReset d n)) false = true →
      ((s.site n.toNat).formed = false → s.cplOn (descId d 0x16) →
        ∃ t, exec (.runReset d n) s = .next t ∧ t = { s with hif := t.hif } ∧
          t.hif.cpls = s.hif.cpls ++ [cplOf (s.named (descId d 0x16)) { status := 1, cause := 1 }]) ∧
      ((s.site n.toNat).formed = true →
        (s.run n.toNat = some r → r.stoppable = true → r.stop = none →
          ∃ t, exec (.runReset d n) s = .next t ∧ t.hif.cpls = s.hif.cpls ∧
            t.run n.toNat = some { r with stop := some (8, s.siteTick r), resets := r.resets ++ [s.named (descId d 0x16)] }) ∧
        (s.run n.toNat = some r → r.waiting = true → s.cplOn (descId d 0x16) →
          ∃ t, exec (.runReset d n) s = .next t ∧ t.run n.toNat = none ∧ cplOf (s.named (descId d 0x16)) {} ∈ t.hif.cpls) ∧
        (s.run n.toNat = none → s.cplOn (descId d 0x16) →
          ∃ t, exec (.runReset d n) s = .next t ∧ t.hif.cpls = s.hif.cpls ++ [cplOf (s.named (descId d 0x16)) {}] ∧
            (∀ e ∈ s.engines n.toNat, (t.e e).seq = 0 ∧ (t.e e).cyc = 0 ∧ (t.e e).failCnt = 0 ∧ (t.e e).safe = true ∧
              (t.e e).mem = (s.e e).mem) ∧
            (∀ e, e ∉ s.engines n.toNat → t.e e = s.e e) ∧ t.regs = s.regs ∧ t.member = s.member))) ∧
    (s.cplOn (descId d 0x17) →
      (s.starts (descId d 0x17) (rowFields (.channelsLiveSet d)) false = true →
        ∃ t, exec (.channelsLiveSet d) s = .next t ∧ t.cfg = { s.cfg with live := true } ∧
          t.hif.cpls = s.hif.cpls ++ [cplOf (s.named (descId d 0x17)) {}] ∧ t = { s with cfg := t.cfg, hif := t.hif }) ∧
      (s.starts (descId d 0x17) (rowFields (.channelsLiveClear d)) false = true →
        (s.activeSites = [] → ∃ t, exec (.channelsLiveClear d) s = .next t ∧ t.cfg = { s.cfg with live := false } ∧
          t.hif.cpls = s.hif.cpls ++ [cplOf (s.named (descId d 0x17)) {}] ∧ t = { s with cfg := t.cfg, hif := t.hif }) ∧
        (s.run n.toNat = some r → r.stoppable = true → r.stop = none →
          ∃ t l, exec (.channelsLiveClear d) s = .next t ∧ t.cfg.live = false ∧
            t.run n.toNat = some { r with stop := some (3, s.siteTick r) } ∧ (s.named (descId d 0x17), l) ∈ t.cfg.clearing ∧
            n.toNat ∈ l))) ∧
    (s.run n.toNat = some r → r.stoppable = true → r.resets = [] →
      (r.stop = some (reason, t0) → r.err = none ∨ r.errSeen = true ∨ (∃ te, r.err = some te ∧ t0 < te) →
        ∃ t x, exec (.siteStop n) s = .next t ∧ t.run n.toNat = some x ∧ x.phase = .draining ∧ x.stall = none ∧
          (∀ e ∈ s.engines n.toNat, 4 ≤ (t.e e).seq ∧ (t.e e).safe = true ∧ (t.e e).den = false ∧ (t.e e).drv = false ∧
            ((s.e e).seq < 4 → (t.e e).seq = 6)) ∧
          (∀ e, (∀ f ∈ s.engines n.toNat, e / 32 ≠ f / 32) → t.e e = s.e e)) ∧
      (∀ te, r.err = some te → r.errSeen = false → r.stop = none ∨ (r.stop = some (reason, t0) ∧ te ≤ t0) →
        ∃ t x, exec (.siteStop n) s = .next t ∧ t.run n.toNat = some x ∧ x.errSeen = true ∧ x.stall = none ∧
          (∀ e ∈ s.engines n.toNat, ((s.e e).seq = 2 ∨ (s.e e).seq = 3 → (t.e e).seq = 5) ∧
            ((s.e e).seq ≠ 2 → (s.e e).seq ≠ 3 → (t.e e).seq = (s.e e).seq)) ∧
          (∀ e, e ∉ s.engines n.toNat → t.e e = s.e e)))

/-- 05 R148 to R151, R458, 02 R62, R63: an engine whose source will not supply the slots it needs stalls its site 8 t + Q later, and one
whose source holds them does not; at that time the site freezes with SITE_STALL, or, under policy abort, stops with reason 7; once every
condition is met the leader fixes the resume 8 t + Q later, another device sends CLEAR, and there every frozen engine goes on, later by
the length of the stall, with SITE_RESUME. -/
def Obligations.SitesStallAndResume : Prop :=
  ∀ (s : State) (e : EngineNo) (n : SiteNo) (r : Run) (st : Stall) (tr : Nat), SMap.wf memberReset s.member = true →
    SMap.wf siteReset s.sites = true → s.run n.toNat = some r → s.hif.evBuf.length < 4096 →
    let why := if s.askingSource r e.toNat = 1 then 1 else 2
    (s.siteOf e.toNat = some n.toNat → r.phase = .running →
      ((s.e e.toNat).seq = 1 → (s.e e.toNat).src = 1 →
        s.asks r e.toNat = decide ((s.v e.toNat).ring.untaken < (s.judged r e.toNat 1).1)) ∧
      (s.asks r e.toNat = false → exec (.stallRequest e) s = .next s) ∧
      (s.asks r e.toNat = true → r.stall = none →
        ∃ t, exec (.stallRequest e) s = .next t ∧ t.run n.toNat = some { r with stall := some {
          freeze := s.siteTick r + 8 * r.div + 4 * r.lead, reason := why, eng := e.toNat, dev := s.devNum,
          waiting := [(e.toNat, why)] } } ∧
          (∀ f, f ≠ e.toNat → t.e f = s.e f)) ∧
      (s.asks r e.toNat = true → r.stall = some st → st.resume = none → (e.toNat, why) ∉ st.waiting →
        ∃ t, exec (.stallRequest e) s = .next t ∧ t.run n.toNat = some { r with stall := some { st with
          waiting := st.waiting ++ [(e.toNat, why)] } } ∧
          (∀ f, f ≠ e.toNat → t.e f = s.e f))) ∧
    (r.stall = some st → st.frozen = false → r.going = true →
      ((s.site n.toNat).abort = false → ∃ t, exec (.siteStall n) s = .next t ∧
        t.run n.toNat = some { r with stall := some { st with frozen := true } } ∧
        t.hif.evBuf = s.hif.evBuf ++ evRecords s.devNum 0x1012 (s.stampVco st.freeze) false
          (packItems [] [it1 n.toNat, it1 st.reason, itEng st.eng, it1 st.dev]) ∧ t = { s with sites := t.sites, hif := t.hif }) ∧
      ((s.site n.toNat).abort = true → r.stop = none → ∃ t, exec (.siteStall n) s = .next t ∧
        t.run n.toNat = some { r with stall := none, stallNext := none, stop := some (7, st.freeze - 6 * r.div) } ∧
        t = { s with sites := t.sites, bus := t.bus })) ∧
    (r.stall = some st → st.resume = none → r.going = true →
      ((∃ q ∈ st.waiting, s.resumeReady q = false) → exec (.resumeCondition n) s = .next (s.setRun n.toNat (some { r with
        stall := some { st with waiting := st.waiting.filter (fun q => !s.resumeReady q) } }))) ∧
      ((∀ q ∈ st.waiting, s.resumeReady q = true) → st.frozen = false ∨ (∀ f ∈ s.engines n.toNat, s.asks r f = false) →
        let c := s.siteTick r + 8 * r.div + 4 * r.lead
        (r.up = none → st.devs = [] → ∃ t, exec (.resumeCondition n) s = .next t ∧
          t = { s with sites := t.sites, links := t.links, out := t.out } ∧
          t.run n.toNat = some { r with stall := some { st with
            waiting := [], resume := some (if r.routes = [] then c else tickUp r.div (4 * ((c + 3) / 4))) } }) ∧
        (r.up = none → st.devs ≠ [] → exec (.resumeCondition n) s = .next (s.setRun n.toNat (some { r with
          stall := some { st with waiting := [] } }))) ∧
        (r.up ≠ none → st.waiting ≠ [] → ∃ t, exec (.resumeCondition n) s = .next t ∧
          t.run n.toNat = some { r with stall := some { st with waiting := [] } } ∧
          t = { s with sites := t.sites, links := t.links, out := t.out }))) ∧
    (r.stall = some st → st.resume = some tr → r.going = true → ∃ t, exec (.siteResume n) s = .next t ∧
      t.run n.toNat = some { r with
        stall := r.stallNext, stallNext := none, resumedCyc := true,
        releaseAt := r.releaseAt.map (fun q => if st.freeze ≤ q.2 then (q.1, q.2 + (tr - st.freeze) / r.div * r.div) else q) } ∧
      (∀ f ∈ s.engines n.toNat,
        ((s.e f).seq = 3 → (t.e f).seq = 1 ∧ (t.e f).pos = (s.e f).pos + 256 * ((tr - st.freeze) / r.div) ∧
          (t.e f).stallCh = false ∧ (t.e f).den = (s.e f).den) ∧
        (t.e f).stall = min ((s.e f).stall + (tr - st.freeze) / r.div) (2 ^ 32 - 1)) ∧
      (∀ f, f ∉ s.engines n.toNat → t.e f = s.e f))

/-- 02 R57, 03 R70, R86, R87, 05 R152, R153: at a boundary of an engine whose word still owns periods the period in progress ends and counts,
and the next begins there, with the length of the timing set in effect and a slot of the source where the word takes one; the word owns
one period less and no other parcel's engine changes; with the period of a MARK its marker record enters the parcel's input buffer (03
R92). Where no word owns periods the next word does so first. A barrier whose participants have all arrived releases them 8 t after the
first tick at or after the last arrival; in a site of several devices it waits for the leader's release. -/
def Obligations.PeriodsFollowOneAnother : Prop :=
  ∀ (s : State) (e : EngineNo) (n : SiteNo) (m : BitVec 8) (r : Run) (o : Own) (obs : Obs) (last : Nat), s.run n.toNat = some r →
    SMap.wf siteReset s.sites = true → r.stall = none →
    let x := s.e e.toNat
    let w := x.memAt (4 * x.next) 4
    let short : Bool := (s.waitingAt n.toNat m.toNat).any (s.asks r)
    (r.phase = .running → r.stop = none → r.err = none → s.siteOf e.toNat = some n.toNat → x.seq = 1 → x.delay = 0 →
      (x.own = some o → 0 < o.left → s.tsValid e.toNat x.ts = true →
        o.takes = false ∨ (obs.unc = false ∧ ∃ v u, s.slotFor r e.toNat o (o.double && decide (o.left % 2 = 1)) = .slot v u) →
        ∃ t, exec (.periodBoundary e obs) s = .next t ∧ (t.e e.toNat).inPeriod = true ∧ (t.e e.toNat).beg = x.pos ∧
          (t.e e.toNat).pos = x.pos + s.periodLen e.toNat x.ts o.double ∧
          (t.e e.toNat).own = some { o with left := o.left - 1 } ∧ (t.e e.toNat).pc = o.addr ∧
          (t.e e.toNat).curTs = x.ts ∧ (t.e e.toNat).cyc = x.cyc + (if x.inPeriod then 1 else 0) ∧
          (t.e e.toNat).vec = x.vec + (if o.takes then 1 else 0) ∧
          (∀ f, f / 32 ≠ e.toNat / 32 → t.e f = s.e f) ∧ (x.cntWrite = none → t.regs = s.regs) ∧
          ((∀ f, (s.e f).samples = []) → (∀ f, f ≠ e.toNat → t.e f = s.e f) ∧
            (o.takes = false → t.vq = s.vq ∧
              (o.word / 2 ^ 26 = 0x0F → o.word < 2 ^ 32 → o.double = false → (s.f (e.toNat / 32)).inBuf.length < 64 →
                ∃ b, (t.f (e.toNat / 32)).inBuf = (s.f (e.toNat / 32)).inBuf ++ [b] ∧ b.length = 32 ∧
                  leAt b 0 2 = 2 + 256 * n.toNat ∧ leAt b 2 2 = e.toNat ∧
                  leAt b 4 6 = (x.cyc + (if x.inPeriod then 1 else 0)) % 2 ^ 48 ∧
                  leAt b 10 2 = o.word % 2 ^ 16 ∧ leAt b 12 2 = o.addr % 2 ^ 16 ∧ leAt b 28 4 = (crc32c (b.take 28)).toNat)))) ∧
      (x.own = none → x.inPeriod = false → 4 * x.next < s.seqBytes e.toNat → obs.wordUnc = false → obs.wordCorr = 0 →
        wKnown w = true → wBad w = false → flowError x w = none → wOp w ≠ 0x11 →
        exec (.periodBoundary e obs) s = exec (.periodBoundary e obs) (s.takeWord n.toNat r e.toNat x.next w false))) ∧
    (r.going = true → s.barrierMet n.toNat m.toNat = true → short = false →
      (s.spans n.toNat = false →
        (∀ f a, f ∈ s.engines n.toNat → (s.e f).seq = 2 → (s.e f).arrive = some (m.toNat, a) → a ≤ last) →
        (∀ f ∈ s.engines n.toNat, (s.e f).seq = 4 → (s.e f).pos ≤ last) →
        (∃ f, f ∈ s.engines n.toNat ∧ (s.e f).seq = 2 ∧ (s.e f).arrive = some (m.toNat, last)) →
        ∃ t, exec (.syncRelease n m) s = .next t ∧
          (∀ f a, f ∈ s.engines n.toNat → (s.e f).seq = 2 → (s.e f).arrive = some (m.toNat, a) →
            t.e f = { s.e f with seq := 1, arrive := none, pos := 256 * ((last + 255) / 256 + 8), delay := 0 }) ∧
          (∀ f, (s.e f).seq ≠ 2 → t.e f = s.e f) ∧ t = { s with eng := t.eng }) ∧
      (s.spans n.toNat = true → (∀ q ∈ r.releaseAt, q.1 ≠ m.toNat) →
        (r.up ≠ none → (s.devNum, m.toNat) ∉ r.arrived → ∃ t, exec (.syncRelease n m) s = .next t ∧
          t.run n.toNat = some { r with arrived := (s.devNum, m.toNat) :: r.arrived } ∧
          t = { s with sites := t.sites, links := t.links, out := t.out }) ∧
        (r.up = none → (∀ k ∈ maskBits 16 (s.site n.toNat).devset, (s.site n.toNat).counts.getD k 0 = 0 ∨ k = s.devNum ∨
            (k, m.toNat) ∈ r.arrived ∨ k ∈ r.dones) → ∃ t x, exec (.syncRelease n m) s = .next t ∧ t.run n.toNat = some x ∧
          x.releaseAt = r.releaseAt ++ [(m.toNat, 4 * ((s.siteTick r + 8 * r.div + 4 * r.lead + 3) / 4))] ∧
          t = { s with sites := t.sites, links := t.links, out := t.out }))) ∧
    (∀ c, r.going = true → s.spans n.toNat = true → r.releaseAt = [(m.toNat, c)] → short = false →
      ∃ t, exec (.syncRelease n m) s = .next t ∧ t.run n.toNat = some { r with releaseAt := [] } ∧
        (∀ f a, f ∈ s.engines n.toNat → (s.e f).seq = 2 → (s.e f).arrive = some (m.toNat, a) →
          t.e f = { s.e f with seq := 1, arrive := none, pos := 256 * ceilDiv (c - r.start) r.div, delay := 0 }) ∧
        (∀ f, (s.e f).seq ≠ 2 → t.e f = s.e f))

/-- 05 R142 to R145, R158: on a link that is up, whatever other links the site's route has here, each message of a start or an end is taken
in, the next sequence number is expected, and it has its effect on the site's run: RUN_PREP has the start checked and taken up, or
answered with REFUSE; READY and DONE are counted at the leader; REFUSE ends the start with its cause; START fixes the start at the first
tick of the site at or after its time, and one that comes later than 4 t before it ends the start, with LATE_CONTROL; CANCEL ends it;
STOP_REASON is kept; RESEND has a message repeated as it was first sent. A START not answered in 1 ms is the leader's to end. -/
def Obligations.StartAndEndMessages : Prop :=
  ∀ (s : State) (h : MsgHead) (cause seq : BitVec 16) (tm : DatumTime) (i : DescId) (b : List Byte) (agree : Bool),
    let n := h.site.toNat
    let l := h.link.toNat
    s.pwr.state = .run → (s.link l).state = 5 →
    (∀ c ∈ ([.msgClear h, .msgReady h, .msgDone h, .msgArrive h 0] : List Instr),
      ∃ t, exec c s = .next t ∧ (t.link l).rxSeq = (h.seq.toNat + 1) % 256) ∧
    (s.run n = none → s.startFail n (some (l, agree)) = none →
      ∃ t x, exec (.msgRunPrep h agree) s = .next t ∧ t.run n = some x ∧ x.up = some l ∧ x.desc = none ∧
        (x.phase = .preroll ∨ x.phase = .deferred) ∧ (∀ k, k ≠ n → t.site k = s.site k)) ∧
    (∀ f, s.run n = none → s.startFail n (some (l, agree)) = some f →
      ∃ t, exec (.msgRunPrep h agree) s = .next t ∧ t.run n = none ∧ (t.link l).rxSeq = (h.seq.toNat + 1) % 256 ∧ t.member = s.member) ∧
    (∀ r, s.run n = some r → r.up = none →
      ((s.site n).formed = true → (s.site n).counts.sum ≠ 0 → s.cfg.load = none →
        let bytes := messageBytes 3 n (s.link l).devNum (s.link l).txSeq 2 0
        ∃ t, exec (.msgRunPrep h agree) s = .next t ∧ t.out = s.out ++ [.message l bytes] ∧
          t.link l = { s.link l with
            rxSeq := (h.seq.toNat + 1) % 256, txSeq := ((s.link l).txSeq + 1) % 256,
            sent := (((s.link l).txSeq, bytes) :: (s.link l).sent).take 256, txq := (s.link l).txq ++ bytes.map some ++ [none] } ∧
          (∀ k, k ≠ l → t.link k = s.link k) ∧ t = { s with links := t.links, out := t.out }) ∧
      (r.phase = .preroll ∨ r.phase = .deferred → r.readies.contains h.dev.toNat = false →
        ∃ t, exec (.msgReady h) s = .next t ∧ t.run n = some { r with readies := h.dev.toNat :: r.readies }) ∧
      (r.waiting = true →
        (∃ t, exec (.msgRefuse h cause) s = .next t ∧ t.run n = none ∧ t.member = s.member) ∧
        (∃ t, exec (.runPrepNoReply h.site) s = .next t ∧ (r.phase ≠ .scheduled → s.spans n = true → t.run n = none)) ∧
        (r.desc = some i → s.cplOn i → r.aborts = [] → r.resets = [] → s.cfg.clearing = [] → cause.toNat ≠ 2 →
          ∃ t, exec (.msgRefuse h cause) s = .next t ∧ t.run n = none ∧
            t.hif.cpls = s.hif.cpls ++ [cplOf i { status := 1, cause := cause.toNat }])) ∧
      (r.dones.contains h.dev.toNat = false →
        ∃ t, exec (.msgDone h) s = .next t ∧ t.run n = some { r with dones := h.dev.toNat :: r.dones }) ∧
      (s.vco + 4 * r.div ≤ 4 * s.tickOf (ofVisible tm.toNat) →
        ∃ t, exec (.msgStopReason h cause tm) s = .next t ∧ t.run n = some { r with others := r.others ++ [(cause.toNat, ofVisible tm.toNat)] })) ∧
    (∀ r u, s.run n = some r → r.up = some u → r.waiting = true →
      (s.vco + 4 * r.div ≤ 4 * s.tickOf (ofVisible tm.toNat) →
        ∃ t x, exec (.msgStart h tm) s = .next t ∧ t.run n = some x ∧ x.phase = .scheduled ∧
          x.start = (4 * s.tickOf (ofVisible tm.toNat) + r.div - 1) / r.div * r.div) ∧
      (4 * s.tickOf (ofVisible tm.toNat) < s.vco + 4 * r.div →
        ∃ t, exec (.msgStart h tm) s = .next t ∧ t.run n = none) ∧
      (∃ t, exec (.msgCancel h) s = .next t ∧ t.run n = none) ∧
      (r.desc = none → r.aborts = [] → r.resets = [] → s.cfg.clearing = [] →
        ∃ t, exec (.msgCancel h) s = .next t ∧ t.run n = none ∧ t.hif.cpls = s.hif.cpls)) ∧
    ((s.link l).sent.find? (fun q => q.1 = seq.toNat % 256) = some (seq.toNat % 256, b) →
      ∃ t, exec (.msgResend h seq) s = .next t ∧ t.out = s.out ++ [.message l b] ∧ t.sites = s.sites) ∧
    ((s.link l).sent.find? (fun q => q.1 = seq.toNat % 256) = none →
      exec (.msgResend h seq) s = .next (s.setLink l { s.link l with rxSeq := (h.seq.toNat + 1) % 256 }))

/-- 05 R148, R149, R152, R158: on a link that is up, whatever other links the site's route has here: STALL and RESUME fix the freeze and the
resume of a site that goes on at the first tick of the site at or after the time they carry; CLEAR takes its device from those the leader
waits for; ARRIVE is kept at the leader; RELEASE fixes a barrier's release. A message that comes later than 4 t before the time it carries
stops the site with reason 10 and LATE_CONTROL. -/
def Obligations.StallAndBarrierMessages : Prop :=
  ∀ (s : State) (h : MsgHead) (reason mask : Byte) (eng : EngineNo) (tm : DatumTime) (r : Run),
    let n := h.site.toNat
    let l := h.link.toNat
    let at_ := 4 * s.tickOf (ofVisible tm.toNat)
    s.pwr.state = .run → (s.link l).state = 5 → s.run n = some r →
    (r.going = true → s.vco + 4 * r.div ≤ at_ →
      let f := (at_ + r.div - 1) / r.div * r.div
      (r.stall = none → ∃ t, exec (.msgStall h reason eng tm) s = .next t ∧ t.run n = some { r with stall := some {
        freeze := f, reason := reason.toNat, eng := eng.toNat, dev := h.dev.toNat, devs := [h.dev.toNat] } } ∧ t.eng = s.eng) ∧
      (∀ st, r.stall = some st → ∃ t x, exec (.msgStall h reason eng tm) s = .next t ∧ t.run n = some x ∧ t.eng = s.eng ∧
        (st.resume = none → ∃ y, x = { r with stall := some y } ∧ h.dev.toNat ∈ y.devs ∧ y.freeze ≤ st.freeze ∧
          (st.frozen = false → y.freeze ≤ f) ∧ (∀ d, d ∈ st.devs → d ∈ y.devs)) ∧
        (∀ z, st.resume = some z → x.stall = some st ∧ ∃ y, x.stallNext = some y ∧ h.dev.toNat ∈ y.devs)) ∧
      (r.up ≠ none →
        (∀ st, r.stall = some st → ∃ t, exec (.msgResume h tm) s = .next t ∧
          t.run n = some { r with stall := some { st with resume := some f } } ∧ t.eng = s.eng) ∧
        (∃ t, exec (.msgRelease h mask tm) s = .next t ∧
          t.run n = some { r with releaseAt := r.releaseAt ++ [(mask.toNat, at_)],
                                  arrived := r.arrived.filter (fun q => decide (q.2 ≠ mask.toNat)) } ∧ t.eng = s.eng))) ∧
    (r.going = true → at_ < s.vco + 4 * r.div → r.stop = none → s.hif.evBuf.length < 4096 →
      ∃ t, exec (.msgStall h reason eng tm) s = .next t ∧ t.run n = some { r with stop := some (10, s.siteTick r) } ∧
        t.hif.evBuf = s.hif.evBuf ++ evRecords s.devNum 0x1014 s.stampNow false [leBytes 1 n]) ∧
    (r.up = none →
      (∀ st, r.stall = some st → ∃ t, exec (.msgClear h) s = .next t ∧
        t.run n = some { r with stall := some { st with devs := st.devs.filter (fun d => decide (d ≠ h.dev.toNat)) } } ∧ t.eng = s.eng) ∧
      (∃ t, exec (.msgArrive h mask) s = .next t ∧
        t.run n = some { r with arrived := (h.dev.toNat, mask.toNat) :: r.arrived.filter (fun q => decide (q ≠ (h.dev.toNat, mask.toNat))) } ∧
        t.eng = s.eng))

/-- 05 R159, R161 to R165: a link is enabled into training and disabled; each lane's lock and number are noted until ADVERTISE goes out;
the highest common version is taken and 64 PINGs are sent; PONG measures; TRAIN_DONE brings the link up with 64 credits; a step that
takes too long, or a lane out of order, holds it down; a retrain waits for sites that run; a block with a bad check is only counted, and
one that comes out of its step changes nothing. -/
def Obligations.LinksTrain : Prop :=
  ∀ (s : State) (link : LinkNo) (lane : BitVec 2) (v : Word) (vers : Byte) (dev : BitVec 4) (seq : Byte) (a b : BitVec 16)
    (skew : BitVec 4) (lat : Nat),
    let l := link.toNat
    let x := s.link l
    s.pwr.state = .run → s.hif.evBuf.length < 4096 →
    (∀ c ∈ ([.linkEnable link v, .sxlRetrain link v] : List Instr), ∃ t, exec c s = .next t ∧
      (t.reg (linkBase l)) = (if c = .linkEnable link v then v.toNat else v.toNat ||| 2) &&& 0xD ∧
      (v.toNat.testBit 0 = false → (s.reg (linkBase l)).testBit 0 = true → (t.link l).state = 0 ∧ (t.link l).copy = none) ∧
      (v.toNat.testBit 0 = false → (s.reg (linkBase l)).testBit 0 = false → t.links = s.links)) ∧
    ((s.reg (linkBase l)).testBit 0 = false → v.toNat.testBit 0 = true →
      ∃ t, exec (.linkEnable link v) s = .next t ∧ (t.link l).state = 1 ∧ (t.link l).devNum = s.devNum ∧
        t.out = s.out ++ [0, 1, 2, 3].map (fun k => .control l (controlBlock 1 k 0)) ∧ t.reg (linkBase l) = v.toNat &&& 0xD ∧ (∀ k, k ≠ l → t.link k = s.link k)) ∧
    ((s.reg (linkBase l)).testBit 0 = true → v.toNat.testBit 0 = true →
      (s.linkSites l = [] → ∃ t, exec (.sxlRetrain link v) s = .next t ∧ (t.link l).state = 1 ∧
        (t.link l).retrains = min (x.retrains + 1) 255) ∧
      (s.linkSites l ≠ [] → ∃ t, exec (.sxlRetrain link v) s = .next t ∧ t.link l = { x with deferRetrain := true }) ∧
      (v.toNat.testBit 1 = false → ∃ t, exec (.linkEnable link v) s = .next t ∧ t.links = s.links)) ∧
    (x.deferRetrain = true →
      (s.linkSites l = [] → ∃ t, exec (.deferredRetrain link) s = .next t ∧ (t.link l).state = 1 ∧ (t.link l).deferRetrain = false) ∧
      (s.linkSites l ≠ [] → exec (.deferredRetrain link) s = .next s)) ∧
    (x.state = 1 →
      let locks := x.locks ||| 2 ^ lane.toNat
      (locks ≠ 15 → exec (.blockLock link lane) s = .next (s.setLink l { x with locks := locks })) ∧
      (locks = 15 → x.lanes ≠ 15 → exec (.blockLock link lane) s = .next (s.setLink l { x with locks := 15, state := 2 })) ∧
      (locks = 15 → x.lanes = 15 →
        ∃ t, exec (.blockLock link lane) s = .next t ∧ (t.link l).state = 3 ∧ (t.link l).locks = 15 ∧
          t.out = s.out ++ [.control l (controlBlock 2 (s.ownVersions l) x.devNum)])) ∧
    (x.state = 1 ∨ x.state = 2 →
      let lanes := x.lanes ||| 2 ^ lane.toNat
      (skew.toNat ≤ 8 → x.locks ≠ 15 → exec (.train link lane lane skew true) s = .next (s.setLink l { x with lanes := lanes })) ∧
      (skew.toNat ≤ 8 → x.locks = 15 → lanes ≠ 15 →
        exec (.train link lane lane skew true) s = .next (s.setLink l { x with lanes := lanes, state := 2 })) ∧
      (skew.toNat ≤ 8 → x.locks = 15 → lanes = 15 → ∃ t, exec (.train link lane lane skew true) s = .next t ∧ (t.link l).state = 3 ∧
        (t.link l).lanes = 15 ∧ t.out = s.out ++ [.control l (controlBlock 2 (s.ownVersions l) x.devNum)]) ∧
      (8 < skew.toNat → exec (.train link lane lane skew true) s = .next s) ∧
      (∃ t, exec (.train link lane (lane + 1) skew true) s = .next t ∧ (t.link l).state = 6 ∧ (t.link l).reason = 2 ∧
        t.hif.evBuf = s.hif.evBuf ++ evRecords s.devNum 0x0802 s.stampNow false (packItems [] [it1 l, it1 2]))) ∧
    (x.state = 3 →
      (dev.toNat ≠ x.devNum → vers.toNat &&& s.ownVersions l ≠ 0 →
        ∃ t, exec (.advertise link vers dev true) s = .next t ∧ (t.link l).state = 4 ∧ (t.link l).peer = dev.toNat ∧
          (t.link l).version = (if (vers.toNat &&& s.ownVersions l).testBit 2 then 2 else 1) ∧
          t.out = s.out ++ (List.range 64).map (fun k => .control l (controlBlock 3 k (s.tickNo % 2 ^ 16)))) ∧
      (dev.toNat = x.devNum ∨ vers.toNat &&& s.ownVersions l = 0 →
        ∃ t, exec (.advertise link vers dev true) s = .next t ∧ (t.link l).state = 6 ∧
          (t.link l).reason = (if dev.toNat = x.devNum then 4 else 3))) ∧
    (x.state = 3 ∨ x.state = 4 →
      (∃ t, exec (.ping link seq a b true) s = .next t ∧ t.out = s.out ++ [.control l (controlBlock 4 seq.toNat b.toNat)] ∧
        t.link l = { x with btx := x.btx ++ [(true, controlBlock 4 seq.toNat b.toNat)] } ∧
        t = { s with links := t.links, out := t.out }) ∧
      (x.doneOut = false → exec (.trainDone link true) s = .next (s.setLink l { x with doneIn := true })) ∧
      (x.doneOut = true → ∃ t, exec (.trainDone link true) s = .next t ∧ (t.link l).state = 5 ∧ (t.link l).credits = 64 ∧
        (t.link l).lat = x.lat ∧
        t.hif.evBuf = s.hif.evBuf ++ evRecords s.devNum 0x0801 s.stampNow false (packItems [] [it1 l]))) ∧
    (x.state = 4 →
      let smp := x.samples ++ [(a.toNat - b.toNat + 1) / 2]
      (x.samples.length < 63 → exec (.pong link seq a b true) s = .next (s.setLink l { x with samples := smp })) ∧
      (x.samples.length = 63 → 79 < median64 smp →
        ∃ t, exec (.pong link seq a b true) s = .next t ∧ (t.link l).state = 6 ∧ (t.link l).reason = 5) ∧
      (x.samples.length = 63 → median64 smp ≤ 79 →
        ∃ t, exec (.pong link seq a b true) s = .next t ∧ (t.link l).lat = median64 smp ∧ (t.link l).doneOut = true ∧
          (t.link l).state = (if x.doneIn then 5 else 4) ∧ t.out = s.out ++ [.control l (controlBlock 8 0 0)]) ∧
      (x.samples = List.replicate 63 lat → (a.toNat - b.toNat + 1) / 2 = lat → lat ≤ 79 → x.doneIn = false →
        ∃ t, exec (.pong link seq a b true) s = .next t ∧ (t.link l).lat = lat ∧ (t.link l).doneOut = true ∧
          t.out = s.out ++ [.control l (controlBlock 8 0 0)])) ∧
    (x.locks ≠ 0 → 1 ≤ x.state → x.state ≤ 4 →
      ∃ t, exec (.linkTrainTimeout link) s = .next t ∧ (t.link l).state = 6 ∧ (t.link l).reason = (if x.state = 4 then 5 else x.state)) ∧
    (x.locks = 0 ∨ x.state = 0 ∨ 5 ≤ x.state → exec (.linkTrainTimeout link) s = .next s) ∧
    (x.state = 0 ∨ 5 ≤ x.state →
      ∀ c ∈ ([.blockLock link lane, .train link lane lane skew true, .advertise link vers dev true, .ping link seq a b true,
          .pong link seq a b true, .trainDone link true] : List Instr), exec c s = .next s) ∧
    (∀ c ∈ ([.train link lane lane skew false, .advertise link vers dev false, .ping link seq a b false, .pong link seq a b false,
        .credit link a false, .ack link seq false, .nak link seq false, .trainDone link false] : List Instr),
      exec c s = .next (s.setLink l { x with badCtl := x.badCtl + 1 }))

/-- 05 R157 to R160, R165, 12 R357, R359: CREDIT returns credits, at most 64, and what waits goes out; ACK drops the packets up to the one
named, and with its last packet a copy completes; NAK has the packets from the one named sent again; a bulk packet in sequence is
acknowledged and credited, and with the last packet of a block the block is stored, where its carried check value holds and it lies in
GEN; another packet is asked for with NAK; SXL_COPY sends three packets for each block up to the first that fails, here at hop 3 or at
the peer at hop 6. A good side word's byte is taken and its bits join the fails of their site; a second bad word in a row raises
SXL_SIDE_LOST and retrains the link. -/
def Obligations.BulkAndSideWords : Prop :=
  ∀ (s : State) (d : DescRef) (link : LinkNo) (n : BitVec 16) (seq : Byte) (w : BitVec 128) (ws : List Quad) (q : Nat) (pk : List Nat)
    (rest : List (Nat × List Nat)) (src dst : Quad) (blocks : Word) (ecc : Ecc) (peerBad : Option Word),
    let l := link.toNat
    let x := s.link l
    let wv := ws.map BitVec.toNat
    let words := x.rxWords ++ (wv.dropLast).drop 1
    let copy := descId d 0x03
    x.state = 5 →
    (∃ t, exec (.credit link n true) s = .next t ∧ (t.link l).copy = x.copy ∧ t.hif = s.hif ∧
      (t.link l).unacked.length + (t.link l).waitTx.length = x.unacked.length + x.waitTx.length) ∧
    (x.waitTx = [] → exec (.credit link n true) s = .next (s.setLink l { x with credits := min 64 (x.credits + n.toNat) })) ∧
    (x.unacked.all (fun p => decide (p.1 % 256 ≠ seq.toNat)) = true →
      exec (.ack link seq true) s = .next s ∧ exec (.nak link seq true) s = .next s) ∧
    (∀ k, x.unacked.findIdx? (fun p => p.1 % 256 = seq.toNat) = some k →
      (∃ t, exec (.ack link seq true) s = .next t ∧
        (t.link l).unacked.length + (t.link l).waitTx.length + k + 1 = x.unacked.length + x.waitTx.length ∧
        (x.copy = none → t.hif = s.hif) ∧
        (∀ c, x.copy = some c → k + 1 < c.left → t.hif = s.hif ∧ (t.link l).copy = some { c with left := c.left - (k + 1) }) ∧
        (∀ c, x.copy = some c → c.left ≤ k + 1 → s.cplOn c.desc → (t.link l).copy = none ∧
          t.hif.cpls = s.hif.cpls ++ [cplOf c.desc (match c.bad with | none => {} | some b => { status := 0x0B, hop := 6, block := b })])) ∧
      (∃ t, exec (.nak link seq true) s = .next t ∧ (x.replayAt.length < 31 → t.hif = s.hif ∧
        t.out = s.out ++ (x.unacked.drop k).map (fun p => .bulk l p.1 p.2) ∧ (t.link l).unacked = x.unacked ∧
        (t.link l).replays = min (x.replays + 1) 65535))) ∧
    (x.unacked = (q, pk) :: rest → q % 256 = seq.toNat →
      (x.waitTx = [] → x.copy = none → exec (.ack link seq true) s = .next (s.setLink l { x with unacked := rest })) ∧
      (x.replayAt = [] → ∃ t, exec (.nak link seq true) s = .next t ∧
        t.out = s.out ++ ((q, pk) :: rest).map (fun p => .bulk l p.1 p.2) ∧
        t.link l = { x with replays := min (x.replays + 1) 65535, replayAt := [s.tim.tick],
                            btx := x.btx ++ ((q, pk) :: rest).flatMap (fun p => p.2.map fun v => (false, v)) })) ∧
    (packetGood .bulk (some x.bulkRx) wv = true → hdrLen (wv.headD 0) ≤ 256 →
      let ack := controlBlock 6 (x.bulkRx % 256) 0
      let back := controlBlock 5 0 ((ws.length + 63) / 64)
      ∃ t, exec (.bulkPacket link ws) s = .next t ∧ t.out = s.out ++ [.control l ack, .control l back] ∧
        t.link l = { x with bulkRx := (x.bulkRx + 1) % 2 ^ 16, nakSent := false, btx := x.btx ++ [(true, ack), (true, back)],
                            rxWords := if 514 ≤ words.length then words.drop 514 else words } ∧
        t = { s with links := t.links, out := t.out, dvm := t.dvm } ∧ (words.length < 514 → t.dvm = s.dvm) ∧
        (514 ≤ words.length →
          let a := words.getD 0 0
          let bs := wordBytes ((words.take 514).drop 2)
          (a % 4096 = 0 ∧ s.dvm.within 64 a 4096 = true ∧ s.dvm.ready = true ∧ (crc32c bs).toNat = words.getD 1 0 % 2 ^ 32 →
            ∀ j, j < 4096 → bs[j]? = some (t.dvm.bytes.get zeroByte (a + j))) ∧
          ((crc32c bs).toNat ≠ words.getD 1 0 % 2 ^ 32 → t.dvm = s.dvm))) ∧
    (packetGood .bulk (some x.bulkRx) wv = false → x.nakSent = false ∨ hdrSeq (wv.headD 0) = x.bulkRx →
      ∃ t, exec (.bulkPacket link ws) s = .next t ∧ t.out = s.out ++ [.control l (controlBlock 7 (x.bulkRx % 256) 0)] ∧
        t.link l = { x with nakSent := true, btx := x.btx ++ [(true, controlBlock 7 (x.bulkRx % 256) 0)] } ∧
        t = { s with links := t.links, out := t.out }) ∧
    (s.starts copy (rowFields (.sxlCopy d src dst blocks link ecc true peerBad)) false = true → x.copy = none → s.dvm.ready = true →
      src.toNat % 4096 = 0 → dst.toNat % 4096 = 0 → s.dvm.within 64 src.toNat (4096 * blocks.toNat) = true → ecc.bad = [] →
      (blocks.toNat = 0 → s.cplOn copy → ∃ t, exec (.sxlCopy d src dst blocks link ecc true peerBad) s = .next t ∧
        t.hif.cpls = s.hif.cpls ++ [cplOf (s.named copy) {}] ∧ (t.link l).copy = none) ∧
      ((∀ k, k < blocks.toNat → s.dvm.blockOk (src.toNat / 4096 + k) = true) → 0 < blocks.toNat →
        ∃ t, exec (.sxlCopy d src dst blocks link ecc true peerBad) s = .next t ∧
          (let sent := 3 * (match peerBad with | none => blocks.toNat | some k => min blocks.toNat (k.toNat + 1))
           let left := x.unacked.length + x.waitTx.length + sent
           let bad := (peerBad.map BitVec.toNat).filter (fun k => decide (k < blocks.toNat))
           (t.link l).copy = some { desc := s.named copy, left := left, bad := bad } ∧
           (t.link l).unacked.length + (t.link l).waitTx.length = left) ∧
          t.hif.cpls = s.hif.cpls ∧ t.dvm.bytes = s.dvm.bytes) ∧
      (∀ k, k < blocks.toNat → s.dvm.blockOk (src.toNat / 4096 + k) = false →
        (∀ j, j < k → s.dvm.blockOk (src.toNat / 4096 + j) = true) → peerBad = none → s.cplOn copy →
        ∃ t, exec (.sxlCopy d src dst blocks link ecc true peerBad) s = .next t ∧ (t.link l).copy = none ∧
          (t.link l).unacked.length + (t.link l).waitTx.length = x.unacked.length + x.waitTx.length + 3 * k ∧
          t.hif.cpls = s.hif.cpls ++ [cplOf (s.named copy) { status := 0x0B, hop := 3, block := k }])) ∧
    (w.toNat / 2 ^ 96 = (crc32c (leBytes 12 w.toNat)).toNat →
      (∃ t, exec (.sideWordReceived link w) s = .next t ∧ (t.link l).badRun = 0 ∧ t.eng = s.eng ∧ t.hif = s.hif) ∧
      (x.badRun = 0 → w.toNat / 2 ^ 4 % 2 ^ 3 = 0 → w.toNat.testBit 7 = true →
        ∃ t, exec (.sideWordReceived link w) s = .next t ∧ t.link l = { x with msg := x.msg ++ [BitVec.ofNat 8 (w.toNat / 2 ^ 88)] } ∧
          (∀ k, k ≠ l → t.link k = s.link k) ∧ t = { s with links := t.links }) ∧
      (∀ k r, x.badRun = 0 → w.toNat / 2 ^ 4 % 2 ^ 3 = 1 → w.toNat / 2 ^ 8 % 2 ^ 36 = 1 → w.toNat.testBit 7 = false → x.msg = [] →
        s.slotSite l 0 = some k → s.slotSite l 1 = none → s.slotSite l 2 = none → s.routeLinks k = [l] → s.run k = some r →
        r.going = true → ∃ t m, exec (.sideWordReceived link w) s = .next t ∧
          t.run k = some { r with fails := r.fails ++ [(m, 1024 + l)] } ∧ t.out = s.out ∧ t.eng = s.eng)) ∧
    (w.toNat / 2 ^ 96 ≠ (crc32c (leBytes 12 w.toNat)).toNat →
      (x.badRun = 0 → exec (.sideWordReceived link w) s =
        .next (s.setLink l { x with badRun := 1, badSide := min (x.badSide + 1) 255 })) ∧
      (0 < x.badRun → ∃ t, exec (.sideWordReceived link w) s = .next t ∧ (t.link l).state = 1 ∧ (t.link l).reason = 6 ∧
        (s.hif.evBuf.length < 4096 → s.linkSites l = [] → x.copy = none →
          t.hif.evBuf = s.hif.evBuf ++ evRecords s.devNum 0x0803 s.stampNow false (packItems [] [it1 l]))))

/-- 05 R169 to R171, R163: a BENCH_TAKE, immediate or timed, forwarded or not, is held until its strobe, to capture at its time or,
immediate, 9 ticks on; one that comes while a benchmark is unread, without its overwrite, or while another is held, or too late, is
refused with status 1, 3 or 4 and counted; the strobe sends it on its way; the capture keeps the counters of all 1,024 engines at once
under its ID, with BENCH_TAKEN, and ends the reads in progress; a read puts out blocks with their check values and releases the benchmark
where asked, or puts out those before the capture that ends it. BENCH is a timed BENCH_TAKE of the device's own, which joined links carry
on. -/
def Obligations.BenchmarksAreTakenAndRead : Prop :=
  ∀ (s : State) (d : DescRef) (h : MsgHead) (id first count : BitVec 16) (parts : Byte) (timed ovw fwd rel : Bool) (tm : DatumTime) (o : DataOut)
    (upto : Word) (b : Bench) (rest : List Bench) (i : DescId),
    let take := s.named (descId d 0x18)
    let read := s.named (descId d 0x19)
    let cap := s.tickOf (ofVisible tm.toNat)
    let late := timed = true ∧ cap < s.tim.tick + 8
    (s.starts (descId d 0x18) (rowFields (.benchTake d id timed ovw fwd tm)) false = true →
      ((s.snp.unread = false ∨ ovw = true) → s.snp.pend = none → ¬ late →
        ∃ t, exec (.benchTake d id timed ovw fwd tm) s = .next t ∧ t.hif.cpls = s.hif.cpls ∧ t.snp = { s.snp with
          pend := some { id := id.toNat, cap := if timed then cap else s.tim.tick + 9, timed := timed,
                         ovw := ovw, time := tm.toNat, desc := some take } } ∧ (fwd = false → t.links = s.links ∧ t.out = s.out)) ∧
      (s.cplOn (descId d 0x18) → (s.snp.unread = true ∧ ovw = false) ∨ s.snp.pend.isSome = true ∨ late →
        ∃ t, exec (.benchTake d id timed ovw fwd tm) s = .next t ∧ t.snp = { s.snp with refused := min (s.snp.refused + 1) 65535 } ∧
          t.hif.cpls = s.hif.cpls ++ [cplOf take { status :=
            if s.snp.unread = true ∧ ovw = false then 1 else if s.snp.pend.isSome then 3 else 4 }] ∧
          t = { s with snp := t.snp, hif := t.hif })) ∧
    (s.pwr.state = .run → (s.link h.link.toNat).state = 5 → (s.link h.link.toNat).version = 2 → s.benchHeld id.toNat cap = false →
      (s.snp.unread = false ∨ ovw = true → s.snp.pend = none → s.tim.tick + 8 ≤ cap →
        ∃ t, exec (.msgBench h ovw id tm) s = .next t ∧ t.snp = { s.snp with
          pend := some { id := id.toNat, cap := cap, timed := true, ovw := ovw, time := tm.toNat } } ∧
          t = { s with snp := t.snp, links := t.links, out := t.out }) ∧
      ((s.snp.unread = true ∧ ovw = false) ∨ s.snp.pend.isSome = true ∨ cap < s.tim.tick + 8 →
        ∃ t, exec (.msgBench h ovw id tm) s = .next t ∧ t.snp = { s.snp with refused := min (s.snp.refused + 1) 65535 } ∧
          t.hif.cpls = s.hif.cpls)) ∧
    (s.snp.pend = some b →
      exec .benchStrobe s = .next { s with snp := { s.snp with pend := none, flight := s.snp.flight ++ [b] } }) ∧
    (s.snp.flight = b :: rest →
      (∃ t, exec .benchCapture s = .next t ∧ t.snp.lastId = b.id ∧ t.snp.unread = true ∧ t.snp.flight = rest ∧ t.snp.timed = b.timed ∧
        t.snp.reading = [] ∧ t.snp.overwrote = (s.snp.unread && b.ovw) ∧ t.snp.capTime = stamp80 (s.valueAt b.cap) ∧
        (∀ e, e < 1024 → s.siteOf e = none → s.parcelOn (e / 32) = true →
          let y := t.snp.shadows.get shadowReset e
          y.cyc = (s.e e).cyc ∧ y.vec = (s.e e).vec ∧ y.fails = (s.e e).failCnt ∧ y.stall = (s.e e).stall ∧ y.member = false ∧ y.off = false) ∧
        t = { s with snp := t.snp, hif := t.hif }) ∧
      (b.desc = some i → s.cplOn i → (∀ k ∈ s.snp.reading, s.cplOn k) → s.hif.evBuf.length < 4096 →
        ∃ t, exec .benchCapture s = .next t ∧
          t.hif.cpls = s.hif.cpls ++ s.snp.reading.map (fun k => cplOf k { status := 6 }) ++
            [cplOf i { result := leBytes 2 b.id ++ leBytes 10 (stamp80 (s.valueAt b.cap)) }] ∧
          t.hif.evBuf = s.hif.evBuf ++ evRecords s.devNum 0x0A01 s.stampNow false
            (packItems [] [it2 b.id, itTime (stamp80 (s.valueAt b.cap))]))) ∧
    (s.starts (descId d 0x19) (rowFields (.benchRead d id first count parts rel o upto)) false = true → s.cplOn (descId d 0x19) →
      parts.toNat < 8 → outBad o = false → first.toNat + count.toNat ≤ 1024 →
      let len := 32 + 32 * count.toNat * (parts.toNat % 2 + parts.toNat / 2 % 2 + parts.toNat / 4)
      let n := min o.blocks.toNat ((len + 4095) / 4096)
      (id.toNat ≠ s.snp.lastId → ∃ t, exec (.benchRead d id first count parts rel o upto) s = .next t ∧
        t.hif.cpls = s.hif.cpls ++ [cplOf read { status := 1 }] ∧ t = { s with hif := t.hif }) ∧
      (id.toNat = s.snp.lastId → n ≤ upto.toNat →
        ∃ t l, exec (.benchRead d id first count parts rel o upto) s = .next t ∧
          t.snp = { s.snp with unread := s.snp.unread && !rel, overwrote := false } ∧
          t.hif.cpls = s.hif.cpls ++ [cplOf read {}] ∧ t.out = s.out ++ l ∧ l.length = 2 * n ∧
          (∀ k, k < n → ∃ bs, l[2 * k]? = some (.host (o.addr.toNat + 4096 * k) bs) ∧ bs.length = 4096 ∧
            l[2 * k + 1]? = some (.host (o.checks.toNat + 4 * k) (leBytes 4 (crc32c bs).toNat))) ∧ t = { s with snp := t.snp, hif := t.hif, out := t.out }) ∧
      (id.toNat = s.snp.lastId → upto.toNat < n →
        ∃ t l, exec (.benchRead d id first count parts rel o upto) s = .next t ∧ t.hif.cpls = s.hif.cpls ∧
          t.snp = { s.snp with reading := s.snp.reading ++ [read] } ∧ t.out = s.out ++ l ∧ l.length = 2 * upto.toNat))

/-- 06 R175, R177, R178, R219, 12 R360, R361, R366: LOAD into a range inside a partition stores each block's bytes with its check value, up to
the first block that fails on entry, and every other byte stays; a range outside is refused, and a memory whose training failed answers
with status 2. DVM_READ puts out the blocks of its range with their stored check values, up to the first that fails its check or holds
an uncorrectable line, at hop 3, and changes no byte. -/
def Obligations.DvmBlocksAreStoredAndRead : Prop :=
  ∀ (s : State) (d : DescRef) (a : Quad) (bs : List HostBlock) (o : DataOut) (ecc : Ecc),
    let bad (b : HostBlock) : Bool := b.err.any (fun e => decide (e.1 ≠ 0)) || decide (crc32c b.data ≠ b.check)
    let load := descId d 0x01
    let read := descId d 0x02
    (s.starts load (rowFields (.load d a bs)) false = true → s.cplOn load → bs ≠ [] → (∀ b ∈ bs, b.wellFormed = true) →
      (s.dvm.trainOff = true → ∃ t, exec (.load d a bs) s = .next t ∧ t.hif.cpls = s.hif.cpls ++ [cplOf (s.named load) { status := 2 }] ∧
        t = { s with hif := t.hif }) ∧
      (s.dvm.ready = true → s.dvm.hostRange a.toNat (4096 * bs.length) = false →
        ∃ t, exec (.load d a bs) s = .next t ∧ t.hif.cpls = s.hif.cpls ++ [cplOf (s.named load) { status := 1 }] ∧
          t = { s with hif := t.hif }) ∧
      (s.dvm.ready = true → s.dvm.hostRange a.toNat (4096 * bs.length) = true →
        ((∀ b ∈ bs, b.err = none ∧ bad b = false) →
          ∃ t, exec (.load d a bs) s = .next t ∧ t.hif.cpls = s.hif.cpls ++ [cplOf (s.named load) {}] ∧
            t = { s with dvm := t.dvm, hif := t.hif } ∧ t.dvm = { s.dvm with bytes := t.dvm.bytes, check := t.dvm.check } ∧
            (∀ k b, bs[k]? = some b → (∀ i, i < 4096 → b.data[i]? = some (t.dvm.bytes.get zeroByte (a.toNat + 4096 * k + i))) ∧
              t.dvm.check.get checkReset (a.toNat / 4096 + k) = b.check.toNat) ∧
            (∀ c, c < a.toNat ∨ a.toNat + 4096 * bs.length ≤ c → t.dvm.bytes.get zeroByte c = s.dvm.bytes.get zeroByte c)) ∧
        (∀ n f, bs[n]? = some f → bad f = true → (∀ b ∈ bs.take n, bad b = false) →
          let st := if f.err.any (fun e => decide (e.1 ≠ 0)) then 0x0E else 0x0B
          ∃ t, exec (.load d a bs) s = .next t ∧
            t.hif.cpls = s.hif.cpls ++ [cplOf (s.named load) { status := st, hop := if st = 0x0B then 1 else 0, block := n }] ∧
            (∀ k b, k < n → bs[k]? = some b → (∀ i, i < 4096 → b.data[i]? = some (t.dvm.bytes.get zeroByte (a.toNat + 4096 * k + i)))) ∧
            (∀ c, c < a.toNat ∨ a.toNat + 4096 * n ≤ c → t.dvm.bytes.get zeroByte c = s.dvm.bytes.get zeroByte c)))) ∧
    (s.starts read (rowFields (.dvmRead d a o ecc)) false = true → s.cplOn read → outBad o = false →
      (s.dvm.trainOff = true → ∃ t, exec (.dvmRead d a o ecc) s = .next t ∧
        t.hif.cpls = s.hif.cpls ++ [cplOf (s.named read) { status := 2 }] ∧ t = { s with hif := t.hif }) ∧
      (s.dvm.ready = true → s.dvm.hostRange a.toNat (4096 * o.blocks.toNat) = false → ∃ t, exec (.dvmRead d a o ecc) s = .next t ∧
        t.hif.cpls = s.hif.cpls ++ [cplOf (s.named read) { status := 1 }] ∧ t = { s with hif := t.hif }) ∧
      (∀ n, s.dvm.ready = true → s.dvm.hostRange a.toNat (4096 * o.blocks.toNat) = true → n ≤ o.blocks.toNat →
        (∀ k, k < n → s.dvm.blockFails ecc (a.toNat / 4096 + k) = false) →
        (n < o.blocks.toNat → s.dvm.blockFails ecc (a.toNat / 4096 + n) = true) →
        ∃ t l, exec (.dvmRead d a o ecc) s = .next t ∧ t.hif.cpls = s.hif.cpls ++ [cplOf (s.named read)
            (if n = o.blocks.toNat then {} else { status := 0x0B, hop := 3, block := n })] ∧
          t.out = s.out ++ l ∧ l.length = 2 * n ∧ t.dvm.bytes = s.dvm.bytes ∧
          (∀ k, k < n → ∃ bs, l[2 * k]? = some (.host (o.addr.toNat + 4096 * k) bs) ∧ bs.length = 4096 ∧
            l[2 * k + 1]? = some (.host (o.checks.toNat + 4 * k) (leBytes 4 (s.dvm.check.get checkReset (a.toNat / 4096 + k)))) ∧
            ∀ i, i < 4096 → bs[i]? = some (s.dvm.bytes.get zeroByte (a.toNat + 4096 * k + i)))))

/-- 06 R183 to R186, R188, R189, R191 to R193: a stream packet, of an engine or of a CQ, that fits and is good joins the ring whole and the
stream moves on, and ends at a VEND or with its last word; one that does not fit yet waits; a packet changed on its way is rewound with
QUEUE_RETRY and read again, and the third retry that fails ends in ERROR with cause 3; one too long for the stream or the ring, or a block
that fails twice, ends in ERROR with its cause. A host flush keeps no more than the words of reserved slots; a restart binds the stream
its registers name; a new ring size re-lays the VQ. While a run holds the engine they are ignored, with REG_WRITE_IN_RUN. -/
def Obligations.StreamsFillEngineRings : Prop :=
  ∀ (s : State) (q : StreamId) (e : EngineNo) (ecc : Ecc) (cor : Bool) (v : Word), s.pwr.state = .run →
    (let r := s.sring q
     let h := s.dvm.word (r.base / 8 + r.pos)
     let n := hdrLen h + 2
     let pk := (List.range n).map (fun i => s.dvm.word (r.base / 8 + r.pos + i))
     let addr := r.base + 8 * r.pos
     let fails := s.dvm.blockFails ecc
     let c : Instr := if r.waitRetry then .streamRetry q ecc cor else .streamPacket q ecc cor
     let same (t : State) : Prop := t.dvm.bytes = s.dvm.bytes ∧ ∀ p, p ≠ q → t.sring p = s.sring p
     (exec (if r.waitRetry then .streamPacket q ecc cor else .streamRetry q ecc cor) s = .next s) ∧
     (s.pwr.fromSleep = false → s.parcelOn (streamParcel q) = true → s.streamed q = true → s.dvm.ready = true → r.st = 1 →
       (r.pos = r.blocks * 512 → exec c s = .next (s.setSring q { r with st := 2 })) ∧
       (r.pos ≠ r.blocks * 512 →
         (fails (addr / 4096) = true →
           ∃ t, exec c s = .next t ∧ same t ∧ (r.blockBad ≠ some (addr / 4096) → t.sring q = { r with blockBad := some (addr / 4096) }) ∧
             (r.blockBad = some (addr / 4096) → (t.sring q).st = 3 ∧ (t.sring q).err = 2 ∧ (t.sring q).q = r.q)) ∧
         (fails (addr / 4096) = false → r.blocks * 512 < r.pos + n ∨ s.swords q < n →
           ∃ t, exec c s = .next t ∧ same t ∧ (t.sring q).st = 3 ∧
             (t.sring q).err = (if r.blocks * 512 < r.pos + n then 5 else 4) ∧ (t.sring q).q = r.q) ∧
         (r.pos + n ≤ r.blocks * 512 → n ≤ s.swords q → (∀ k ∈ packetBlocks r n, fails k = false) → fails (addr / 4096) = false →
           (s.swords q < n + r.q.length → ∃ t, exec c s = .next t ∧ same t ∧ t.sring q = { r with blocked := true, blockBad := none }) ∧
           (n + r.q.length ≤ s.swords q →
             (packetGood (streamKind q) r.exp (corruptPacket cor pk) = true →
               ∃ t, exec c s = .next t ∧ same t ∧ (t.sring q).q = r.q ++ corruptPacket cor pk ∧ (t.sring q).pos = r.pos + n ∧
                 (t.sring q).waitRetry = false ∧ (t.sring q).rd = r.rd ∧
                 (t.sring q).st = (if hdrType h = 2 ∨ r.pos + n = r.blocks * 512 then 2 else 1) ∧ (ecc.bad = [] → t.hif = s.hif)) ∧
             (packetGood (streamKind q) r.exp (corruptPacket cor pk) = false →
               ∃ t, exec c s = .next t ∧ same t ∧ (t.sring q).q = r.q ∧ (t.sring q).pos = r.pos ∧
                 (t.sring q).rewinds = min (r.rewinds + 1) 65535 ∧ (t.sring q).waitRetry = decide (r.retries ≠ 3) ∧
                 (t.sring q).st = (if r.retries = 3 then 3 else 1) ∧
                 (ecc.bad = [] → r.retries ≠ 3 → s.hif.evBuf.length < 4096 →
                   t.hif.evBuf = s.hif.evBuf ++ evRecords s.devNum 0x1040 s.stampNow false
                     (packItems [] (queueItems q ++ [it2 (hdrSeq h)])))))))) ) ∧
    (let r := (s.v e.toNat).ring
     let p := e.toNat / 32
     s.parcelOn p = true →
     (∃ t m, exec (.vqFlush e) s = .next t ∧ (t.v e.toNat).ring.q = r.q.take m ∧ (t.v e.toNat).ring.exp = none ∧
       (s.siteOf e.toNat = none → (t.v e.toNat).ring.q = []) ∧
       (t.v e.toNat).ring.flushes = min (r.flushes + 1) 255 ∧ (∀ f, f ≠ e.toNat → t.v f = s.v f) ∧
       (s.hif.evBuf.length < 4096 → t.hif.evBuf = s.hif.evBuf ++ evRecords s.devNum 0x1042 s.stampNow false
         (packItems [] [it1 p, it1 0, itEng e.toNat, it4 (r.q.length - (t.v e.toNat).ring.q.length)]))) ∧
     (s.engActive e.toNat = false →
       ∃ t, exec (.streamRestart e) s = .next t ∧ (t.v e.toNat).ring.q = [] ∧
         ((s.ereg e.toNat 0x220).testBit 0 = false → (t.v e.toNat).ring.st = 0) ∧
         (let base := s.ereg e.toNat 0x224 + 2 ^ 32 * (s.ereg e.toNat 0x228 % 8)
          let blocks := s.ereg e.toNat 0x22C % 2 ^ 24
          (s.ereg e.toNat 0x220).testBit 0 = true →
            (blocks = 0 ∨ s.dvm.within p base (blocks * 4096) = false → (t.v e.toNat).ring.st = 3 ∧ (t.v e.toNat).ring.err = 1) ∧
            (0 < blocks → s.dvm.within p base (blocks * 4096) = true →
              (t.v e.toNat).ring.st = 1 ∧ (t.v e.toNat).ring.base = base ∧ (t.v e.toNat).ring.blocks = blocks ∧
              (t.v e.toNat).ring.pos = 0)) ∧ (∀ f, f ≠ e.toNat → t.v f = s.v f) ∧ t.regs = s.regs) ∧
     (s.engActive e.toNat = true → exec (.streamRestart e) s = .next (s.writeInRun e.toNat (engBase e.toNat + 0x234))) ∧
     (let u := s.setReg (engBase e.toNat + 0x220) (v.toNat &&& 0xFF01)
      let moved (f : Nat) : Prop := (s.ringBase64 (f / 32) (f % 32), s.ringUnitsEff f) ≠ (u.ringBase64 (f / 32) (f % 32), u.ringUnitsEff f)
      ((s.engActive e.toNat = true ∨ ∃ f, f / 32 = p ∧ moved f ∧ s.engActive f = true) →
        exec (.ringUnitsWrite e v) s = .next (s.writeInRun e.toNat (engBase e.toNat + 0x220))) ∧
      (s.engActive e.toNat = false → (∀ f, f / 32 = p → moved f → s.engActive f = false) →
        ∃ t, exec (.ringUnitsWrite e v) s = .next t ∧ t.regs = u.regs ∧
          (∀ f, f / 32 = p → moved f → (t.v f).ring.q = [] ∧ (t.v f).ring.st = 0) ∧
          (∀ f, f / 32 ≠ p ∨ ¬ moved f → t.v f = s.v f) ∧ t = { s with regs := t.regs, vq := t.vq })))

/-- 06 R189, R191, R197, R198, 08 R249, 12 R355, R360: CQ_PUSH takes the words of the host's good blocks for an active CQ that the host
feeds, and is refused otherwise; each whole packet that fits joins the queue, one that does not waits, a changed one is sent again up to
three times, and the push completes behind the last with its sequence number; the fabric takes the words of a packet one after
another, one in an edge, and none in the parcel's tick that committed it; flushes and restarts empty the queue. FQ_FLUSH discards the held
records and counts them. A flush raises QUEUE_FLUSHED with the words it discarded; while a run holds the parcel a restart and FQ_FLUSH
are ignored, with REG_WRITE_IN_RUN. -/
def Obligations.CommandAndFailQueues : Prop :=
  ∀ (s : State) (d : DescRef) (p : ParcelNo) (b : HostBlock) (bs : List HostBlock) (u : Push) (cor : Bool) (h w0 w1 : Nat) (rest : List Nat),
    let q := (s.p p.toNat).cq
    let k := p.toNat
    let push := descId d 0x04
    let words := u.words.take (hdrLen h + 2)
    s.pwr.state = .run → s.parcelOn k = true → s.hif.evBuf.length < 4096 →
    (s.starts push (rowFields (.cqPush d p (b :: bs))) false = true → (s.p k).push = none → (∀ x ∈ b :: bs, x.wellFormed = true) →
      (s.cqSrc k = true ∨ q.st ≠ 1 → s.cplOn push → ∃ t, exec (.cqPush d p (b :: bs)) s = .next t ∧
        t.hif.cpls = s.hif.cpls ++ [cplOf (s.named push) { status := 1 }] ∧ t = { s with hif := t.hif }) ∧
      (s.cqSrc k = false → q.st = 1 → (∀ x ∈ b :: bs, x.err = none ∧ crc32c x.data = x.check) →
        (leAt b.data 0 8 ≠ 0 →
          ∃ t x, exec (.cqPush d p (b :: bs)) s = .next t ∧ (t.p k).push = some x ∧ x.desc = s.named push ∧ x.bad = none ∧
            x.words.length = 512 * (bs.length + 1) ∧
            (∀ i, i < 512 → x.words[i]? = some (leAt b.data (8 * i) 8)) ∧ (t.p k).cq = q ∧
            t.hif.cpls = s.hif.cpls ∧ (∀ j, j ≠ k → t.p j = s.p j)) ∧
        (leAt b.data 0 8 = 0 → s.cplOn push → ∃ t, exec (.cqPush d p (b :: bs)) s = .next t ∧ (t.p k).push = none ∧ (t.p k).cq = q ∧
          t.hif.cpls = s.hif.cpls ++ [cplOf (s.named push) { result := [0, 0, 0, 0] }])) ∧
      (s.cqSrc k = false → q.st = 1 → b.err = none → crc32c b.data ≠ b.check → s.cplOn push →
        ∃ t, exec (.cqPush d p (b :: bs)) s = .next t ∧ (t.p k).push = none ∧ (t.p k).cq = q ∧
          t.hif.cpls = s.hif.cpls ++ [cplOf (s.named push) { status := 0x0B, hop := 1, block := 0, result := [0, 0, 0, 0] }])) ∧
    ((s.p k).push = some u → u.words = h :: rest → h ≠ 0 →
      (1024 < hdrLen h + 2 → s.cplOn u.desc → ∃ t x, exec (.cqPushPacket p cor) s = .next t ∧ (t.p k).push = none ∧ (t.p k).cq = q ∧
        t.hif.cpls = s.hif.cpls ++ [x] ∧ x.status = 2 ∧ x.cause = 4) ∧
      (hdrLen h + 2 ≤ 1024 → u.words.length < hdrLen h + 2 → s.cplOn u.desc → u.bad = none →
        ∃ t x, exec (.cqPushPacket p cor) s = .next t ∧ (t.p k).push = none ∧ (t.p k).cq = q ∧
          t.hif.cpls = s.hif.cpls ++ [x] ∧ x.status = 2 ∧ x.cause = 5) ∧
      (hdrLen h + 2 ≤ 1024 → hdrLen h + 2 ≤ u.words.length → 1024 < hdrLen h + 2 + q.q.length →
        exec (.cqPushPacket p cor) s = .next (s.modP k fun x => { x with cq := { x.cq with blocked := true } })) ∧
      (hdrLen h + 2 ≤ 1024 → hdrLen h + 2 ≤ u.words.length → hdrLen h + 2 + q.q.length ≤ 1024 →
        (packetGood .cq q.exp (corruptPacket cor words) = true →
          ∃ t, exec (.cqPushPacket p cor) s = .next t ∧ (t.p k).cq.q = q.q ++ corruptPacket cor words ∧ (∀ j, j ≠ k → t.p j = s.p j) ∧
            (cor = false → (t.p k).cq.exp = some ((hdrSeq h + 1) % 2 ^ 16)) ∧
            (u.words.getD (hdrLen h + 2) 0 ≠ 0 → (t.p k).push = some { u with
              words := u.words.drop (hdrLen h + 2), retries := 0, last := hdrSeq h } ∧ t.hif = s.hif) ∧
            (u.words.getD (hdrLen h + 2) 0 = 0 → (t.p k).push = none ∧ (u.bad = none → s.cplOn u.desc →
              t.hif.cpls = s.hif.cpls ++ [cplOf u.desc { result := leBytes 2 (hdrSeq h) ++ leBytes 2 0 }]))) ∧
        (packetGood .cq q.exp (corruptPacket cor words) = false →
          ∃ t, exec (.cqPushPacket p cor) s = .next t ∧ (t.p k).cq.q = q.q ∧ (t.p k).cq.rewinds = min (q.rewinds + 1) 65535 ∧
            (t.p k).push = (if u.retries = 3 then none else some { u with retries := u.retries + 1 }) ∧
            (u.retries ≠ 3 → t.hif.evBuf = s.hif.evBuf ++ evRecords s.devNum 0x1040 s.stampNow false
              (packItems [] [it1 k, it1 1, itEng 0xFFFF, it2 (hdrSeq h)]))))) ∧
    ((s.p k).push = none → exec (.cqPushPacket p cor) s = .next s) ∧
    (s.portsOpen k = true → (s.p k).cqShow ≠ none → (q.cqWord s.netEdge).isSome = true → (s.p k).cqAt ≠ some s.netEdge →
      (∃ t m, exec (.cqRead p) s = .next t ∧ (t.p k).cqAt = some s.netEdge ∧ (t.p k).cq.q = q.q.drop m ∧
        (∀ j, j ≠ k → t.p j = s.p j) ∧ t = { s with par := t.par }) ∧
      (q.q = h :: w0 :: w1 :: rest → q.inPkt = false → q.keep = [] → hdrType h = 0x10 → hdrLen h = 2 →
        q.cqWord s.netEdge = some w0 ∧ ∃ t, exec (.cqRead p) s = .next t ∧ (t.p k).cq.cqWord s.netEdge = some w1 ∧
          (t.p k).cq.q = w1 :: rest)) ∧
    (s.portsOpen k = false ∨ (s.p k).cqShow = none ∨ q.cqWord s.netEdge = none ∨ (s.p k).cqAt = some s.netEdge →
      exec (.cqRead p) s = .next s) ∧
    (∃ t, exec (.cqFlush p) s = .next t ∧ (t.p k).cq.q = [] ∧ (t.p k).cq.exp = none ∧ (∀ j, j ≠ k → t.p j = s.p j) ∧
      ((s.p k).push.all (fun x => (s.ring (s.cplRing x.desc.ring)).en) = true →
        t.hif.evBuf = s.hif.evBuf ++ evRecords s.devNum 0x1042 s.stampNow false
          (packItems [] [it1 k, it1 1, itEng 0xFFFF, it4 q.q.length]))) ∧
    (s.parActive k = true → exec (.cqRestart p) s = .next (s.writeInRun 0xFFFF (0x1000000 + 0x40000 * k + 0x22010)) ∧
      exec (.fqFlush p) s = .next (s.writeInRun 0xFFFF (0x1000000 + 0x40000 * k + 0x22020))) ∧
    (s.parActive k = false →
      (∃ t, exec (.cqRestart p) s = .next t ∧ (t.p k).cq.q = [] ∧ (s.cqEn k = false → (t.p k).cq.st = 0) ∧ (∀ j, j ≠ k → t.p j = s.p j) ∧
        (s.cqSrc k = false → (t.p k).cq.rd = (q.rd + q.q.length) % 1024 ∧ (t.p k).cq.st = (if s.cqEn k then 1 else 0)) ∧
        (s.cqSrc k = false → (s.p k).push = none → t = { s with par := t.par })) ∧
      (∃ t, exec (.fqFlush p) s = .next t ∧ (t.p k).fq.q = [] ∧ (t.p k).fqDone = 0 ∧
        (t.p k).fqDiscard = min ((s.p k).fqDiscard + (s.p k).fqRecords) 65535 ∧
        ((s.p k).fqLoss = none → (t.p k).fqLoss = some ((s.p k).fqRecords, s.stampNow)) ∧
        (∀ j, j ≠ k → t.p j = s.p j) ∧ t.hif.evBuf = s.hif.evBuf ++ evRecords s.devNum 0x1042 s.stampNow false
          (packItems [] [it1 k, it1 2, itEng 0xFFFF, it4 (s.p k).fq.q.length]) ∧
        t = { s with par := t.par, hif := t.hif }))

/-- 06 R174, R179, 07 R219 to R222: the pending partition map takes effect whole where no check fails, and otherwise not at all, with
DVM_PART_INVALID; training that succeeds makes the memory available and its initialization makes every byte 0; a retraining asked for, or
needed with auto_retrain, begins once no run is active; a re-centring pass is counted and a margin under 20 asks for retraining; a window over its threshold
raises DVM_CORR_RISING. -/
def Obligations.DvmIsTrainedAndPartitioned : Prop :=
  ∀ (s : State) (v : Word) (pc worst : BitVec 5) (margin : BitVec 7) (temp : Byte) (forced : Bool), s.pwr.state = .run →
    s.hif.evBuf.length < 4096 →
    (s.partFail = none → ∃ t, exec .dvmPartCommit s = .next t ∧ t.dvm.partErr = 0 ∧
      (∀ n, n < 65 → t.dvm.units n = (s.reg (0x900100 + 4 * n) % 2 ^ 11, s.reg (0x900100 + 4 * n) / 2 ^ 16 % 2 ^ 11)) ∧
      t = { s with dvm := t.dvm } ∧ t.dvm.bytes = s.dvm.bytes) ∧
    (∀ c n, s.partFail = some (c, n) → exec .dvmPartCommit s =
      .next (({ s with dvm := { s.dvm with partErr := c, partBad := n } }).raise 0x0901 [it1 c, it1 n])) ∧
    (∃ t, exec (.dvmRetrainRequest v) s = .next t ∧ t.reg 0x900014 = v.toNat &&& 0xFF02 ∧
      t.dvm = { s.dvm with retrainReq := s.dvm.retrainReq || v.toNat.testBit 0 } ∧ t = { s with regs := t.regs, dvm := t.dvm }) ∧
    (let asked := s.dvm.retrainReq = true ∨ (s.dvm.needed = true ∧ (s.reg 0x900014).testBit 1 = true)
     (asked → s.activeSites = [] → s.dvm.trained = true → s.dvm.selfRefresh = false →
       exec .dvmRetrain s = .next { s with dvm := { s.dvm with retraining := true, trained := false, retrainReq := false } }) ∧
     (¬ asked ∨ s.activeSites ≠ [] → exec .dvmRetrain s = .next s)) ∧
    (s.dvm.trained = true ∨ s.dvm.trainOff = true → ∀ ok, exec (.dvmTrained ok pc worst margin temp) s = .next s) ∧
    (s.dvm.trained = false ∨ s.dvm.initDone = true → exec .dvmInitDone s = .next s) ∧
    (s.dvm.trained = false ∨ s.dvm.selfRefresh = true → exec (.recenterPass pc forced margin worst temp) s = .next s) ∧
    (s.dvm.trained = false → s.dvm.trainOff = false →
      (∃ t, exec (.dvmTrained true pc worst margin temp) s = .next t ∧ t.dvm.trained = true ∧ t.dvm.retraining = false ∧
        t.dvm.needed = false ∧ t.dvm.minMargin = margin.toNat ∧ t.dvm.worstPc = worst.toNat ∧
        t.dvm.trainTag = temp.toNat + s.pwr.fabLevel * 2 ^ 8 + s.loadTag * 2 ^ 16 ∧ t.dvm.bytes = s.dvm.bytes ∧
        t.hif.evBuf = s.hif.evBuf ++ evRecords s.devNum 0x0904 s.stampNow false [[]]) ∧
      exec (.dvmTrained false pc worst margin temp) s =
        .next (({ s with dvm := { s.dvm with trainOff := true, retraining := false } }).raise 0x0905 [it1 pc.toNat])) ∧
    (s.dvm.trained = true →
      (s.dvm.initDone = false → ∃ t, exec .dvmInitDone s = .next t ∧ t.dvm.initDone = true ∧ (∀ a, t.dvm.bytes.get zeroByte a = 0) ∧
        (∀ b, t.dvm.check.get checkReset b = 0x6706BE76) ∧
        t.hif.evBuf = s.hif.evBuf ++ evRecords s.devNum 0x0903 s.stampNow false [[]]) ∧
      (s.dvm.selfRefresh = false → ∃ t, exec (.recenterPass pc forced margin worst temp) s = .next t ∧
        t.dvm.passes = min (s.dvm.passes + 1) 65535 ∧ t.dvm.forced = min (s.dvm.forced + (if forced then 1 else 0)) 65535 ∧ t.dvm.minMargin = margin.toNat ∧ t.dvm.temp = temp.toNat ∧
        (∀ i, t.dvm.toCentre.testBit i = (s.dvm.toCentre.testBit i && decide (i ≠ pc.toNat))) ∧
        t.dvm.needed = (s.dvm.needed || decide (margin.toNat < 20)) ∧ t.dvm.bytes = s.dvm.bytes)) ∧
    (∃ t, exec .corrWindow s = .next t ∧ t.dvm.windowCorr = 0 ∧
      (s.dvm.windowCorr ≤ s.reg 0x900014 / 2 ^ 8 % 2 ^ 8 → t.dvm.needed = s.dvm.needed ∧ t.hif = s.hif) ∧
      (s.reg 0x900014 / 2 ^ 8 % 2 ^ 8 < s.dvm.windowCorr → t.dvm.needed = true ∧ (s.dvm.risingAt = none →
        t.hif.evBuf = s.hif.evBuf ++ evRecords s.devNum 0x0907 s.stampNow false
          (packItems [] [it4 s.dvm.windowCorr]))))

/-- 07 R204, R206 to R210, R214, R217, R218, 15 R417: a good calibration block writes its level's deskew values and tag, and makes the entry
valid; any other writes nothing; a write of a deskew value makes its entry invalid; an entry is made valid only where R204 holds; a
measurement runs from the parcel's next tick for its repetitions, with its result block ready, and is refused while a run is active or
channels are not live; each evaluation moves the target by the replica's sixteenths from its tag, within −64 to 63 fine steps, and takes
the mean of the droops, in units of 0.25 mV, as load index. While a run holds the entry its writes are ignored, with REG_WRITE_IN_RUN. -/
def Obligations.CalibrationTableAndDrift : Prop :=
  ∀ (s : State) (d : DescRef) (p : ParcelNo) (b : HostBlock) (v mask aggrMask reps : Word) (sel launch aggr load tj : Byte)
    (spacing replica : BitVec 16) (o : DataOut) (m : CalSeen) (droops : List (BitVec 20 × BitVec 20)) (l : BitVec 2) (c : Fin 32) (j : Fin 6),
    let k := p.toNat
    let base := 0x1000000 + 0x40000 * k
    let tagOff (lv : Nat) := base + 0x24000 + 0x10 * lv
    let dsk (lv i n : Nat) := base + 0x23000 + 0x400 * lv + 0x20 * i + 4 * n
    let cal := descId d 0x1D
    let meas := descId d 0x1C
    s.pwr.state = .run →
    (s.starts cal (rowFields (.calLoad d p b)) false = true → s.cplOn cal → b.wellFormed = true → b.err = none →
      (s.parcelOn k = false → ∃ t, exec (.calLoad d p b) s = .next t ∧
        t.hif.cpls = s.hif.cpls ++ [cplOf (s.named cal) { status := 1, cause := 1 }] ∧ t = { s with hif := t.hif }) ∧
      (s.parcelOn k = true → crc32c b.data ≠ b.check → ∃ t, exec (.calLoad d p b) s = .next t ∧
        t.hif.cpls = s.hif.cpls ++ [cplOf (s.named cal) { status := 0x0B, hop := 1, block := 0 }] ∧ t = { s with hif := t.hif }) ∧
      (s.parcelOn k = true → crc32c b.data = b.check →
        (calBlockOk k b.data = true → leAt b.data 2 1 ≤ topLevel → s.parActive k = false →
          ∃ t, exec (.calLoad d p b) s = .next t ∧ t.hif.cpls = s.hif.cpls ++ [cplOf (s.named cal) {}] ∧
            (∀ i n, i < 32 → n < 6 → signed 11 (t.reg (dsk (leAt b.data 2 1) i n)) = signed 16 (leAt b.data (16 + 16 * i + 2 * n) 2)) ∧
            t.reg (tagOff (leAt b.data 2 1)) = leAt b.data 4 1 + leAt b.data 5 1 * 2 ^ 8 + 2 ^ 16 ∧
            t.reg (tagOff (leAt b.data 2 1) + 4) = leAt b.data 6 2 ∧ t = { s with regs := t.regs, hif := t.hif }) ∧
        (calBlockOk k b.data = false ∨ topLevel < leAt b.data 2 1 ∨ s.parActive k = true →
          ∃ t, exec (.calLoad d p b) s = .next t ∧ t.hif.cpls = s.hif.cpls ++ [cplOf (s.named cal) { status := 1 }] ∧
            t = { s with hif := t.hif }))) ∧
    (s.parcelOn k = true →
      (s.engActive (32 * k + c) = false →
        exec (.calDskWrite (BitVec.ofNat 25 (dsk l.toNat c j)) v) s =
          .next ((s.setReg (dsk l.toNat c j) (v.toNat % 2 ^ 11)).setReg (tagOff l.toNat) (s.reg (tagOff l.toNat) % 2 ^ 16))) ∧
      (s.engActive (32 * k + c) = true →
        exec (.calDskWrite (BitVec.ofNat 25 (dsk l.toNat c j)) v) s = .next (s.writeInRun 0xFFFF (dsk l.toNat c j))) ∧
      (s.parActive k = true → exec (.calTagWrite p l v) s = .next (s.writeInRun 0xFFFF (tagOff l.toNat))) ∧
      (s.parActive k = false → (v.toNat.testBit 16 = true → s.entryOk k l.toNat = true) →
        exec (.calTagWrite p l v) s = .next (s.setReg (tagOff l.toNat) (v.toNat % 2 ^ 17))) ∧
      (s.parActive k = false → v.toNat.testBit 16 = true → s.entryOk k l.toNat = false →
        exec (.calTagWrite p l v) s = .next ((s.setReg (tagOff l.toNat) (v.toNat % 2 ^ 16)).raise 0x1052 [it1 k]))) ∧
    (s.starts meas (rowFields (.calMeasure d p sel launch aggr mask aggrMask reps spacing o m)) false = true →
      (s.p k).meas = none → outBad o = false → o.blocks.toNat = 1 →
      sel.toNat < 12 → launch.toNat < 32 → aggr.toNat ≠ 0 → reps.toNat ≠ 0 → reps.toNat ≤ 65536 → 128 ≤ spacing.toNat →
      (s.parcelOn k = false → s.cplOn meas → ∃ t, exec (.calMeasure d p sel launch aggr mask aggrMask reps spacing o m) s = .next t ∧
        t.hif.cpls = s.hif.cpls ++ [cplOf (s.named meas) { status := 1, cause := 1 }] ∧ t = { s with hif := t.hif }) ∧
      (s.parcelOn k = true → s.parActive k = true ∨ s.cfg.live = false → s.cplOn meas →
        ∃ t, exec (.calMeasure d p sel launch aggr mask aggrMask reps spacing o m) s = .next t ∧
          t.hif.cpls = s.hif.cpls ++ [cplOf (s.named meas) { status := 1 }] ∧ t = { s with hif := t.hif }) ∧
      (s.parcelOn k = true → s.parActive k = false → s.cfg.live = true →
        let div := levelDiv (s.pclLevel k)
        let slots := if sel.toNat < 8 then reps.toNat * (maskBits 32 mask.toNat).length else reps.toNat
        ∃ t x, exec (.calMeasure d p sel launch aggr mask aggrMask reps spacing o m) s = .next t ∧ (t.p k).meas = some x ∧
          x.desc = s.named meas ∧ x.out = o ∧ x.from_ = (s.vco + div - 1) / div * div ∧ x.upto = x.from_ + slots * spacing.toNat * div ∧
          leAt x.block 0 1 = 0x31 ∧ leAt x.block 1 1 = k ∧ leAt x.block 3 1 = m.tj.toNat ∧ leAt x.block 4 2 = m.replica.toNat ∧
          leAt x.block 6 1 = m.load.toNat ∧ leAt x.block 7 1 = sel.toNat ∧ t.hif.cpls = s.hif.cpls ∧ t.out = s.out ∧
          (∀ q, q ≠ k → t.p q = s.p q) ∧ t = { s with par := t.par, hif := t.hif })) ∧
    (s.parcelOn k = true → s.tim.locked = true →
      let sum := (droops.map (fun q => q.1.toNat + q.2.toNat)).sum
      let n := 250 * droops.length
      let tag := s.reg (tagOff (s.pclLevel k) + 4) % 2 ^ 16
      (∃ t, exec (.driftEvaluation p replica droops tj) s = .next t ∧ (t.p k).sense = replica.toNat + 2 ^ 16 * tj.toNat ∧
        (∀ q, q ≠ k → t.p q = s.p q) ∧ -64 ≤ (t.p k).target ∧ (t.p k).target ≤ 63 ∧
        ((s.reg (base + 0x24100)).testBit 0 = false → (t.p k).target = 0) ∧
        ((s.reg (base + 0x24100)).testBit 0 = true →
          (replica.toNat = tag → (t.p k).target = 0) ∧ (replica.toNat = tag + 16 → (t.p k).target = -1) ∧
          (replica.toNat = tag + 24 → (t.p k).target = -2) ∧ (replica.toNat + 8 = tag → (t.p k).target = 1) ∧
          (tag + 16 * 70 < replica.toNat → (t.p k).target = -64)) ∧
        (droops = [] → (t.p k).loadIdx = (s.p k).loadIdx) ∧
        (droops ≠ [] → min 255 (sum / n) ≤ (t.p k).loadIdx ∧ (t.p k).loadIdx ≤ min 255 ((sum + n - 1) / n))) ∧
      (s.sitesOf k = [] → droops ≠ [] → droops.all (fun q => decide (q.1.toNat + q.2.toNat = 250 * load.toNat)) = true →
        ∃ t, exec (.driftEvaluation p replica droops tj) s = .next t ∧ (t.p k).loadIdx = load.toNat ∧
          t = { s with par := t.par }))

/-- 08 R232, R239, R242, R244, R245, R247, R250: a parcel port that is ready takes the slots of a write, oldest first, at most four of four
bits, and one that is not discards them whole and counts the overflow; the map queue takes the addresses written in map mode, and
discards them where it was full; a flush, ignored while a run is active in the parcel, empties its buffers; RGN_IDLE is as sampled while
the fabric clocks run; a fabric RAM word with one wrong bit is corrected and counted, with more reported, and a write-back stores the
corrected word. -/
def Obligations.FabricReachesParcelsAndMemory : Prop :=
  ∀ (s : State) (e : EngineNo) (p : ParcelNo) (data idle : BitVec 16) (cnt : BitVec 3) (sel : BitVec 2)
    (m0 m1 : Option (BitVec 40 × Bool)) (portB : Bool) (block : Fin 4608) (word : BitVec 9) (flips : List (Fin 80)),
    let q := s.v e.toNat
    let pe := e.toNat / 32
    let w := if sel = 0 then 4 else 2
    let n := if sel = 0 then min 4 (cnt.toNat + 1) else cnt.toNat + 1
    let k := 512 * block.val + word.toNat
    let port := 2 * block.val + (if portB then 1 else 0)
    let new := (m0.toList ++ m1.toList).map (fun y => (y.1.toNat, y.2))
    let f := s.fab.ramFlip.get zeroNat k ^^^ (flips.dedup.map (fun i => 2 ^ i.val)).sum
    let wrong := (maskBits 80 f).length
    s.pwr.state = .run → s.hif.evBuf.length < 4096 →
    (s.portsOpen pe = false → exec (.parcelPortWrite e data cnt sel) s = .next s) ∧
    (s.portsOpen pe = true →
      (q.rdy = true →
        ∃ t, exec (.parcelPortWrite e data cnt sel) s = .next t ∧ (t.v e.toNat).buf = q.buf ++ (List.range n).map
          (fun i => { raw := data.toNat / 2 ^ (w * i) % 2 ^ w, sel := sel.toNat, at_ := s.netEdge }) ∧
          (∀ f, f ≠ e.toNat → t.v f = s.v f) ∧ (n = cnt.toNat + 1 → t = { s with vq := t.vq }) ∧
          (n < cnt.toNat + 1 → (t.p pe).ppOvf = (s.p pe).ppOvf ||| 2 ^ (e.toNat % 32))) ∧
      (q.rdy = false →
        ∃ t, exec (.parcelPortWrite e data cnt sel) s = .next t ∧ t.vq = s.vq ∧
          (t.p pe).ppOvf = (s.p pe).ppOvf ||| 2 ^ (e.toNat % 32) ∧ (t.p pe).ppOvfS = true ∧
          ((s.p pe).ovfRaised = true → t.hif = s.hif) ∧
          ((s.p pe).ovfRaised = false →
            t.hif.evBuf = s.hif.evBuf ++ evRecords s.devNum 0x1060 s.stampNow false (packItems [] [it1 pe])))) ∧
    (s.portsOpen p.toNat = true → s.mapMode p.toNat = true →
      ((s.p p.toNat).mardy = true →
        ∃ t, exec (.mapQueueWrite p m0 m1) s = .next t ∧ (t.p p.toNat).mq = (s.p p.toNat).mq ++ new ∧
          (∀ j, j ≠ p.toNat → t.p j = s.p j) ∧ t = { s with par := t.par }) ∧
      ((s.p p.toNat).mardy = false → new ≠ [] →
        ∃ t, exec (.mapQueueWrite p m0 m1) s = .next t ∧ (t.p p.toNat).mq = (s.p p.toNat).mq ∧ (t.p p.toNat).mqOvf = true ∧
          t.hif.evBuf = s.hif.evBuf ++ evRecords s.devNum 0x1061 s.stampNow false (packItems [] [it1 p.toNat]))) ∧
    (s.portsOpen p.toNat = false ∨ s.mapMode p.toNat = false → exec (.mapQueueWrite p m0 m1) s = .next s) ∧
    (s.parcelOn p.toNat = true →
      (s.parActive p.toNat = false →
        (∃ t, exec (.bufFlush p) s = .next t ∧ (∀ i, i < 32 → (t.v (32 * p.toNat + i)).buf = []) ∧
          (∀ f, f / 32 ≠ p.toNat → t.v f = s.v f) ∧ t = { s with vq := t.vq }) ∧
        (∃ t, exec (.mqFlush p) s = .next t ∧ (t.p p.toNat).mq = [] ∧
          (∀ j, j ≠ p.toNat → t.p j = s.p j) ∧ (∀ f, (t.v f).buf = (s.v f).buf) ∧ t = { s with par := t.par, vq := t.vq })) ∧
      (s.parActive p.toNat = true → ∀ c ∈ ([.bufFlush p, .mqFlush p] : List Instr),
        exec c s = .next (s.raise 0x1001 [itEng 0xFFFF, it4 (0x1025008 + 0x40000 * p.toNat)]))) ∧
    (s.fab.clocks = true → exec (.regionIdle idle) s = .next { s with fab := { s.fab with idle := idle.toNat } }) ∧
    (s.fab.clocks = false → exec (.regionIdle idle) s = .next s) ∧
    (s.fab.gsr = false → s.cfg.loaded = true →
      (wrong = 0 → exec (.fabricRamRead block portB word flips) s = .next { s with
        fab := { s.fab with ramOut := s.fab.ramOut.set zeroNat port (s.fab.ram.get zeroNat k),
                            ramFlip := s.fab.ramFlip.set zeroNat k f } }) ∧
      (wrong = 1 → ∃ t, exec (.fabricRamRead block portB word flips) s = .next t ∧ t = { s with fab := t.fab } ∧
        t.fab.eccCorr = min (s.fab.eccCorr + 1) 65535 ∧ t.fab.eccUnc = s.fab.eccUnc ∧ t.fab.ram = s.fab.ram ∧
        t.fab.ramOut.get zeroNat port = s.fab.ram.get zeroNat k + 2 ^ 72 ∧ t.fab.ramFlip.get zeroNat k = f ∧ k ∈ t.fab.ramBack) ∧
      (2 ≤ wrong → ∃ t, exec (.fabricRamRead block portB word flips) s = .next t ∧ t.fab.ram = s.fab.ram ∧
        t.fab.eccUnc = min (s.fab.eccUnc + 1) 65535 ∧ t.fab.eccCorr = s.fab.eccCorr ∧ t.fab.ramBack = s.fab.ramBack ∧
        t.fab.ramOut.get zeroNat port = (s.fab.ram.get zeroNat k ^^^ f % 2 ^ 72) + 2 ^ 73 ∧
        t.hif.evBuf = s.hif.evBuf ++ evRecords s.devNum 0x0380 s.stampNow false
          (packItems [] [it1 (block.val / 72), it2 (block.val % 72), it2 word.toNat]))) ∧
    (s.fab.gsr = true ∨ s.cfg.loaded = false → exec (.fabricRamRead block portB word flips) s = .next s) ∧
    (k ∈ s.fab.ramBack → ∃ t, exec (.eccWriteBack block word) s = .next t ∧ t = { s with fab := t.fab } ∧
      t.fab.ramFlip.get zeroNat k = 0 ∧ t.fab.ram = s.fab.ram ∧ k ∉ t.fab.ramBack) ∧
    (k ∉ s.fab.ramBack → exec (.eccWriteBack block word) s = .next s)

/-- 08 R253 to R255, 11 R333: READBACK_CAPTURE, immediate or timed, waits for its edge, and is refused while an unread capture stands
without its overwrite or no design runs, while another waits, or with its time past; once the edge has come the shadows take the
flip-flops' values of then, one that the design does not use 0, and it completes with its ID and the datum time of the edge; 1 ms without
an edge complete it with status 5; READBACK_READ puts out whole frames, eight in a block, the upper half of a frame of index 1 reading
as 0, and releases the capture where asked. -/
def Obligations.ReadbackIsCapturedAndRead : Prop :=
  ∀ (s : State) (d : DescRef) (id count : BitVec 16) (net : BitVec 5) (timed ovw rel : Bool) (tm : DatumTime) (b : RbPend)
    (first : Word) (o : DataOut),
    let cap := descId d 0x27
    let read := descId d 0x28
    let blocked := (s.fab.rbUnread = true ∧ ovw = false) ∨ s.fab.gsr = true ∨ s.cfg.loaded = false
    let past := timed = true ∧ ofVisible tm.toNat < s.tim.value
    (s.starts cap (rowFields (.readbackCapture d id net timed ovw tm)) false = true →
      (¬ blocked → s.fab.rbPend = none → ¬ past →
        ∃ t x, exec (.readbackCapture d id net timed ovw tm) s = .next t ∧ t.fab = { s.fab with rbPend := some x } ∧
          x.desc = s.named cap ∧ x.id = id.toNat ∧ x.net = net.toNat ∧ x.ovw = ovw ∧ x.timed = timed ∧ x.t = ofVisible tm.toNat ∧
          x.from_ = s.tim.tick ∧ x.shot = none ∧ t.hif.cpls = s.hif.cpls ∧ t = { s with fab := t.fab, hif := t.hif }) ∧
      (blocked ∨ s.fab.rbPend.isSome = true ∨ past → s.cplOn cap →
        ∃ t c, exec (.readbackCapture d id net timed ovw tm) s = .next t ∧ t = { s with hif := t.hif } ∧
          t.hif.cpls = s.hif.cpls ++ [cplOf (s.named cap) { status := c }] ∧
          (blocked → c = 1) ∧ (¬ blocked → s.fab.rbPend.isSome = true → c = 3) ∧
          (¬ blocked → s.fab.rbPend = none → c = 4))) ∧
    (s.fab.rbPend = some b →
      (∀ ff at_, b.shot = some (ff, at_) → s.cplOn b.desc →
        ∃ t, exec .readbackCaptureEdge s = .next t ∧
          t.fab = { s.fab with rbPend := none, rbId := b.id, rbUnread := true, rbHeld := true, rbFf := t.fab.rbFf } ∧
          (∀ n, t.fab.rbFf.get noFlag n = if s.unusedFf n then false else ff.get noFlag n) ∧
          t.hif.cpls = s.hif.cpls ++ [cplOf b.desc { result := leBytes 2 b.id ++ leBytes 10 at_ }] ∧
          t = { s with fab := t.fab, hif := t.hif }) ∧
      (b.shot = none → exec .readbackCaptureEdge s = .next s) ∧
      (b.shot = none → (if b.timed then b.t + 1000000 * 2 ^ 40 ≤ s.tim.value else b.from_ + 1500000 ≤ s.tim.tick) → s.cplOn b.desc →
        exec .readbackTimeout s = .next { s with
          fab := { s.fab with rbPend := none }, hif := { s.hif with cpls := s.hif.cpls ++ [cplOf b.desc { status := 5 }] } }) ∧
      (b.shot.isSome = true ∨ s.captureLate b = false → exec .readbackTimeout s = .next s)) ∧
    (s.starts read (rowFields (.readbackRead d id first count rel o)) false = true → s.cplOn read → outBad o = false → 0 < count.toNat →
      first.toNat + count.toNat ≤ 384 → o.blocks.toNat = (count.toNat + 7) / 8 →
      (s.fab.rbHeld = true → id.toNat = s.fab.rbId →
        ∃ t l, exec (.readbackRead d id first count rel o) s = .next t ∧
          t.fab = { s.fab with rbUnread := s.fab.rbUnread && !rel } ∧ t.hif.cpls = s.hif.cpls ++ [cplOf (s.named read) {}] ∧
          t.out = s.out ++ l ∧ l.length = 2 * ((count.toNat + 7) / 8) ∧
          t = { s with fab := t.fab, hif := t.hif, out := t.out, scb := { s.scb with lentTo := t.scb.lentTo } } ∧
          (∀ k, k < (count.toNat + 7) / 8 → ∃ x, l[2 * k]? = some (.host (o.addr.toNat + 4096 * k) x) ∧ x.length = 4096 ∧
            l[2 * k + 1]? = some (.host (o.checks.toNat + 4 * k) (leBytes 4 (crc32c x).toNat)) ∧
            (∀ i, i < 4096 → 8 * k + i / 512 < count.toNat →
              x[i]? = (captureFrame s.fab.rbFf (first.toNat + 8 * k + i / 512))[i % 512]?) ∧
            (∀ c r y, c < 192 → r < 384 → y < 16 → 2 * c + r / 256 = first.toNat + 8 * k → 8 * k < count.toNat →
              (x[2 * (r % 256) + y / 8]?).map (fun z => z.toNat.testBit (y % 8)) =
                some (s.fab.rbFf.get noFlag (6144 * c + 16 * r + y))))) ∧
      (s.fab.rbHeld = false ∨ id.toNat ≠ s.fab.rbId → ∃ t, exec (.readbackRead d id first count rel o) s = .next t ∧
        t.hif.cpls = s.hif.cpls ++ [cplOf (s.named read) { status := 1 }] ∧ t = { s with hif := t.hif }))

/-- 09 R262, R268, R270, R273, R277, R280, R282 to R286: for a range within one user sector: READ puts out the bytes of its pages, those of a
programmed page as BCH gives them, 0xFF where the sector or the page is erased, and ends with status 2 where a page is uncorrectable;
PROGRAM and ERASE join the queue of the sector's bank, and are refused while another command on the sector is pending and, PROGRAM, where
a page is not erased or the sector erase-incomplete; MARGIN_CHECK completes with its bitmap, by the outcome of BCH at NORMAL; SLOT_SCAN
and WEAR_REPORT put out their blocks; NVM_SUSPEND suspends everything running and NVM_RESUME ends the holds. A misaligned offset is refused
with cause 0x10, a range outside its sector with 0x11, a level outside its range with 0x15. -/
def Obligations.UserFlashCommands : Prop :=
  ∀ (s : State) (d : DescRef) (off : Word) (pages level slot : Byte) (o : DataOut) (bs : List HostBlock) (pass : BitVec 64)
    (fails : List (BitVec 16)) (reads : List PageRead),
    let u := off.toNat / 0x8000
    let b := 256 + u / 64
    let role := 32 + u % 64
    let n := s.flash.phys b role
    let page := off.toNat % 0x8000 / 512
    let aligned := off.toNat % 512 = 0 ∧ off.toNat < 0x800000 ∧ off.toNat + 512 * pages.toNat ≤ 0x800000
    let range := aligned ∧ 0 < pages.toNat ∧ pages.toNat ≤ 64 ∧ off.toNat % 0x8000 + 512 * pages.toNat ≤ 0x8000
    let i := descId d 0x30
    let bad (k : Nat) : Bool := (reads.getD k { bits := 0, unc := false }).unc || s.flash.strays b n (page + k)
    let state (k : Nat) := (s.flash.page b n (page + k)).state
    let pending : Prop := ∃ j ∈ s.nvm.jobs, j.bank = b ∧ j.sector = role
    let refused (c : Instr) (st cause : Nat) : Prop := ∃ t, exec c s = .next t ∧
      t.hif.cpls = s.hif.cpls ++ [cplOf (s.named i) { status := st, cause := cause }] ∧ t = { s with hif := t.hif }
    s.cplOn i → outBad o = false →
    (let c : Instr := .nvmRead d off pages o reads
     s.starts i (rowFields c) true = true → s.rangeWaits off.toNat pages.toNat = false →
      (range → o.blocks.toNat = (pages.toNat + 7) / 8 →
        ∃ t l x, exec c s = .next t ∧ t.hif.cpls = s.hif.cpls ++ [x] ∧ x.index = d.index.toNat ∧ t.out = s.out ++ l ∧
          l.length = 2 * o.blocks.toNat ∧ t = { s with nvm := t.nvm, hif := t.hif, out := t.out } ∧
          ((∀ k, k < pages.toNat → state k ≠ .interrupted ∧ (state k = .programmed → bad k = false)) → x.status = 0) ∧
          (∀ k, k < pages.toNat → (s.flash.sector b n).incomplete = false → state k = .programmed → bad k = true →
            x.status = 2 ∧ x.cause = 0x20) ∧
          (∀ k, k < o.blocks.toNat → ∃ y, l[2 * k]? = some (.host (o.addr.toNat + 4096 * k) y) ∧ y.length = 4096 ∧
            l[2 * k + 1]? = some (.host (o.checks.toNat + 4 * k) (leBytes 4 (crc32c y).toNat)) ∧
            ∀ m, m < 4096 → 8 * k + m / 512 < pages.toNat →
              ((s.flash.sector b n).incomplete = true ∨ state (8 * k + m / 512) = .erased → y[m]? = some 0xFF) ∧
              ((s.flash.sector b n).incomplete = false → state (8 * k + m / 512) = .programmed → bad (8 * k + m / 512) = false →
                y[m]? = some ((s.flash.page b n (page + 8 * k + m / 512)).data.getD (m % 512) 0)))) ∧
      (range → o.blocks.toNat ≠ (pages.toNat + 7) / 8 → refused c 9 3) ∧
      (¬ aligned → refused c 1 0x10) ∧ (aligned → ¬ range → refused c 1 0x11)) ∧
    (let c : Instr := .slotScan d slot level o fails
     s.starts i (rowFields c) true = true →
      (s.nvm.journalBusy = true → exec c s = .next s) ∧
      (s.nvm.journalBusy = false →
        (level = 1 ∨ level = 3 → slot.toNat < 3 → (s.flash.slot slot.toNat).valid = true →
          ∃ t x, exec c s = .next t ∧ t.hif.cpls = s.hif.cpls ++ [cplOf (s.named i) {}] ∧ x.length = 4096 ∧
            t.out = s.out ++ [.host o.addr.toNat x, .host o.checks.toNat (leBytes 4 (crc32c x).toNat)] ∧ leAt x 0 1 = 0x41 ∧
            (∀ k, k < 260 → leAt x (8 + 2 * k) 2 = (fails.getD k 0).toNat) ∧ t = { s with hif := t.hif, out := t.out }) ∧
        ((level ≠ 1 ∧ level ≠ 3) ∨ 3 ≤ slot.toNat ∨ (s.flash.slot slot.toNat).valid = false → refused c 1 0x15))) ∧
    (let c : Instr := .wearReport d o
     s.starts i (rowFields c) true = true →
      (2 ≤ o.blocks.toNat →
        ∃ t x y, exec c s = .next t ∧ t.hif.cpls = s.hif.cpls ++ [cplOf (s.named i) {}] ∧ x.length = 4096 ∧ y.length = 4096 ∧
          t.out = s.out ++ [.host o.addr.toNat x, .host o.checks.toNat (leBytes 4 (crc32c x).toNat),
            .host (o.addr.toNat + 4096) y, .host (o.checks.toNat + 4) (leBytes 4 (crc32c y).toNat)] ∧ leAt x 0 1 = 0x40 ∧
          leAt x 2 2 = 260 ∧ leAt x 4 10 = s.stampNow % 2 ^ 80 ∧ t = { s with hif := t.hif, out := t.out }) ∧
      (o.blocks.toNat < 2 → refused c 9 3)) ∧
    (let c : Instr := .nvmProgram d off pages bs
     s.starts i (rowFields c) false = true → bs ≠ [] → (∀ x ∈ bs, x.wellFormed = true) →
      (¬ aligned → refused c 1 0x10) ∧ (aligned → ¬ range → refused c 1 0x11) ∧
      (range → bs.length ≠ (pages.toNat + 7) / 8 → refused c 9 3) ∧
      (range → bs.length = (pages.toNat + 7) / 8 →
        (pending → refused c 1 0x14) ∧
        (¬ pending → (∃ k, k < pages.toNat ∧ state k ≠ .erased) → refused c 1 0x12) ∧
        (¬ pending → (∀ k, k < pages.toNat → state k = .erased) →
          ((s.flash.sector b n).incomplete = true → refused c 1 0x13) ∧
          ((s.flash.sector b n).incomplete = false → (∀ x ∈ bs, x.err = none ∧ crc32c x.data = x.check) →
            ∃ t, exec c s = .next t ∧ t = { s with nvm := t.nvm, hif := t.hif } ∧ t.hif.cpls = s.hif.cpls ∧
              t.nvm = { s.nvm with jobs := t.nvm.jobs, queue := t.nvm.queue } ∧
              t.nvm.jobs = s.nvm.jobs ++ [{ desc := s.named i, erase := false, bank := b, sector := role, left := pages.toNat }] ∧
              (∀ k, k ≠ b → t.bankQ k = s.bankQ k) ∧
              (let data := bs.flatMap (·.data)
               let op (k : Nat) : FlashOp :=
                 { erase := false, sector := n, page := page + k, data := sliceAt data (512 * k) 512, who := .user (s.named i) }
               t.bankQ b = s.bankQ b ++ (List.range pages.toNat).map op))))) ∧
    (let c : Instr := .nvmErase d off
     let erasable := off.toNat % 512 = 0 ∧ off.toNat < 0x800000
     s.starts i (rowFields c) false = true →
      (¬ erasable → refused c 1 0x10) ∧ (erasable → pending → refused c 1 0x14) ∧
      (erasable → ¬ pending → ∃ t, exec c s = .next t ∧ t = { s with nvm := t.nvm, hif := t.hif } ∧ t.hif.cpls = s.hif.cpls ∧
        t.nvm.jobs = s.nvm.jobs ++ [{ desc := s.named i, erase := true, bank := b, sector := role, left := 1 }] ∧
        t.bankQ b = s.bankQ b ++ [{ erase := true, sector := n, page := 0, data := [], who := .user (s.named i) }] ∧
        (∀ k, k ≠ b → t.bankQ k = s.bankQ k))) ∧
    (let c : Instr := .marginCheck d off pages level pass reads
     s.starts i (rowFields c) false = true → s.rangeWaits off.toNat pages.toNat = false →
      (¬ aligned → refused c 1 0x10) ∧ (aligned → ¬ range → refused c 1 0x11) ∧ (range → 3 < level.toNat → refused c 1 0x15) ∧
      (range → level.toNat ≤ 3 → ∃ t x, exec c s = .next t ∧ t.hif.cpls = s.hif.cpls ++ [x] ∧ x.index = d.index.toNat ∧ x.status = 0 ∧
        t = { s with nvm := t.nvm, hif := t.hif } ∧
        (level.toNat ≠ 0 → x.result = leBytes 8 (pass.toNat % 2 ^ pages.toNat) ∧ t.nvm = s.nvm ∧
          ((s.flash.sector b n).incomplete = false → (∀ k, k < pages.toNat → state k = .programmed) → x.flags = 0)) ∧
        (level.toNat = 0 → (s.flash.sector b n).incomplete = false → ∀ k, k < pages.toNat → state k = .programmed →
          (leAt x.result 0 8).testBit k = !bad k))) ∧
    (s.starts i (rowFields (.nvmSuspend d)) false = true →
      ∃ t, exec (.nvmSuspend d) s = .next t ∧ t.nvm.hostHold = true ∧ t.hif.cpls = s.hif.cpls ++ [cplOf (s.named i) {}] ∧
        (∀ c x rest, t.bankQ c = x :: rest → x.started = true → x.suspended = true) ∧ t = { s with nvm := t.nvm, hif := t.hif }) ∧
    (s.starts i (rowFields (.nvmResume d)) false = true →
      ∃ t, exec (.nvmResume d) s = .next t ∧ t.nvm.hostHold = false ∧ t.nvm.heldAfter = false ∧
        t.hif.cpls = s.hif.cpls ++ [cplOf (s.named i) {}] ∧ t.flash = s.flash)

/-- 09 R264, R267, R268, R271 to R274, R276, R277, R279, R285: the first operation of a bank's queue starts within the limit and under no
hold, behind every suspended one, with its journal entry; a program or an erase that has passed its margin leaves its page programmed or
its sector erased, and with the last operation of its command the command completes; a verify failure begins the retirement of the sector
onto a free one, by operations that go before those that wait, with a journal entry, and without a free one fails the command; with the
retirement's last operation the replacement has the sector's roles; at power up every journal entry is resolved, an interrupted erase
leaving its sector erase-incomplete. -/
def Obligations.FlashOperationsRunAndEnd : Prop :=
  ∀ (s : State) (bank : Fin 260) (o : FlashOp) (rest : List FlashOp) (j : NvmJob) (read : PageRead) (m3 : Bool) (pass : List Bool)
    (x : Retire),
    let b := bank.val
    let done (t : State) (d : Done) : Prop := t.nvm.jobs = [] ∧ t.hif.cpls = s.hif.cpls ++ [cplOf j.desc d]
    let mine := o.who = .user j.desc ∧ s.nvm.jobs = [j] ∧ j.erase = o.erase ∧ s.cplOn j.desc
    let flags := j.flags ||| o.flags false
    (s.pwr.state ≠ .deepSleep → s.pwr.state ≠ .off →
      (s.bankQ b = o :: rest → o.started = false →
        (s.nvm.supplyHold = true ∨ s.nvm.hostHold = true ∨ s.nvm.journalBusy = true ∨ s.bankLimit ≤ s.activeBanks →
          exec (.flashOpStart bank read) s = .next s) ∧
        (s.stageMayStart b o = true → s.nvm.supplyHold = false → s.nvm.hostHold = false → s.nvm.journalBusy = false →
          s.oldestSuspended = none → s.activeBanks < s.bankLimit →
          ∃ t y, exec (.flashOpStart bank read) s = .next t ∧ t.bankQ b = { o with data := y, started := true, order := s.nvm.starts } :: rest ∧
            t.flash.journal = s.flash.journal ++ [o.entry b] ∧ t = { s with nvm := t.nvm, flash := t.flash, hif := t.hif } ∧
            (o.src = none → y = o.data ∧ t.hif = s.hif) ∧
            (∀ m p, o.src = some (m, p) → read.unc = false → s.flash.strays b m p = false → y = (s.flash.page b m p).data) ∧
            (o.erase = true → (t.flash.sector b o.sector).incomplete = true ∧
              ∀ k, k < 64 → (t.flash.page b o.sector k).state = .erased) ∧
            (o.erase = false → (t.flash.page b o.sector o.page).state = .interrupted))) ∧
      (s.bankQ b = [] → exec (.flashOpStart bank read) s = .next s) ∧
      (s.nvm.journalBusy = true →
        ∃ t, exec (.nvmPowerUp pass) s = .next t ∧ t.nvm.journalBusy = false ∧ t.nvm.jResolved = min 511 s.flash.journal.length ∧
          t.pins = { s.pins with unread := false } ∧
          (∀ b n v, JEntry.erase b n v ∈ s.flash.journal → (t.flash.sector b n).incomplete = true) ∧
          (∀ b n p, s.flash.journal = [JEntry.program b n p true] → (t.flash.page b n p).state =
            if pass.headD false then .programmed else (s.flash.page b n p).state) ∧
          (∀ b n r, s.flash.journal = [JEntry.retire b n r] → t.flash.journal = s.flash.journal ∧
            ∃ q, t.nvm.retiring.get (fun _ => none) b = some q ∧ q.repl = r ∧ q.op.sector = n) ∧
          (s.flash.journal = [] → t.hif = s.hif) ∧
          (s.flash.journal ≠ [] → s.hif.evBuf.length < 4096 → t.hif.evBuf = s.hif.evBuf ++
            evRecords s.devNum 0x0406 s.stampNow false (packItems [] [it2 s.flash.journal.length])))) ∧
    (s.nvm.journalBusy = false → exec (.nvmPowerUp pass) s = .next s) ∧
    (s.bankQ b = o :: rest → o.started = true → o.suspended = false → o.erase = false →
      (o.pulses = 0 → exec (.pageProgramDone bank m3) s = .next s) ∧
      (o.pulses ≠ 0 → mine →
        ∃ t, exec (.pageProgramDone bank m3) s = .next t ∧
          t.flash.page b o.sector o.page = Page.written .programmed (pageKey b o.sector o.page) o.data ∧
          (∀ k, k ≠ pageKey b o.sector o.page → t.flash.pages.get pageReset k = s.flash.pages.get pageReset k) ∧
          (t.flash.sector b o.sector).maxPulses = max (s.flash.sector b o.sector).maxPulses o.pulses ∧
          t.flash.journal = s.flash.journal.erase (o.entry b) ∧
          (j.left = 1 → done t { flags := flags }) ∧
          (1 < j.left → t.hif.cpls = s.hif.cpls ∧ ∃ y, t.nvm.jobs = [y] ∧ y.left = j.left - 1 ∧ y.flags = flags)) ∧
      (o.pulses ≠ 32 → exec (.programVerifyFailure bank) s = .next s) ∧
      (o.pulses = 32 → mine → s.flash.freeOf b = [] →
        ∃ t, exec (.programVerifyFailure bank) s = .next t ∧ t.flash.pages = s.flash.pages ∧
          done t { status := 2, cause := 0x21, flags := flags })) ∧
    (s.bankQ b = o :: rest → o.started = true → o.suspended = false → o.erase = true →
      let us := o.eraseUs + o.winTicks / 1500
      (o.eraseUs = 0 → o.winTicks = 0 → exec (.sectorEraseDone bank) s = .next s) ∧
      (o.eraseUs ≠ 0 ∨ o.winTicks ≠ 0 → mine →
        ∃ t, exec (.sectorEraseDone bank) s = .next t ∧ (∀ k, k < 64 → (t.flash.page b o.sector k).state = .erased) ∧
          (t.flash.sector b o.sector).incomplete = false ∧
          (t.flash.sector b o.sector).erases = (s.flash.sector b o.sector).erases + 1 ∧
          t.flash.journal = s.flash.journal.erase (o.entry b) ∧
          (j.left = 1 → done t { flags := flags, result := leBytes 4 us ++ leBytes 4 o.suspends })) ∧
      (us < 4000 → exec (.eraseVerifyFailure bank) s = .next s) ∧
      (4000 ≤ us → mine → s.flash.freeOf b = [] →
        ∃ t, exec (.eraseVerifyFailure bank) s = .next t ∧ t.flash.pages = s.flash.pages ∧
          done t { status := 2, cause := 0x22, flags := flags, result := leBytes 4 4000 ++ leBytes 4 o.suspends }) ∧
      (300000 ≤ o.winTicks → us < 4000 → exec (.eraseWindowReset bank) s =
        .next (s.setBankQ b ({ o with winSus := 0, eraseUs := o.eraseUs + 200, winTicks := 0 } :: rest))) ∧
      (o.winTicks < 300000 ∨ 4000 ≤ us → exec (.eraseWindowReset bank) s = .next s)) ∧
    (s.bankQ b = o :: rest → o.started = true → o.suspended = false →
      (∀ r more, mine → (s.flash.freeOf b).filter (fun k => decide (k ≠ o.sector)) = r :: more →
        (o.erase = false → o.pulses = 32) → (o.erase = true → 4000 ≤ o.eraseUs) →
        ∃ t, exec (if o.erase then .eraseVerifyFailure bank else .programVerifyFailure bank) s = .next t ∧
          t.flash.pages = s.flash.pages ∧ t.hif.cpls = s.hif.cpls ∧ t.nvm.jobs = s.nvm.jobs ∧
          JEntry.retire b o.sector r ∈ t.flash.journal ∧
          (∃ y, t.nvm.retiring.get (fun _ => none) b = some y ∧ y.op = o ∧ y.repl = r) ∧
          (∃ ops, t.bankQ b = ops ++ rest ∧ ∀ q ∈ ops, q.who = .retire ∧ q.sector = r)) ∧
      (o.who = .retire → o.erase = false → o.pulses ≠ 0 → s.nvm.retiring.get (fun _ => none) b = some x →
        (∀ q ∈ rest, q.who ≠ .retire) → x.op.who = .user j.desc → s.nvm.jobs = [j] → s.cplOn j.desc → j.left = 1 →
        ∃ t y, exec (.pageProgramDone bank m3) s = .next t ∧ (t.flash.sector b x.op.sector).retired = true ∧
          (∀ k, k < roleCount b → t.flash.phys b k = if s.flash.phys b k = x.op.sector then x.repl else s.flash.phys b k) ∧
          t.flash.page b o.sector o.page = Page.written .programmed (pageKey b o.sector o.page) o.data ∧
          t.nvm.retiring.get (fun _ => none) b = none ∧ t.nvm.jobs = [] ∧ t.hif.cpls = s.hif.cpls ++ [y] ∧ y.status = 0 ∧
          y.flags.testBit 5 = true))

/-- 11 R324, R325, R327, R328, R330, R331, R333, R336 to R341: a step compares the traverse's next frame with flash and rewrites it whole
where it differs, counting a significant upset with its event and a non-significant one without; a frame whose page is uncorrectable is
reported and stays; with the last frame the closure check is made and the next traverse begins, or the scrubber restarts; a paused
traverse makes no step; a sweep leaves every frame of its eight rows whose page can be read as flash has it; a held traverse is reported
once; the watchdog restarts the scrubber, and the third restart within a second, or one whose reload fails, disables it; a copy that
disagrees is outvoted, and with no majority the scrubber restarts; SCB_CTL acts at once on a changed en; recover and restart begin a
full traverse. -/
def Obligations.ScrubberChecksAndRewrites : Prop :=
  ∀ (s : State) (tr : Traverse) (i : Nat) (flips : List (BitVec 12)) (read : PageRead) (sweep : List (Fin 1536 × List (BitVec 12)))
    (reads : List (Fin 1536 × PageRead)) (v : Word) (mapUnc clBad reBad : Bool),
    let n := addrOrder i
    let found := if flips.isEmpty then s.sramFrame n else flipBits (flips.map (·.toNat)) (s.sramFrame n)
    let differs (w : Nat) := sliceAt found (4 * w) 4 ≠ sliceAt (s.refFrame n) (4 * w) 4
    let strays (n : Nat) : Bool := let l := s.refPlace n; s.flash.strays l.1 l.2.1 l.2.2
    let mask := if mapUnc = true then 2 ^ 128 - 1 else s.sigMask n
    let recent := s.scb.restarts.filter (fun t => decide (s.tim.tick < t + 1500000000))
    let step : Instr := .scrubStep flips read mapUnc none clBad reBad
    let restarts (t : State) (cause : Nat) : Prop := t.scb.trav = none ∧ t.scb.cntRestart = min (s.scb.cntRestart + 1) 255 ∧
      t.scb.restarts = s.tim.tick :: recent ∧ t.scb.restarting = (!reBad && decide (recent.length < 2)) ∧
      t.scb.disabled = (reBad || decide (2 ≤ recent.length)) ∧
      t.hif.evBuf = s.hif.evBuf ++ evRecords s.devNum (if reBad || decide (2 ≤ recent.length) then 0x0505 else 0x0504) s.stampNow false
        (packItems [] [it1 (if reBad then 4 else cause)])
    s.pwr.state = .run → s.hif.evBuf.length < 4096 → s.cfg.loaded = true → s.cfg.base = false → s.cfg.load = none →
    (s.scb.disabled = false → s.scb.trav = some tr → s.scb.stopping = false → s.scb.restarting = false →
      (tr.swept = false ∨ s.scrubPaused = true → exec step s = .next s) ∧
      (s.scrubPaused = false → tr.swept = true → s.nextFrame tr = some i →
        (s.nextFrame { tr with pos := i + 1 } ≠ none →
          ∃ t, exec step s = .next t ∧ t.scb.trav = some { tr with pos := i + 1 } ∧ t.scb.pos = frameAddr n ∧
            (∀ k, k ≠ n → t.sramFrame k = s.sramFrame k) ∧ t.flash = s.flash ∧
            (read.unc = true ∨ strays n = true → t.sramFrame n = found ∧ t.scb.cntUnc = min (s.scb.cntUnc + 1) 255 ∧
              t.scb.cntSig = s.scb.cntSig ∧ t.scb.cntNsig = s.scb.cntNsig) ∧
            (read.unc = false → strays n = false → t.sramFrame n = s.refFrame n ∧ t.scb.cntUnc = s.scb.cntUnc ∧
              (found = s.refFrame n → t.scb.equalAt.get (fun _ => s.scb.releaseAt) n = s.stampNow ∧
                t.scb.cntSig = s.scb.cntSig ∧ t.scb.cntNsig = s.scb.cntNsig ∧ (mapUnc = false → t.hif = s.hif)) ∧
              (found ≠ s.refFrame n → t.scb.last = frameAddr n ∧
                ((∀ w, w < 128 → mask.testBit w = true → ¬ differs w) →
                  t.scb.cntNsig = min (s.scb.cntNsig + 1) 65535 ∧ t.scb.cntSig = s.scb.cntSig ∧ (mapUnc = false → t.hif = s.hif)) ∧
                (∀ w, w < 128 → mask.testBit w = true → differs w →
                  t.scb.cntSig = min (s.scb.cntSig + 1) 65535 ∧ t.scb.cntNsig = s.scb.cntNsig ∧
                  (mapUnc = false → s.upsetPolicy = 0 → s.hif.evBuf.length + 3 ≤ 4096 →
                    t.hif.evBuf = s.hif.evBuf ++ evRecords s.devNum 0x0501 s.stampNow false
                      (packItems [] [it4 (frameAddr n), it4 (onesIn (xorBytes found (s.refFrame n))),
                        it4 ((diffWords found (s.refFrame n)).filter (fun w => mask.testBit w)).length, itTime s.stampNow,
                        itTime (s.scb.equalAt.get (fun _ => s.scb.releaseAt) n)])))))) ∧
        (s.nextFrame { tr with pos := i + 1 } = none → mapUnc = false →
          (clBad = false → s.closureValue = s.flash.closure → ∃ t, exec step s = .next t ∧ t.scb.trav.isSome = true ∧
            t.scb.count = min (s.scb.count + 1) (2 ^ 32 - 1) ∧ t.scb.pos = frameAddr n) ∧
          (clBad = true → read = { bits := 0, unc := false } → strays n = false → found = s.refFrame n →
            ∃ t, exec step s = .next t ∧ restarts t 1)))) ∧
    (s.scb.stopping = true → exec step s = .next { s with scb := { s.scb with trav := none, stopping := false, restarting := false } }) ∧
    (s.scb.disabled = false →
      (s.scb.stopping = false → s.scb.restarting = true → s.scbEn = true → ∃ t, exec step s = .next t ∧ t.scb.trav = some { sig := false } ∧
        t.scb.restarting = false) ∧
      (∀ k : BitVec 2, s.scb.trav = none → s.scb.stopping = false → s.scb.restarting = false → k ≠ 3 →
        exec (.scrubStep flips read mapUnc (some k) clBad reBad) s = .next { s with
          scb := { s.scb with copies := s.scb.copies.set k.toNat s.scbVoted, cntTmr := min (s.scb.cntTmr + 1) 255 } }) ∧
      (∃ t, exec (.scrubStep flips read mapUnc (some 3) clBad reBad) s = .next t ∧ restarts t 3) ∧
      (s.scb.trav = some tr → s.scrubPaused = false → ∃ t, exec (.scrubWatchdog reBad) s = .next t ∧ restarts t 2) ∧
      (s.scrubPaused = true ∨ s.scb.trav = none → exec (.scrubWatchdog reBad) s = .next s)) ∧
    (s.scb.trav = some tr →
      (s.pwr.grantScrub = false → tr.held = false →
        exec .scrubHeld s = .next (({ s with scb := { s.scb with trav := some { tr with held := true } } }).raise 0x0506 [])) ∧
      (s.pwr.grantScrub = true ∨ tr.held = true → exec .scrubHeld s = .next s)) ∧
    (s.scb.trav = none → exec .scrubHeld s = .next s) ∧
    (s.scb.disabled = false → s.scbEn = true →
      (∃ t, exec (.contentionSweep sweep reads) s = .next t ∧ t.flash = s.flash ∧
        (∀ k : Fin 1536, strays (144 * (k.val / 8) + 135 + k.val % 8) = false →
          (∀ r : PageRead, (reads.find? (fun (r : Fin 1536 × PageRead) => r.1 == k)).map (fun (r : Fin 1536 × PageRead) => r.2) = some r →
            r.unc = false) →
          t.sramFrame (144 * (k.val / 8) + 135 + k.val % 8) = s.refFrame (144 * (k.val / 8) + 135 + k.val % 8)) ∧
        t.scb.trav = s.scb.trav.map (fun x => { x with swept := true })) ∧
      (∃ t, exec .scbCmdRestart s = .next t ∧ t.scb.trav = some { sig := false } ∧ t.scb.stopping = false) ∧
      (s.scb.ctl = s.scbSet → exec .scbCmdRestart s =
        .next { s with scb := { s.scb with trav := some { sig := false }, stopping := false, restarting := false } })) ∧
    (s.scb.disabled = true ∨ s.scbEn = false → exec (.contentionSweep sweep reads) s = .next s ∧
      exec .scbCmdRestart s = .next { s with scb := { s.scb with trav := none, stopping := false, restarting := false } }) ∧
    (s.scbEn = v.toNat.testBit 0 →
      exec (.scbCtlWrite v) s = .next { s with scb := { s.scb with ctl := v.toNat &&& 0xFFFF0F07 } }) ∧
    (s.scbEn = true → v.toNat.testBit 0 = false →
      ∃ t, exec (.scbCtlWrite v) s = .next t ∧ t.scbEn = false ∧ t.scb.trav = s.scb.trav ∧
        t.scb.stopping = (s.scb.trav.isSome || s.scb.stopping) ∧
        t.flash.scbCtl = v.toNat &&& 0xFFFF0F07 ∧ t.flash.closure = t.closureValue) ∧
    (s.scbEn = false → v.toNat.testBit 0 = true →
      ∃ t, exec (.scbCtlWrite v) s = .next t ∧ t.scbEn = true ∧ t.flash.scbCtl = v.toNat &&& 0xFFFF0F07 ∧
        t.scb.trav = (if s.scb.disabled then s.scb.trav else some { sig := false })) ∧
    (∃ t, exec .scbRecover s = .next t ∧ t.scb.trav = (if s.scbEn then some { sig := false } else none) ∧ t.scb.restarts = [] ∧
      t.scb.disabled = false)

end
end

