-- ==== Sys2Proof/Laws/SMap.lean ====
section
/-! SUPPORT. The laws of sparse maps: a read after a write, and that every operation keeps the canonical form. -/

namespace Sys2Proof.Machine

variable {α : Type} (d : Nat → α)

/-- Keys at or above a bound stay above a smaller one. -/
theorem SMap.rising_mono {m : SMap α} {a b : Nat} (h : SMap.rising b m = true) (hab : a ≤ b) :
    SMap.rising a m = true := by
  cases m with
  | nil => rfl
  | cons p m =>
    simp only [SMap.rising, Bool.and_eq_true, decide_eq_true_eq] at h ⊢
    exact ⟨by omega, h.2⟩

/-- A key below every key of a rising map is unlisted. -/
theorem SMap.get_below {m : SMap α} {lo k : Nat} (h : SMap.rising lo m = true) (hk : k < lo) : SMap.get d m k = d k := by
  induction m generalizing lo with
  | nil => rfl
  | cons p m ih =>
    simp only [SMap.rising, Bool.and_eq_true, decide_eq_true_eq] at h
    have : p.1 ≠ k := by omega
    simp only [SMap.get, this, if_false]
    exact ih h.2 (by omega)

theorem SMap.get_erase (m : SMap α) (k j : Nat) :
    SMap.get d (SMap.erase m k) j = if j = k then d k else SMap.get d m j := by
  induction m with
  | nil => by_cases h : j = k <;> simp [SMap.erase, SMap.get, h]
  | cons p m ih =>
    by_cases hp : p.1 = k <;> by_cases hj : j = k <;> by_cases hpj : p.1 = j <;>
      simp_all [SMap.erase, SMap.get]

theorem SMap.get_insert {m : SMap α} {lo : Nat} (h : SMap.rising lo m = true) (k j : Nat) (v : α) :
    SMap.get d (SMap.insert m k v) j = if j = k then v else SMap.get d m j := by
  induction m generalizing lo with
  | nil =>
    by_cases hj : j = k
    · simp [SMap.insert, SMap.get, hj]
    · have h1 : ¬ k = j := fun e => hj e.symm
      simp [SMap.insert, SMap.get, hj, h1]
  | cons p m ih =>
    simp only [SMap.rising, Bool.and_eq_true, decide_eq_true_eq] at h
    simp only [SMap.insert]
    split
    · rename_i hlt
      by_cases hpj : p.1 = j
      · have : ¬ j = k := by omega
        simp [SMap.get, hpj, this]
      · simp [SMap.get, hpj, ih h.2]
    · split
      · rename_i hpk
        by_cases hj : j = k
        · simp [SMap.get, hj]
        · have h1 : ¬ k = j := fun e => hj e.symm
          have h2 : ¬ p.1 = j := by omega
          simp [SMap.get, hj, h1, h2]
      · by_cases hj : j = k
        · simp [SMap.get, hj]
        · have h1 : ¬ k = j := fun e => hj e.symm
          simp [SMap.get, hj, h1]

/-- A read after a write: the value written at the key written, every other key as before. -/
theorem SMap.get_set [DecidableEq α] {m : SMap α} {lo : Nat} (h : SMap.rising lo m = true) (k j : Nat) (v : α) :
    SMap.get d (SMap.set d m k v) j = if j = k then v else SMap.get d m j := by
  unfold SMap.set
  split
  · rename_i hv
    rw [SMap.get_erase, hv]
  · exact SMap.get_insert d h k j v

theorem SMap.erase_eq_filter (m : SMap α) (k : Nat) : SMap.erase m k = m.filter (fun p => decide (p.1 ≠ k)) := by
  induction m with
  | nil => rfl
  | cons p m ih => by_cases e : p.1 = k <;> simp [SMap.erase, e, ih]

/-- What an erased map holds, the map held. -/
theorem SMap.of_mem_erase {m : SMap α} {k : Nat} {p : Nat × α} (h : p ∈ SMap.erase m k) : p ∈ m :=
  (List.mem_filter.mp (SMap.erase_eq_filter m k ▸ h)).1

/-- What a map holds after an insertion is the pair inserted or was there before. -/
theorem SMap.of_mem_insert {m : SMap α} {k : Nat} {v : α} {p : Nat × α} (h : p ∈ SMap.insert m k v) : p = (k, v) ∨ p ∈ m := by
  induction m with
  | nil => exact .inl (List.mem_singleton.mp h)
  | cons q m ih =>
    unfold SMap.insert at h
    by_cases e : q.1 < k
    · rcases List.mem_cons.mp (by simpa [e] using h) with g | g
      · exact .inr (g ▸ .head _)
      · exact (ih g).imp_right (.tail _)
    · by_cases f : q.1 = k <;> simp [e, f] at h ⊢ <;> tauto

/-- A map that rises holds no key below its bound, and rises behind its first key. -/
theorem SMap.rising_cons {p : Nat × α} {m : SMap α} {lo : Nat} :
    SMap.rising lo (p :: m) = true ↔ lo ≤ p.1 ∧ SMap.rising (p.1 + 1) m = true := by
  simp [SMap.rising]

theorem SMap.rising_filter (q : Nat × α → Bool) {m : SMap α} {lo : Nat} (h : SMap.rising lo m = true) :
    SMap.rising lo (m.filter q) = true := by
  induction m generalizing lo with
  | nil => exact h
  | cons p m ih =>
    have ⟨h1, h2⟩ := SMap.rising_cons.mp h
    by_cases e : q p = true
    · rw [List.filter_cons_of_pos e, SMap.rising_cons]
      exact ⟨h1, ih h2⟩
    · rw [List.filter_cons_of_neg e]
      exact ih (SMap.rising_mono h2 (Nat.le_succ_of_le h1))

theorem SMap.rising_erase {m : SMap α} {lo : Nat} (h : SMap.rising lo m = true) (k : Nat) :
    SMap.rising lo (SMap.erase m k) = true := SMap.erase_eq_filter m k ▸ SMap.rising_filter _ h

theorem SMap.rising_insert {m : SMap α} {lo : Nat} (h : SMap.rising lo m = true) (k : Nat) (v : α) (hk : lo ≤ k) :
    SMap.rising lo (SMap.insert m k v) = true := by
  induction m generalizing lo with
  | nil => exact SMap.rising_cons.mpr ⟨hk, rfl⟩
  | cons p m ih =>
    have ⟨h1, h2⟩ := SMap.rising_cons.mp h
    rcases Nat.lt_trichotomy p.1 k with e | e | e
    · rw [SMap.insert, if_pos e, SMap.rising_cons]
      exact ⟨h1, ih h2 e⟩
    · rw [SMap.insert, if_neg (by omega), if_pos e, SMap.rising_cons]
      exact ⟨hk, e ▸ h2⟩
    · rw [SMap.insert, if_neg (by omega), if_neg (by omega), SMap.rising_cons, SMap.rising_cons]
      exact ⟨hk, e, h2⟩

theorem SMap.all_erase {m : SMap α} (q : Nat × α → Bool) (h : m.all q = true) (k : Nat) : (SMap.erase m k).all q = true :=
  List.all_eq_true.mpr fun _ g => List.all_eq_true.mp h _ (SMap.of_mem_erase g)

theorem SMap.all_insert {m : SMap α} (q : Nat × α → Bool) (h : m.all q = true) (k : Nat) (v : α) (hq : q (k, v) = true) :
    (SMap.insert m k v).all q = true :=
  List.all_eq_true.mpr fun _ g => (SMap.of_mem_insert g).elim (fun e => e ▸ hq) (List.all_eq_true.mp h _)

/-- Every write keeps the canonical form. -/
theorem SMap.wf_set [DecidableEq α] {m : SMap α} (h : SMap.wf d m = true) (k : Nat) (v : α) :
    SMap.wf d (SMap.set d m k v) = true := by
  simp only [SMap.wf, Bool.and_eq_true] at h ⊢
  unfold SMap.set
  split
  · exact ⟨SMap.rising_erase h.1 k, SMap.all_erase _ h.2 k⟩
  · rename_i hv
    exact ⟨SMap.rising_insert h.1 k v (Nat.zero_le k), SMap.all_insert _ h.2 k v (by simpa using hv)⟩

/-- A read after a write into a map in canonical form. -/
theorem SMap.get_set_wf [DecidableEq α] {m : SMap α} (h : SMap.wf d m = true) (k j : Nat) (v : α) :
    SMap.get d (SMap.set d m k v) j = if j = k then v else SMap.get d m j := by
  simp only [SMap.wf, Bool.and_eq_true] at h
  exact SMap.get_set d h.1 k j v

theorem SMap.wf_modify [DecidableEq α] {m : SMap α} (h : SMap.wf d m = true) (k : Nat) (f : α → α) :
    SMap.wf d (SMap.modify d m k f) = true := SMap.wf_set d h k _

theorem SMap.wf_setList [DecidableEq α] (vs : List α) {m : SMap α} (h : SMap.wf d m = true) (k : Nat) :
    SMap.wf d (SMap.setList d m k vs) = true := by
  induction vs generalizing m k with
  | nil => exact h
  | cons v vs ih => exact ih (SMap.wf_set d h k v) (k + 1)

/-- Making a range of keys unlisted keeps the canonical form. -/
theorem SMap.wf_clearRange [DecidableEq α] {m : SMap α} (h : SMap.wf d m = true) (k n : Nat) :
    SMap.wf d (SMap.clearRange m k n) = true := by
  simp only [SMap.wf, Bool.and_eq_true] at h ⊢
  refine ⟨SMap.rising_filter _ h.1, ?_⟩
  simp only [List.all_eq_true, SMap.clearRange, List.mem_filter] at h ⊢
  exact fun p hp => h.2 p hp.1

end Sys2Proof.Machine
end

