-- ==== Sys2Proof/Laws/State.lean ====
section
/-! SUPPORT. One lemma per field of the state and named update: each update changes the one field it names. No later proof unfolds a
record update. -/

namespace Sys2Proof.Machine

section
variable (s : State) (n : Nat) (x : Engine)

@[simp] theorem State.setE_pending : (s.setE n x).pending = s.pending := rfl
@[simp] theorem State.setE_regs : (s.setE n x).regs = s.regs := rfl
@[simp] theorem State.setE_hif : (s.setE n x).hif = s.hif := rfl
@[simp] theorem State.setE_tim : (s.setE n x).tim = s.tim := rfl
@[simp] theorem State.setE_pins : (s.setE n x).pins = s.pins := rfl
@[simp] theorem State.setE_pwr : (s.setE n x).pwr = s.pwr := rfl
@[simp] theorem State.setE_aon : (s.setE n x).aon = s.aon := rfl
@[simp] theorem State.setE_flash : (s.setE n x).flash = s.flash := rfl
@[simp] theorem State.setE_keys : (s.setE n x).keys = s.keys := rfl
@[simp] theorem State.setE_nvm : (s.setE n x).nvm = s.nvm := rfl
@[simp] theorem State.setE_cfg : (s.setE n x).cfg = s.cfg := rfl
@[simp] theorem State.setE_scb : (s.setE n x).scb = s.scb := rfl
@[simp] theorem State.setE_fab : (s.setE n x).fab = s.fab := rfl
@[simp] theorem State.setE_dvm : (s.setE n x).dvm = s.dvm := rfl
@[simp] theorem State.setE_member : (s.setE n x).member = s.member := rfl
@[simp] theorem State.setE_sites : (s.setE n x).sites = s.sites := rfl
@[simp] theorem State.setE_links : (s.setE n x).links = s.links := rfl
@[simp] theorem State.setE_bus : (s.setE n x).bus = s.bus := rfl
@[simp] theorem State.setE_snp : (s.setE n x).snp = s.snp := rfl
@[simp] theorem State.setE_vq : (s.setE n x).vq = s.vq := rfl
@[simp] theorem State.setE_fm : (s.setE n x).fm = s.fm := rfl
@[simp] theorem State.setE_par : (s.setE n x).par = s.par := rfl
@[simp] theorem State.setE_out : (s.setE n x).out = s.out := rfl

end

section
variable (s : State) (n : Nat) (g : Engine → Engine)

@[simp] theorem State.modE_pending : (s.modE n g).pending = s.pending := rfl
@[simp] theorem State.modE_regs : (s.modE n g).regs = s.regs := rfl
@[simp] theorem State.modE_hif : (s.modE n g).hif = s.hif := rfl
@[simp] theorem State.modE_tim : (s.modE n g).tim = s.tim := rfl
@[simp] theorem State.modE_pins : (s.modE n g).pins = s.pins := rfl
@[simp] theorem State.modE_pwr : (s.modE n g).pwr = s.pwr := rfl
@[simp] theorem State.modE_aon : (s.modE n g).aon = s.aon := rfl
@[simp] theorem State.modE_flash : (s.modE n g).flash = s.flash := rfl
@[simp] theorem State.modE_keys : (s.modE n g).keys = s.keys := rfl
@[simp] theorem State.modE_nvm : (s.modE n g).nvm = s.nvm := rfl
@[simp] theorem State.modE_cfg : (s.modE n g).cfg = s.cfg := rfl
@[simp] theorem State.modE_scb : (s.modE n g).scb = s.scb := rfl
@[simp] theorem State.modE_fab : (s.modE n g).fab = s.fab := rfl
@[simp] theorem State.modE_dvm : (s.modE n g).dvm = s.dvm := rfl
@[simp] theorem State.modE_member : (s.modE n g).member = s.member := rfl
@[simp] theorem State.modE_sites : (s.modE n g).sites = s.sites := rfl
@[simp] theorem State.modE_links : (s.modE n g).links = s.links := rfl
@[simp] theorem State.modE_bus : (s.modE n g).bus = s.bus := rfl
@[simp] theorem State.modE_snp : (s.modE n g).snp = s.snp := rfl
@[simp] theorem State.modE_vq : (s.modE n g).vq = s.vq := rfl
@[simp] theorem State.modE_fm : (s.modE n g).fm = s.fm := rfl
@[simp] theorem State.modE_par : (s.modE n g).par = s.par := rfl
@[simp] theorem State.modE_out : (s.modE n g).out = s.out := rfl

end

section
variable (s : State) (n : Nat) (x : Vq)

@[simp] theorem State.setV_pending : (s.setV n x).pending = s.pending := rfl
@[simp] theorem State.setV_regs : (s.setV n x).regs = s.regs := rfl
@[simp] theorem State.setV_hif : (s.setV n x).hif = s.hif := rfl
@[simp] theorem State.setV_tim : (s.setV n x).tim = s.tim := rfl
@[simp] theorem State.setV_pins : (s.setV n x).pins = s.pins := rfl
@[simp] theorem State.setV_pwr : (s.setV n x).pwr = s.pwr := rfl
@[simp] theorem State.setV_aon : (s.setV n x).aon = s.aon := rfl
@[simp] theorem State.setV_flash : (s.setV n x).flash = s.flash := rfl
@[simp] theorem State.setV_keys : (s.setV n x).keys = s.keys := rfl
@[simp] theorem State.setV_nvm : (s.setV n x).nvm = s.nvm := rfl
@[simp] theorem State.setV_cfg : (s.setV n x).cfg = s.cfg := rfl
@[simp] theorem State.setV_scb : (s.setV n x).scb = s.scb := rfl
@[simp] theorem State.setV_fab : (s.setV n x).fab = s.fab := rfl
@[simp] theorem State.setV_dvm : (s.setV n x).dvm = s.dvm := rfl
@[simp] theorem State.setV_member : (s.setV n x).member = s.member := rfl
@[simp] theorem State.setV_sites : (s.setV n x).sites = s.sites := rfl
@[simp] theorem State.setV_links : (s.setV n x).links = s.links := rfl
@[simp] theorem State.setV_bus : (s.setV n x).bus = s.bus := rfl
@[simp] theorem State.setV_snp : (s.setV n x).snp = s.snp := rfl
@[simp] theorem State.setV_eng : (s.setV n x).eng = s.eng := rfl
@[simp] theorem State.setV_fm : (s.setV n x).fm = s.fm := rfl
@[simp] theorem State.setV_par : (s.setV n x).par = s.par := rfl
@[simp] theorem State.setV_out : (s.setV n x).out = s.out := rfl

end

section
variable (s : State) (n : Nat) (g : Vq → Vq)

@[simp] theorem State.modV_pending : (s.modV n g).pending = s.pending := rfl
@[simp] theorem State.modV_regs : (s.modV n g).regs = s.regs := rfl
@[simp] theorem State.modV_hif : (s.modV n g).hif = s.hif := rfl
@[simp] theorem State.modV_tim : (s.modV n g).tim = s.tim := rfl
@[simp] theorem State.modV_pins : (s.modV n g).pins = s.pins := rfl
@[simp] theorem State.modV_pwr : (s.modV n g).pwr = s.pwr := rfl
@[simp] theorem State.modV_aon : (s.modV n g).aon = s.aon := rfl
@[simp] theorem State.modV_flash : (s.modV n g).flash = s.flash := rfl
@[simp] theorem State.modV_keys : (s.modV n g).keys = s.keys := rfl
@[simp] theorem State.modV_nvm : (s.modV n g).nvm = s.nvm := rfl
@[simp] theorem State.modV_cfg : (s.modV n g).cfg = s.cfg := rfl
@[simp] theorem State.modV_scb : (s.modV n g).scb = s.scb := rfl
@[simp] theorem State.modV_fab : (s.modV n g).fab = s.fab := rfl
@[simp] theorem State.modV_dvm : (s.modV n g).dvm = s.dvm := rfl
@[simp] theorem State.modV_member : (s.modV n g).member = s.member := rfl
@[simp] theorem State.modV_sites : (s.modV n g).sites = s.sites := rfl
@[simp] theorem State.modV_links : (s.modV n g).links = s.links := rfl
@[simp] theorem State.modV_bus : (s.modV n g).bus = s.bus := rfl
@[simp] theorem State.modV_snp : (s.modV n g).snp = s.snp := rfl
@[simp] theorem State.modV_eng : (s.modV n g).eng = s.eng := rfl
@[simp] theorem State.modV_fm : (s.modV n g).fm = s.fm := rfl
@[simp] theorem State.modV_par : (s.modV n g).par = s.par := rfl
@[simp] theorem State.modV_out : (s.modV n g).out = s.out := rfl

end

section
variable (s : State) (n : Nat) (x : Fm)

@[simp] theorem State.setF_pending : (s.setF n x).pending = s.pending := rfl
@[simp] theorem State.setF_regs : (s.setF n x).regs = s.regs := rfl
@[simp] theorem State.setF_hif : (s.setF n x).hif = s.hif := rfl
@[simp] theorem State.setF_tim : (s.setF n x).tim = s.tim := rfl
@[simp] theorem State.setF_pins : (s.setF n x).pins = s.pins := rfl
@[simp] theorem State.setF_pwr : (s.setF n x).pwr = s.pwr := rfl
@[simp] theorem State.setF_aon : (s.setF n x).aon = s.aon := rfl
@[simp] theorem State.setF_flash : (s.setF n x).flash = s.flash := rfl
@[simp] theorem State.setF_keys : (s.setF n x).keys = s.keys := rfl
@[simp] theorem State.setF_nvm : (s.setF n x).nvm = s.nvm := rfl
@[simp] theorem State.setF_cfg : (s.setF n x).cfg = s.cfg := rfl
@[simp] theorem State.setF_scb : (s.setF n x).scb = s.scb := rfl
@[simp] theorem State.setF_fab : (s.setF n x).fab = s.fab := rfl
@[simp] theorem State.setF_dvm : (s.setF n x).dvm = s.dvm := rfl
@[simp] theorem State.setF_member : (s.setF n x).member = s.member := rfl
@[simp] theorem State.setF_sites : (s.setF n x).sites = s.sites := rfl
@[simp] theorem State.setF_links : (s.setF n x).links = s.links := rfl
@[simp] theorem State.setF_bus : (s.setF n x).bus = s.bus := rfl
@[simp] theorem State.setF_snp : (s.setF n x).snp = s.snp := rfl
@[simp] theorem State.setF_eng : (s.setF n x).eng = s.eng := rfl
@[simp] theorem State.setF_vq : (s.setF n x).vq = s.vq := rfl
@[simp] theorem State.setF_par : (s.setF n x).par = s.par := rfl
@[simp] theorem State.setF_out : (s.setF n x).out = s.out := rfl

end

section
variable (s : State) (n : Nat) (g : Fm → Fm)

@[simp] theorem State.modF_pending : (s.modF n g).pending = s.pending := rfl
@[simp] theorem State.modF_regs : (s.modF n g).regs = s.regs := rfl
@[simp] theorem State.modF_hif : (s.modF n g).hif = s.hif := rfl
@[simp] theorem State.modF_tim : (s.modF n g).tim = s.tim := rfl
@[simp] theorem State.modF_pins : (s.modF n g).pins = s.pins := rfl
@[simp] theorem State.modF_pwr : (s.modF n g).pwr = s.pwr := rfl
@[simp] theorem State.modF_aon : (s.modF n g).aon = s.aon := rfl
@[simp] theorem State.modF_flash : (s.modF n g).flash = s.flash := rfl
@[simp] theorem State.modF_keys : (s.modF n g).keys = s.keys := rfl
@[simp] theorem State.modF_nvm : (s.modF n g).nvm = s.nvm := rfl
@[simp] theorem State.modF_cfg : (s.modF n g).cfg = s.cfg := rfl
@[simp] theorem State.modF_scb : (s.modF n g).scb = s.scb := rfl
@[simp] theorem State.modF_fab : (s.modF n g).fab = s.fab := rfl
@[simp] theorem State.modF_dvm : (s.modF n g).dvm = s.dvm := rfl
@[simp] theorem State.modF_member : (s.modF n g).member = s.member := rfl
@[simp] theorem State.modF_sites : (s.modF n g).sites = s.sites := rfl
@[simp] theorem State.modF_links : (s.modF n g).links = s.links := rfl
@[simp] theorem State.modF_bus : (s.modF n g).bus = s.bus := rfl
@[simp] theorem State.modF_snp : (s.modF n g).snp = s.snp := rfl
@[simp] theorem State.modF_eng : (s.modF n g).eng = s.eng := rfl
@[simp] theorem State.modF_vq : (s.modF n g).vq = s.vq := rfl
@[simp] theorem State.modF_par : (s.modF n g).par = s.par := rfl
@[simp] theorem State.modF_out : (s.modF n g).out = s.out := rfl

end

section
variable (s : State) (n : Nat) (x : Par)

@[simp] theorem State.setP_pending : (s.setP n x).pending = s.pending := rfl
@[simp] theorem State.setP_regs : (s.setP n x).regs = s.regs := rfl
@[simp] theorem State.setP_hif : (s.setP n x).hif = s.hif := rfl
@[simp] theorem State.setP_tim : (s.setP n x).tim = s.tim := rfl
@[simp] theorem State.setP_pins : (s.setP n x).pins = s.pins := rfl
@[simp] theorem State.setP_pwr : (s.setP n x).pwr = s.pwr := rfl
@[simp] theorem State.setP_aon : (s.setP n x).aon = s.aon := rfl
@[simp] theorem State.setP_flash : (s.setP n x).flash = s.flash := rfl
@[simp] theorem State.setP_keys : (s.setP n x).keys = s.keys := rfl
@[simp] theorem State.setP_nvm : (s.setP n x).nvm = s.nvm := rfl
@[simp] theorem State.setP_cfg : (s.setP n x).cfg = s.cfg := rfl
@[simp] theorem State.setP_scb : (s.setP n x).scb = s.scb := rfl
@[simp] theorem State.setP_fab : (s.setP n x).fab = s.fab := rfl
@[simp] theorem State.setP_dvm : (s.setP n x).dvm = s.dvm := rfl
@[simp] theorem State.setP_member : (s.setP n x).member = s.member := rfl
@[simp] theorem State.setP_sites : (s.setP n x).sites = s.sites := rfl
@[simp] theorem State.setP_links : (s.setP n x).links = s.links := rfl
@[simp] theorem State.setP_bus : (s.setP n x).bus = s.bus := rfl
@[simp] theorem State.setP_snp : (s.setP n x).snp = s.snp := rfl
@[simp] theorem State.setP_eng : (s.setP n x).eng = s.eng := rfl
@[simp] theorem State.setP_vq : (s.setP n x).vq = s.vq := rfl
@[simp] theorem State.setP_fm : (s.setP n x).fm = s.fm := rfl
@[simp] theorem State.setP_out : (s.setP n x).out = s.out := rfl

end

section
variable (s : State) (n : Nat) (g : Par → Par)

@[simp] theorem State.modP_pending : (s.modP n g).pending = s.pending := rfl
@[simp] theorem State.modP_regs : (s.modP n g).regs = s.regs := rfl
@[simp] theorem State.modP_hif : (s.modP n g).hif = s.hif := rfl
@[simp] theorem State.modP_tim : (s.modP n g).tim = s.tim := rfl
@[simp] theorem State.modP_pins : (s.modP n g).pins = s.pins := rfl
@[simp] theorem State.modP_pwr : (s.modP n g).pwr = s.pwr := rfl
@[simp] theorem State.modP_aon : (s.modP n g).aon = s.aon := rfl
@[simp] theorem State.modP_flash : (s.modP n g).flash = s.flash := rfl
@[simp] theorem State.modP_keys : (s.modP n g).keys = s.keys := rfl
@[simp] theorem State.modP_nvm : (s.modP n g).nvm = s.nvm := rfl
@[simp] theorem State.modP_cfg : (s.modP n g).cfg = s.cfg := rfl
@[simp] theorem State.modP_scb : (s.modP n g).scb = s.scb := rfl
@[simp] theorem State.modP_fab : (s.modP n g).fab = s.fab := rfl
@[simp] theorem State.modP_dvm : (s.modP n g).dvm = s.dvm := rfl
@[simp] theorem State.modP_member : (s.modP n g).member = s.member := rfl
@[simp] theorem State.modP_sites : (s.modP n g).sites = s.sites := rfl
@[simp] theorem State.modP_links : (s.modP n g).links = s.links := rfl
@[simp] theorem State.modP_bus : (s.modP n g).bus = s.bus := rfl
@[simp] theorem State.modP_snp : (s.modP n g).snp = s.snp := rfl
@[simp] theorem State.modP_eng : (s.modP n g).eng = s.eng := rfl
@[simp] theorem State.modP_vq : (s.modP n g).vq = s.vq := rfl
@[simp] theorem State.modP_fm : (s.modP n g).fm = s.fm := rfl
@[simp] theorem State.modP_out : (s.modP n g).out = s.out := rfl

end

section
variable (s : State) (n : Nat) (x : Site)

@[simp] theorem State.setSite_pending : (s.setSite n x).pending = s.pending := rfl
@[simp] theorem State.setSite_regs : (s.setSite n x).regs = s.regs := rfl
@[simp] theorem State.setSite_hif : (s.setSite n x).hif = s.hif := rfl
@[simp] theorem State.setSite_tim : (s.setSite n x).tim = s.tim := rfl
@[simp] theorem State.setSite_pins : (s.setSite n x).pins = s.pins := rfl
@[simp] theorem State.setSite_pwr : (s.setSite n x).pwr = s.pwr := rfl
@[simp] theorem State.setSite_aon : (s.setSite n x).aon = s.aon := rfl
@[simp] theorem State.setSite_flash : (s.setSite n x).flash = s.flash := rfl
@[simp] theorem State.setSite_keys : (s.setSite n x).keys = s.keys := rfl
@[simp] theorem State.setSite_nvm : (s.setSite n x).nvm = s.nvm := rfl
@[simp] theorem State.setSite_cfg : (s.setSite n x).cfg = s.cfg := rfl
@[simp] theorem State.setSite_scb : (s.setSite n x).scb = s.scb := rfl
@[simp] theorem State.setSite_fab : (s.setSite n x).fab = s.fab := rfl
@[simp] theorem State.setSite_dvm : (s.setSite n x).dvm = s.dvm := rfl
@[simp] theorem State.setSite_member : (s.setSite n x).member = s.member := rfl
@[simp] theorem State.setSite_links : (s.setSite n x).links = s.links := rfl
@[simp] theorem State.setSite_bus : (s.setSite n x).bus = s.bus := rfl
@[simp] theorem State.setSite_snp : (s.setSite n x).snp = s.snp := rfl
@[simp] theorem State.setSite_eng : (s.setSite n x).eng = s.eng := rfl
@[simp] theorem State.setSite_vq : (s.setSite n x).vq = s.vq := rfl
@[simp] theorem State.setSite_fm : (s.setSite n x).fm = s.fm := rfl
@[simp] theorem State.setSite_par : (s.setSite n x).par = s.par := rfl
@[simp] theorem State.setSite_out : (s.setSite n x).out = s.out := rfl

end

section
variable (s : State) (n : Nat) (r : Option Run)

@[simp] theorem State.setRun_pending : (s.setRun n r).pending = s.pending := rfl
@[simp] theorem State.setRun_regs : (s.setRun n r).regs = s.regs := rfl
@[simp] theorem State.setRun_hif : (s.setRun n r).hif = s.hif := rfl
@[simp] theorem State.setRun_tim : (s.setRun n r).tim = s.tim := rfl
@[simp] theorem State.setRun_pins : (s.setRun n r).pins = s.pins := rfl
@[simp] theorem State.setRun_pwr : (s.setRun n r).pwr = s.pwr := rfl
@[simp] theorem State.setRun_aon : (s.setRun n r).aon = s.aon := rfl
@[simp] theorem State.setRun_flash : (s.setRun n r).flash = s.flash := rfl
@[simp] theorem State.setRun_keys : (s.setRun n r).keys = s.keys := rfl
@[simp] theorem State.setRun_nvm : (s.setRun n r).nvm = s.nvm := rfl
@[simp] theorem State.setRun_cfg : (s.setRun n r).cfg = s.cfg := rfl
@[simp] theorem State.setRun_scb : (s.setRun n r).scb = s.scb := rfl
@[simp] theorem State.setRun_fab : (s.setRun n r).fab = s.fab := rfl
@[simp] theorem State.setRun_dvm : (s.setRun n r).dvm = s.dvm := rfl
@[simp] theorem State.setRun_member : (s.setRun n r).member = s.member := rfl
@[simp] theorem State.setRun_links : (s.setRun n r).links = s.links := rfl
@[simp] theorem State.setRun_bus : (s.setRun n r).bus = s.bus := rfl
@[simp] theorem State.setRun_snp : (s.setRun n r).snp = s.snp := rfl
@[simp] theorem State.setRun_eng : (s.setRun n r).eng = s.eng := rfl
@[simp] theorem State.setRun_vq : (s.setRun n r).vq = s.vq := rfl
@[simp] theorem State.setRun_fm : (s.setRun n r).fm = s.fm := rfl
@[simp] theorem State.setRun_par : (s.setRun n r).par = s.par := rfl
@[simp] theorem State.setRun_out : (s.setRun n r).out = s.out := rfl

end

section
variable (s : State) (n : Nat) (x : Link)

@[simp] theorem State.setLink_pending : (s.setLink n x).pending = s.pending := rfl
@[simp] theorem State.setLink_regs : (s.setLink n x).regs = s.regs := rfl
@[simp] theorem State.setLink_hif : (s.setLink n x).hif = s.hif := rfl
@[simp] theorem State.setLink_tim : (s.setLink n x).tim = s.tim := rfl
@[simp] theorem State.setLink_pins : (s.setLink n x).pins = s.pins := rfl
@[simp] theorem State.setLink_pwr : (s.setLink n x).pwr = s.pwr := rfl
@[simp] theorem State.setLink_aon : (s.setLink n x).aon = s.aon := rfl
@[simp] theorem State.setLink_flash : (s.setLink n x).flash = s.flash := rfl
@[simp] theorem State.setLink_keys : (s.setLink n x).keys = s.keys := rfl
@[simp] theorem State.setLink_nvm : (s.setLink n x).nvm = s.nvm := rfl
@[simp] theorem State.setLink_cfg : (s.setLink n x).cfg = s.cfg := rfl
@[simp] theorem State.setLink_scb : (s.setLink n x).scb = s.scb := rfl
@[simp] theorem State.setLink_fab : (s.setLink n x).fab = s.fab := rfl
@[simp] theorem State.setLink_dvm : (s.setLink n x).dvm = s.dvm := rfl
@[simp] theorem State.setLink_member : (s.setLink n x).member = s.member := rfl
@[simp] theorem State.setLink_sites : (s.setLink n x).sites = s.sites := rfl
@[simp] theorem State.setLink_bus : (s.setLink n x).bus = s.bus := rfl
@[simp] theorem State.setLink_snp : (s.setLink n x).snp = s.snp := rfl
@[simp] theorem State.setLink_eng : (s.setLink n x).eng = s.eng := rfl
@[simp] theorem State.setLink_vq : (s.setLink n x).vq = s.vq := rfl
@[simp] theorem State.setLink_fm : (s.setLink n x).fm = s.fm := rfl
@[simp] theorem State.setLink_par : (s.setLink n x).par = s.par := rfl
@[simp] theorem State.setLink_out : (s.setLink n x).out = s.out := rfl

end

section
variable (s : State) (n : Nat) (x : Ring)

@[simp] theorem State.setRing_pending : (s.setRing n x).pending = s.pending := rfl
@[simp] theorem State.setRing_regs : (s.setRing n x).regs = s.regs := rfl
@[simp] theorem State.setRing_tim : (s.setRing n x).tim = s.tim := rfl
@[simp] theorem State.setRing_pins : (s.setRing n x).pins = s.pins := rfl
@[simp] theorem State.setRing_pwr : (s.setRing n x).pwr = s.pwr := rfl
@[simp] theorem State.setRing_aon : (s.setRing n x).aon = s.aon := rfl
@[simp] theorem State.setRing_flash : (s.setRing n x).flash = s.flash := rfl
@[simp] theorem State.setRing_keys : (s.setRing n x).keys = s.keys := rfl
@[simp] theorem State.setRing_nvm : (s.setRing n x).nvm = s.nvm := rfl
@[simp] theorem State.setRing_cfg : (s.setRing n x).cfg = s.cfg := rfl
@[simp] theorem State.setRing_scb : (s.setRing n x).scb = s.scb := rfl
@[simp] theorem State.setRing_fab : (s.setRing n x).fab = s.fab := rfl
@[simp] theorem State.setRing_dvm : (s.setRing n x).dvm = s.dvm := rfl
@[simp] theorem State.setRing_member : (s.setRing n x).member = s.member := rfl
@[simp] theorem State.setRing_sites : (s.setRing n x).sites = s.sites := rfl
@[simp] theorem State.setRing_links : (s.setRing n x).links = s.links := rfl
@[simp] theorem State.setRing_bus : (s.setRing n x).bus = s.bus := rfl
@[simp] theorem State.setRing_snp : (s.setRing n x).snp = s.snp := rfl
@[simp] theorem State.setRing_eng : (s.setRing n x).eng = s.eng := rfl
@[simp] theorem State.setRing_vq : (s.setRing n x).vq = s.vq := rfl
@[simp] theorem State.setRing_fm : (s.setRing n x).fm = s.fm := rfl
@[simp] theorem State.setRing_par : (s.setRing n x).par = s.par := rfl
@[simp] theorem State.setRing_out : (s.setRing n x).out = s.out := rfl
@[simp] theorem State.setRing_hif_fetched : (s.setRing n x).hif.fetched = s.hif.fetched := rfl
@[simp] theorem State.setRing_hif_inExec : (s.setRing n x).hif.inExec = s.hif.inExec := rfl
@[simp] theorem State.setRing_hif_known : (s.setRing n x).hif.known = s.hif.known := rfl
@[simp] theorem State.setRing_hif_serial : (s.setRing n x).hif.serial = s.hif.serial := rfl
@[simp] theorem State.setRing_hif_rrRing : (s.setRing n x).hif.rrRing = s.hif.rrRing := rfl
@[simp] theorem State.setRing_hif_rrLeft : (s.setRing n x).hif.rrLeft = s.hif.rrLeft := rfl
@[simp] theorem State.setRing_hif_pci : (s.setRing n x).hif.pci = s.hif.pci := rfl
@[simp] theorem State.setRing_hif_cpls : (s.setRing n x).hif.cpls = s.hif.cpls := rfl
@[simp] theorem State.setRing_hif_dropped : (s.setRing n x).hif.dropped = s.hif.dropped := rfl
@[simp] theorem State.setRing_hif_evBuf : (s.setRing n x).hif.evBuf = s.hif.evBuf := rfl
@[simp] theorem State.setRing_hif_lost : (s.setRing n x).hif.lost = s.hif.lost := rfl
@[simp] theorem State.setRing_hif_lostTime : (s.setRing n x).hif.lostTime = s.hif.lostTime := rfl
@[simp] theorem State.setRing_hif_msixPend : (s.setRing n x).hif.msixPend = s.hif.msixPend := rfl
@[simp] theorem State.setRing_hif_busMaster : (s.setRing n x).hif.busMaster = s.hif.busMaster := rfl
@[simp] theorem State.setRing_hif_fab : (s.setRing n x).hif.fab = s.hif.fab := rfl

end

section
variable (s : State) (n : Nat) (x : Pin)

@[simp] theorem State.setPin_pending : (s.setPin n x).pending = s.pending := rfl
@[simp] theorem State.setPin_regs : (s.setPin n x).regs = s.regs := rfl
@[simp] theorem State.setPin_hif : (s.setPin n x).hif = s.hif := rfl
@[simp] theorem State.setPin_tim : (s.setPin n x).tim = s.tim := rfl
@[simp] theorem State.setPin_pwr : (s.setPin n x).pwr = s.pwr := rfl
@[simp] theorem State.setPin_aon : (s.setPin n x).aon = s.aon := rfl
@[simp] theorem State.setPin_flash : (s.setPin n x).flash = s.flash := rfl
@[simp] theorem State.setPin_keys : (s.setPin n x).keys = s.keys := rfl
@[simp] theorem State.setPin_nvm : (s.setPin n x).nvm = s.nvm := rfl
@[simp] theorem State.setPin_cfg : (s.setPin n x).cfg = s.cfg := rfl
@[simp] theorem State.setPin_scb : (s.setPin n x).scb = s.scb := rfl
@[simp] theorem State.setPin_fab : (s.setPin n x).fab = s.fab := rfl
@[simp] theorem State.setPin_dvm : (s.setPin n x).dvm = s.dvm := rfl
@[simp] theorem State.setPin_member : (s.setPin n x).member = s.member := rfl
@[simp] theorem State.setPin_sites : (s.setPin n x).sites = s.sites := rfl
@[simp] theorem State.setPin_links : (s.setPin n x).links = s.links := rfl
@[simp] theorem State.setPin_bus : (s.setPin n x).bus = s.bus := rfl
@[simp] theorem State.setPin_snp : (s.setPin n x).snp = s.snp := rfl
@[simp] theorem State.setPin_eng : (s.setPin n x).eng = s.eng := rfl
@[simp] theorem State.setPin_vq : (s.setPin n x).vq = s.vq := rfl
@[simp] theorem State.setPin_fm : (s.setPin n x).fm = s.fm := rfl
@[simp] theorem State.setPin_par : (s.setPin n x).par = s.par := rfl
@[simp] theorem State.setPin_out : (s.setPin n x).out = s.out := rfl

end

section
variable (s : State) (n v : Nat)

@[simp] theorem State.setReg_pending : (s.setReg n v).pending = s.pending := rfl
@[simp] theorem State.setReg_hif : (s.setReg n v).hif = s.hif := rfl
@[simp] theorem State.setReg_tim : (s.setReg n v).tim = s.tim := rfl
@[simp] theorem State.setReg_pins : (s.setReg n v).pins = s.pins := rfl
@[simp] theorem State.setReg_pwr : (s.setReg n v).pwr = s.pwr := rfl
@[simp] theorem State.setReg_aon : (s.setReg n v).aon = s.aon := rfl
@[simp] theorem State.setReg_flash : (s.setReg n v).flash = s.flash := rfl
@[simp] theorem State.setReg_keys : (s.setReg n v).keys = s.keys := rfl
@[simp] theorem State.setReg_nvm : (s.setReg n v).nvm = s.nvm := rfl
@[simp] theorem State.setReg_cfg : (s.setReg n v).cfg = s.cfg := rfl
@[simp] theorem State.setReg_scb : (s.setReg n v).scb = s.scb := rfl
@[simp] theorem State.setReg_fab : (s.setReg n v).fab = s.fab := rfl
@[simp] theorem State.setReg_dvm : (s.setReg n v).dvm = s.dvm := rfl
@[simp] theorem State.setReg_member : (s.setReg n v).member = s.member := rfl
@[simp] theorem State.setReg_sites : (s.setReg n v).sites = s.sites := rfl
@[simp] theorem State.setReg_links : (s.setReg n v).links = s.links := rfl
@[simp] theorem State.setReg_bus : (s.setReg n v).bus = s.bus := rfl
@[simp] theorem State.setReg_snp : (s.setReg n v).snp = s.snp := rfl
@[simp] theorem State.setReg_eng : (s.setReg n v).eng = s.eng := rfl
@[simp] theorem State.setReg_vq : (s.setReg n v).vq = s.vq := rfl
@[simp] theorem State.setReg_fm : (s.setReg n v).fm = s.fm := rfl
@[simp] theorem State.setReg_par : (s.setReg n v).par = s.par := rfl
@[simp] theorem State.setReg_out : (s.setReg n v).out = s.out := rfl

end

section
variable (s : State) (o : Out)

@[simp] theorem State.put_pending : (s.put o).pending = s.pending := rfl
@[simp] theorem State.put_regs : (s.put o).regs = s.regs := rfl
@[simp] theorem State.put_hif : (s.put o).hif = s.hif := rfl
@[simp] theorem State.put_tim : (s.put o).tim = s.tim := rfl
@[simp] theorem State.put_pins : (s.put o).pins = s.pins := rfl
@[simp] theorem State.put_pwr : (s.put o).pwr = s.pwr := rfl
@[simp] theorem State.put_aon : (s.put o).aon = s.aon := rfl
@[simp] theorem State.put_flash : (s.put o).flash = s.flash := rfl
@[simp] theorem State.put_keys : (s.put o).keys = s.keys := rfl
@[simp] theorem State.put_nvm : (s.put o).nvm = s.nvm := rfl
@[simp] theorem State.put_cfg : (s.put o).cfg = s.cfg := rfl
@[simp] theorem State.put_scb : (s.put o).scb = s.scb := rfl
@[simp] theorem State.put_fab : (s.put o).fab = s.fab := rfl
@[simp] theorem State.put_dvm : (s.put o).dvm = s.dvm := rfl
@[simp] theorem State.put_member : (s.put o).member = s.member := rfl
@[simp] theorem State.put_sites : (s.put o).sites = s.sites := rfl
@[simp] theorem State.put_links : (s.put o).links = s.links := rfl
@[simp] theorem State.put_bus : (s.put o).bus = s.bus := rfl
@[simp] theorem State.put_snp : (s.put o).snp = s.snp := rfl
@[simp] theorem State.put_eng : (s.put o).eng = s.eng := rfl
@[simp] theorem State.put_vq : (s.put o).vq = s.vq := rfl
@[simp] theorem State.put_fm : (s.put o).fm = s.fm := rfl
@[simp] theorem State.put_par : (s.put o).par = s.par := rfl

end

/-! What the entry written reads as, in a state whose maps are in canonical form. -/

theorem State.setE_e (s : State) (n k : Nat) (x : Engine) (h : SMap.wf engReset s.eng = true) :
    (s.setE n x).e k = if k = n then x else s.e k := SMap.get_set_wf engReset h n k x

theorem State.setV_v (s : State) (n k : Nat) (x : Vq) (h : SMap.wf vqReset s.vq = true) :
    (s.setV n x).v k = if k = n then x else s.v k := SMap.get_set_wf vqReset h n k x

theorem State.setF_f (s : State) (n k : Nat) (x : Fm) (h : SMap.wf fmReset s.fm = true) :
    (s.setF n x).f k = if k = n then x else s.f k := SMap.get_set_wf fmReset h n k x

theorem State.setP_p (s : State) (n k : Nat) (x : Par) (h : SMap.wf parReset s.par = true) :
    (s.setP n x).p k = if k = n then x else s.p k := SMap.get_set_wf parReset h n k x

theorem State.setSite_site (s : State) (n k : Nat) (x : Site) (h : SMap.wf siteReset s.sites = true) :
    (s.setSite n x).site k = if k = n then x else s.site k := SMap.get_set_wf siteReset h n k x

theorem State.setLink_link (s : State) (n k : Nat) (x : Link) (h : SMap.wf linkReset s.links = true) :
    (s.setLink n x).link k = if k = n then x else s.link k := SMap.get_set_wf linkReset h n k x

theorem State.setRing_ring (s : State) (n k : Nat) (x : Ring) (h : SMap.wf ringReset s.hif.rings = true) :
    (s.setRing n x).ring k = if k = n then x else s.ring k := SMap.get_set_wf ringReset h n k x

theorem State.setPin_pin (s : State) (n k : Nat) (x : Pin) (h : SMap.wf pinReset s.pins.pin = true) :
    (s.setPin n x).pin k = if k = n then x else s.pin k := SMap.get_set_wf pinReset h n k x

theorem State.setReg_reg (s : State) (a k v : Nat) (h : SMap.wf regReset s.regs = true) :
    (s.setReg a v).reg k = if k = a then v % 2 ^ 32 else s.reg k := by
  unfold State.reg State.setReg
  rw [SMap.get_set_wf regReset h]
  split <;> simp [BitVec.toNat_ofNat]

end Sys2Proof.Machine
end

