-- ==== Sys2Proof/Laws/Report.lean ====
section
/-! SUPPORT. What reporting can do: raising an event changes the event buffer alone, a completion only what waits for completion rings
or, where its ring is off, what counts it as dropped. -/

namespace Sys2Proof.Machine

/-- A change of the event buffer and its count of lost records alone. -/
def State.EventsOnly (s t : State) : Prop :=
  ∃ b l m, t = { s with hif := { s.hif with evBuf := b, lost := l, lostTime := m } }

theorem State.EventsOnly.trans {s t u : State} (h : s.EventsOnly t) (g : t.EventsOnly u) : s.EventsOnly u := by
  obtain ⟨b, l, m, rfl⟩ := h
  obtain ⟨b, l, m, rfl⟩ := g
  exact ⟨b, l, m, rfl⟩

/-- A due EVENT_LOST changes nothing but the event buffer and its count. -/
theorem State.reportLost_events (s : State) : s.EventsOnly s.reportLost := by
  unfold State.reportLost
  simp only
  split
  · exact ⟨_, _, s.hif.lostTime, rfl⟩
  · exact ⟨_, _, _, rfl⟩

/-- Raising an event changes nothing but the event buffer and its count of lost records. -/
theorem State.raiseAt_eq (s : State) (code : Nat) (items : List Item) (time : Nat) :
    ∃ b l m, s.raiseAt code items time = { s with hif := { s.hif with evBuf := b, lost := l, lostTime := m } } := by
  have fin (t : State) (c : Bool) (g u : State) (hg : t.EventsOnly g) (hu : t.EventsOnly u) :
      t.EventsOnly (if c = true then g else u) := by
    cases c
    · exact hu
    · exact hg
  unfold State.raiseAt
  simp only
  split
  · exact ⟨_, s.hif.lost, s.hif.lostTime, rfl⟩
  · refine s.reportLost_events.trans (fin _ _ _ _ ?_ ?_)
    · exact ⟨_, _, _, rfl⟩
    · refine State.EventsOnly.trans ?_ (State.reportLost_events _)
      exact ⟨_, _, _, rfl⟩

/-- Outside the event buffer and its count of lost records an event leaves the state as it was: the form that the lemmas below read. -/
theorem State.raiseAt_frame (s : State) (code : Nat) (items : List Item) (time : Nat) :
    s.raiseAt code items time = { s with hif := { s.hif with
      evBuf := (s.raiseAt code items time).hif.evBuf
      lost := (s.raiseAt code items time).hif.lost
      lostTime := (s.raiseAt code items time).hif.lostTime } } := by
  obtain ⟨b, l, m, h⟩ := s.raiseAt_eq code items time
  rw [h]

section
variable (s : State) (code : Nat) (items : List Item) (time : Nat)

@[simp] theorem State.raiseAt_pending : (s.raiseAt code items time).pending = s.pending := by rw [s.raiseAt_frame code items time]
@[simp] theorem State.raiseAt_regs : (s.raiseAt code items time).regs = s.regs := by rw [s.raiseAt_frame code items time]
@[simp] theorem State.raiseAt_tim : (s.raiseAt code items time).tim = s.tim := by rw [s.raiseAt_frame code items time]
@[simp] theorem State.raiseAt_pins : (s.raiseAt code items time).pins = s.pins := by rw [s.raiseAt_frame code items time]
@[simp] theorem State.raiseAt_pwr : (s.raiseAt code items time).pwr = s.pwr := by rw [s.raiseAt_frame code items time]
@[simp] theorem State.raiseAt_aon : (s.raiseAt code items time).aon = s.aon := by rw [s.raiseAt_frame code items time]
@[simp] theorem State.raiseAt_flash : (s.raiseAt code items time).flash = s.flash := by rw [s.raiseAt_frame code items time]
@[simp] theorem State.raiseAt_keys : (s.raiseAt code items time).keys = s.keys := by rw [s.raiseAt_frame code items time]
@[simp] theorem State.raiseAt_nvm : (s.raiseAt code items time).nvm = s.nvm := by rw [s.raiseAt_frame code items time]
@[simp] theorem State.raiseAt_cfg : (s.raiseAt code items time).cfg = s.cfg := by rw [s.raiseAt_frame code items time]
@[simp] theorem State.raiseAt_scb : (s.raiseAt code items time).scb = s.scb := by rw [s.raiseAt_frame code items time]
@[simp] theorem State.raiseAt_fab : (s.raiseAt code items time).fab = s.fab := by rw [s.raiseAt_frame code items time]
@[simp] theorem State.raiseAt_dvm : (s.raiseAt code items time).dvm = s.dvm := by rw [s.raiseAt_frame code items time]
@[simp] theorem State.raiseAt_member : (s.raiseAt code items time).member = s.member := by rw [s.raiseAt_frame code items time]
@[simp] theorem State.raiseAt_sites : (s.raiseAt code items time).sites = s.sites := by rw [s.raiseAt_frame code items time]
@[simp] theorem State.raiseAt_links : (s.raiseAt code items time).links = s.links := by rw [s.raiseAt_frame code items time]
@[simp] theorem State.raiseAt_bus : (s.raiseAt code items time).bus = s.bus := by rw [s.raiseAt_frame code items time]
@[simp] theorem State.raiseAt_snp : (s.raiseAt code items time).snp = s.snp := by rw [s.raiseAt_frame code items time]
@[simp] theorem State.raiseAt_eng : (s.raiseAt code items time).eng = s.eng := by rw [s.raiseAt_frame code items time]
@[simp] theorem State.raiseAt_vq : (s.raiseAt code items time).vq = s.vq := by rw [s.raiseAt_frame code items time]
@[simp] theorem State.raiseAt_fm : (s.raiseAt code items time).fm = s.fm := by rw [s.raiseAt_frame code items time]
@[simp] theorem State.raiseAt_par : (s.raiseAt code items time).par = s.par := by rw [s.raiseAt_frame code items time]
@[simp] theorem State.raiseAt_out : (s.raiseAt code items time).out = s.out := by rw [s.raiseAt_frame code items time]

@[simp] theorem State.raise_pending : (s.raise code items).pending = s.pending := s.raiseAt_pending code items s.stampNow
@[simp] theorem State.raise_regs : (s.raise code items).regs = s.regs := s.raiseAt_regs code items s.stampNow
@[simp] theorem State.raise_tim : (s.raise code items).tim = s.tim := s.raiseAt_tim code items s.stampNow
@[simp] theorem State.raise_pins : (s.raise code items).pins = s.pins := s.raiseAt_pins code items s.stampNow
@[simp] theorem State.raise_pwr : (s.raise code items).pwr = s.pwr := s.raiseAt_pwr code items s.stampNow
@[simp] theorem State.raise_aon : (s.raise code items).aon = s.aon := s.raiseAt_aon code items s.stampNow
@[simp] theorem State.raise_flash : (s.raise code items).flash = s.flash := s.raiseAt_flash code items s.stampNow
@[simp] theorem State.raise_keys : (s.raise code items).keys = s.keys := s.raiseAt_keys code items s.stampNow
@[simp] theorem State.raise_nvm : (s.raise code items).nvm = s.nvm := s.raiseAt_nvm code items s.stampNow
@[simp] theorem State.raise_cfg : (s.raise code items).cfg = s.cfg := s.raiseAt_cfg code items s.stampNow
@[simp] theorem State.raise_scb : (s.raise code items).scb = s.scb := s.raiseAt_scb code items s.stampNow
@[simp] theorem State.raise_fab : (s.raise code items).fab = s.fab := s.raiseAt_fab code items s.stampNow
@[simp] theorem State.raise_dvm : (s.raise code items).dvm = s.dvm := s.raiseAt_dvm code items s.stampNow
@[simp] theorem State.raise_member : (s.raise code items).member = s.member := s.raiseAt_member code items s.stampNow
@[simp] theorem State.raise_sites : (s.raise code items).sites = s.sites := s.raiseAt_sites code items s.stampNow
@[simp] theorem State.raise_links : (s.raise code items).links = s.links := s.raiseAt_links code items s.stampNow
@[simp] theorem State.raise_bus : (s.raise code items).bus = s.bus := s.raiseAt_bus code items s.stampNow
@[simp] theorem State.raise_snp : (s.raise code items).snp = s.snp := s.raiseAt_snp code items s.stampNow
@[simp] theorem State.raise_eng : (s.raise code items).eng = s.eng := s.raiseAt_eng code items s.stampNow
@[simp] theorem State.raise_vq : (s.raise code items).vq = s.vq := s.raiseAt_vq code items s.stampNow
@[simp] theorem State.raise_fm : (s.raise code items).fm = s.fm := s.raiseAt_fm code items s.stampNow
@[simp] theorem State.raise_par : (s.raise code items).par = s.par := s.raiseAt_par code items s.stampNow
@[simp] theorem State.raise_out : (s.raise code items).out = s.out := s.raiseAt_out code items s.stampNow

@[simp] theorem State.raise_hif_rings : (s.raise code items).hif.rings = s.hif.rings := by rw [State.raise, s.raiseAt_frame code items s.stampNow]
@[simp] theorem State.raise_hif_fetched : (s.raise code items).hif.fetched = s.hif.fetched := by rw [State.raise, s.raiseAt_frame code items s.stampNow]
@[simp] theorem State.raise_hif_inExec : (s.raise code items).hif.inExec = s.hif.inExec := by rw [State.raise, s.raiseAt_frame code items s.stampNow]
@[simp] theorem State.raise_hif_known : (s.raise code items).hif.known = s.hif.known := by rw [State.raise, s.raiseAt_frame code items s.stampNow]
@[simp] theorem State.raise_hif_serial : (s.raise code items).hif.serial = s.hif.serial := by rw [State.raise, s.raiseAt_frame code items s.stampNow]
@[simp] theorem State.raise_hif_rrRing : (s.raise code items).hif.rrRing = s.hif.rrRing := by rw [State.raise, s.raiseAt_frame code items s.stampNow]
@[simp] theorem State.raise_hif_rrLeft : (s.raise code items).hif.rrLeft = s.hif.rrLeft := by rw [State.raise, s.raiseAt_frame code items s.stampNow]
@[simp] theorem State.raise_hif_pci : (s.raise code items).hif.pci = s.hif.pci := by rw [State.raise, s.raiseAt_frame code items s.stampNow]
@[simp] theorem State.raise_hif_cpls : (s.raise code items).hif.cpls = s.hif.cpls := by rw [State.raise, s.raiseAt_frame code items s.stampNow]
@[simp] theorem State.raise_hif_dropped : (s.raise code items).hif.dropped = s.hif.dropped := by rw [State.raise, s.raiseAt_frame code items s.stampNow]
@[simp] theorem State.raise_hif_msixPend : (s.raise code items).hif.msixPend = s.hif.msixPend := by rw [State.raise, s.raiseAt_frame code items s.stampNow]
@[simp] theorem State.raise_hif_busMaster : (s.raise code items).hif.busMaster = s.hif.busMaster := by rw [State.raise, s.raiseAt_frame code items s.stampNow]
@[simp] theorem State.raise_hif_fab : (s.raise code items).hif.fab = s.hif.fab := by rw [State.raise, s.raiseAt_frame code items s.stampNow]

end

/-- With room in the event buffer, an event's records stand at its end, in order. -/
theorem State.raise_evBuf (s : State) (code : Nat) (items : List Item)
    (h : s.hif.evBuf.length + (packItems [] items).length ≤ evBufSize) :
    (s.raise code items).hif.evBuf =
      s.hif.evBuf ++ evRecords s.devNum code s.stampNow false (packItems [] items) := by
  have hl : ∀ (c : Bool) (l : List (List Byte)), (evRecords s.devNum code s.stampNow c l).length = l.length := by
    intro c l
    induction l generalizing c with
    | nil => rfl
    | cons b bs ih => simp [evRecords, ih]
  unfold State.raise State.raiseAt
  simp only [hl, h, if_true]

/-- A completion changes nothing outside the host interface. -/
theorem State.finish_eq (s : State) (i : DescId) (d : Done) : ∃ x : Hif, s.finish i d = { s with hif := x } := by
  unfold State.finish
  simp only
  split
  · exact ⟨_, rfl⟩
  · unfold State.dropCpl State.left
    simp only
    obtain ⟨b, l, m, h⟩ := State.raiseAt_eq _ 0x0106 _ _
    rw [State.raise, h]
    exact ⟨_, rfl⟩

/-- Outside the host interface a completion leaves the state as it was. -/
theorem State.finish_frame (s : State) (i : DescId) (d : Done) : s.finish i d = { s with hif := (s.finish i d).hif } := by
  obtain ⟨x, h⟩ := s.finish_eq i d
  rw [h]

section
variable (s : State) (i : DescId) (d : Done)

@[simp] theorem State.finish_pending : (s.finish i d).pending = s.pending := by rw [s.finish_frame i d]
@[simp] theorem State.finish_regs : (s.finish i d).regs = s.regs := by rw [s.finish_frame i d]
@[simp] theorem State.finish_tim : (s.finish i d).tim = s.tim := by rw [s.finish_frame i d]
@[simp] theorem State.finish_pins : (s.finish i d).pins = s.pins := by rw [s.finish_frame i d]
@[simp] theorem State.finish_pwr : (s.finish i d).pwr = s.pwr := by rw [s.finish_frame i d]
@[simp] theorem State.finish_aon : (s.finish i d).aon = s.aon := by rw [s.finish_frame i d]
@[simp] theorem State.finish_flash : (s.finish i d).flash = s.flash := by rw [s.finish_frame i d]
@[simp] theorem State.finish_keys : (s.finish i d).keys = s.keys := by rw [s.finish_frame i d]
@[simp] theorem State.finish_nvm : (s.finish i d).nvm = s.nvm := by rw [s.finish_frame i d]
@[simp] theorem State.finish_cfg : (s.finish i d).cfg = s.cfg := by rw [s.finish_frame i d]
@[simp] theorem State.finish_scb : (s.finish i d).scb = s.scb := by rw [s.finish_frame i d]
@[simp] theorem State.finish_fab : (s.finish i d).fab = s.fab := by rw [s.finish_frame i d]
@[simp] theorem State.finish_dvm : (s.finish i d).dvm = s.dvm := by rw [s.finish_frame i d]
@[simp] theorem State.finish_member : (s.finish i d).member = s.member := by rw [s.finish_frame i d]
@[simp] theorem State.finish_sites : (s.finish i d).sites = s.sites := by rw [s.finish_frame i d]
@[simp] theorem State.finish_links : (s.finish i d).links = s.links := by rw [s.finish_frame i d]
@[simp] theorem State.finish_bus : (s.finish i d).bus = s.bus := by rw [s.finish_frame i d]
@[simp] theorem State.finish_snp : (s.finish i d).snp = s.snp := by rw [s.finish_frame i d]
@[simp] theorem State.finish_eng : (s.finish i d).eng = s.eng := by rw [s.finish_frame i d]
@[simp] theorem State.finish_vq : (s.finish i d).vq = s.vq := by rw [s.finish_frame i d]
@[simp] theorem State.finish_fm : (s.finish i d).fm = s.fm := by rw [s.finish_frame i d]
@[simp] theorem State.finish_par : (s.finish i d).par = s.par := by rw [s.finish_frame i d]
@[simp] theorem State.finish_out : (s.finish i d).out = s.out := by rw [s.finish_frame i d]

end

/-- With its completion ring enabled, a descriptor's completion waits at the end of those due. -/
theorem State.finish_cpls (s : State) (i : DescId) (d : Done) (h : (s.ring (s.cplRing i.ring)).en = true) :
    (s.finish i d).hif.cpls = s.hif.cpls ++ [
      ({ op := i.op, ring := i.ring, tag := i.tag, status := d.status, cause := d.cause, hop := d.hop, flags := d.flags,
         block := d.block, index := i.index, result := d.result, irq := i.irq, serial := i.serial } : Cpl)] := by
  unfold State.finish
  simp only [h, if_true]

/-- Applying one change per number of a list keeps whatever each change keeps. -/
theorem State.each_keeps {β : Type} (get : State → β) (f : State → Nat → State) (hf : ∀ s n, get (f s n) = get s)
    (l : List Nat) (s : State) : get (s.each l f) = get s := by
  unfold State.each
  induction l generalizing s with
  | nil => rfl
  | cons n l ih => rw [List.foldl_cons, ih, hf]

end Sys2Proof.Machine
end

