-- ==== Sys2Proof/Laws/Gate.lean ====
section
/-! SUPPORT. What the two gates do: a host access in each power state, and the gate of every descriptor row. -/

namespace Sys2Proof.Machine

/-- In Run a host access does only what it names. -/
theorem State.hostAccess_run (s : State) (f : State → State) (h : s.pwr.state = .run) : s.hostAccess f = f s := by
  unfold State.hostAccess
  rw [h]

/-- In Deep Sleep and Off a host access does nothing. -/
theorem State.hostAccess_unpowered (s : State) (f : State → State) (h : s.pwr.state = .deepSleep ∨ s.pwr.state = .off) :
    s.hostAccess f = s := by
  unfold State.hostAccess
  rcases h with h | h <;> rw [h]

/-- In Idle and Sleep a host access resumes or wakes the device first. -/
theorem State.hostAccess_resume (s : State) (f : State → State) (h : s.pwr.state = .idle ∨ s.pwr.state = .sleep) :
    s.hostAccess f = f (s.resume 3) := by
  unfold State.hostAccess
  rcases h with h | h <;> rw [h]

/-- A descriptor row that the gate lets start has its own effect, from the state in which it is in execution. -/
theorem State.runDesc_starts (s : State) (i : DescId) (fs : List (Nat × Nat × Nat)) (b : Bool) (body : DescId → State → State)
    (h : s.starts i fs b = true) : s.runDesc i fs b body = body (s.named i) (s.begun i) := by
  simp only [State.starts, Bool.and_eq_true, decide_eq_true_eq] at h
  have off (p : Prop) [Decidable p] (x y : State) (hp : ¬p) : (if p then x else y) = y := if_neg hp
  unfold State.runDesc State.begun
  match hx : s.fetchedAs i with
  | none => rw [off, off, off, off, off, off, off] <;> simp_all [or_iff_not_imp_left]
  | some f => rw [off, off, off, off, off, off, off] <;> simp_all [or_iff_not_imp_left]

/-! The state in which a descriptor's effect begins differs only in what waits and what is in execution. -/

section
variable (s : State) (i : DescId)

@[simp] theorem State.begun_pending : (s.begun i).pending = s.pending := rfl
@[simp] theorem State.begun_regs : (s.begun i).regs = s.regs := rfl
@[simp] theorem State.begun_tim : (s.begun i).tim = s.tim := rfl
@[simp] theorem State.begun_pins : (s.begun i).pins = s.pins := rfl
@[simp] theorem State.begun_pwr : (s.begun i).pwr = s.pwr := rfl
@[simp] theorem State.begun_aon : (s.begun i).aon = s.aon := rfl
@[simp] theorem State.begun_flash : (s.begun i).flash = s.flash := rfl
@[simp] theorem State.begun_keys : (s.begun i).keys = s.keys := rfl
@[simp] theorem State.begun_nvm : (s.begun i).nvm = s.nvm := rfl
@[simp] theorem State.begun_cfg : (s.begun i).cfg = s.cfg := rfl
@[simp] theorem State.begun_scb : (s.begun i).scb = s.scb := rfl
@[simp] theorem State.begun_fab : (s.begun i).fab = s.fab := rfl
@[simp] theorem State.begun_dvm : (s.begun i).dvm = s.dvm := rfl
@[simp] theorem State.begun_member : (s.begun i).member = s.member := rfl
@[simp] theorem State.begun_sites : (s.begun i).sites = s.sites := rfl
@[simp] theorem State.begun_links : (s.begun i).links = s.links := rfl
@[simp] theorem State.begun_bus : (s.begun i).bus = s.bus := rfl
@[simp] theorem State.begun_snp : (s.begun i).snp = s.snp := rfl
@[simp] theorem State.begun_eng : (s.begun i).eng = s.eng := rfl
@[simp] theorem State.begun_vq : (s.begun i).vq = s.vq := rfl
@[simp] theorem State.begun_fm : (s.begun i).fm = s.fm := rfl
@[simp] theorem State.begun_par : (s.begun i).par = s.par := rfl
@[simp] theorem State.begun_out : (s.begun i).out = s.out := rfl
@[simp] theorem State.begun_hif_rings : (s.begun i).hif.rings = s.hif.rings := rfl
@[simp] theorem State.begun_hif_known : (s.begun i).hif.known = s.hif.known := rfl
@[simp] theorem State.begun_hif_serial : (s.begun i).hif.serial = s.hif.serial := rfl
@[simp] theorem State.begun_hif_cpls : (s.begun i).hif.cpls = s.hif.cpls := rfl
@[simp] theorem State.begun_hif_dropped : (s.begun i).hif.dropped = s.hif.dropped := rfl
@[simp] theorem State.begun_hif_evBuf : (s.begun i).hif.evBuf = s.hif.evBuf := rfl
@[simp] theorem State.begun_hif_lost : (s.begun i).hif.lost = s.hif.lost := rfl
@[simp] theorem State.begun_hif_lostTime : (s.begun i).hif.lostTime = s.hif.lostTime := rfl
@[simp] theorem State.begun_hif_msixPend : (s.begun i).hif.msixPend = s.hif.msixPend := rfl
@[simp] theorem State.begun_hif_busMaster : (s.begun i).hif.busMaster = s.hif.busMaster := rfl
@[simp] theorem State.begun_hif_pci : (s.begun i).hif.pci = s.hif.pci := rfl
@[simp] theorem State.begun_hif_fab : (s.begun i).hif.fab = s.hif.fab := rfl

@[simp] theorem State.begun_ring (n : Nat) : (s.begun i).ring n = s.ring n := rfl

@[simp] theorem State.begun_cplRing (n : Nat) : (s.begun i).cplRing n = s.cplRing n := rfl

end

end Sys2Proof.Machine
end

