-- ==== Sys2Proof/Laws/Stop.lean ====
section
/-! SUPPORT. What asking a site to stop can do: it changes the site's run and what the side words still have to carry, nothing else. -/

namespace Sys2Proof.Machine

/-- A bit for the side words of a site's links changes nothing but what those words still have to carry. -/
theorem State.stamp_frame (s : State) (n kind c by_ : Nat) : s.stamp n kind c by_ = { s with bus := (s.stamp n kind c by_).bus } := by
  unfold State.stamp
  split <;> rfl

/-- A stop request changes nothing but the sites' runs and what the side words still have to carry. -/
theorem State.requestStop_frame (s : State) (n reason tick0 : Nat) :
    s.requestStop n reason tick0 = { s with sites := (s.requestStop n reason tick0).sites, bus := (s.requestStop n reason tick0).bus } := by
  unfold State.requestStop
  split
  · split
    · rw [State.stamp_frame]
      rfl
    · rfl
  · rfl

/-- An abort that a control of this device makes now changes what a stop request changes. -/
theorem State.abortNow_frame (s : State) (n reason : Nat) :
    s.abortNow n reason = { s with sites := (s.abortNow n reason).sites, bus := (s.abortNow n reason).bus } := by
  unfold State.abortNow
  split
  · exact s.requestStop_frame n reason _
  · rfl

end Sys2Proof.Machine
end

