-- ==== Sys2Proof/Tests/Slice0.lean ====
section
/-! SUPPORT. Tests: one check of each kind of well-formedness, the standards the spec names on published vectors, commands on small
states, and for every statement that has hypotheses a state and operands that meet them. -/

namespace Sys2Proof.Tests
set_option Elab.async false
open Sys2Proof Sys2Proof.Machine

/-- A 4 KiB block that begins with the bytes given, with its check value. -/
def mkb (bs : List Byte) : HostBlock :=
  let d := bs ++ List.replicate (4096 - bs.length) 0
  { data := d, check := crc32c d, err := none }
theorem mkb_check (bs : List Byte) : crc32c (mkb bs).data = (mkb bs).check := rfl
theorem mkb_wellFormed (bs : List Byte) (h : bs.length ≤ 4096) : (mkb bs).wellFormed = true := by
  simp only [mkb, HostBlock.wellFormed, List.length_append, List.length_replicate, beq_iff_eq]
  omega
/-- Such a block with a wrong check value. -/
def mkbad (bs : List Byte) : HostBlock := { mkb bs with check := (mkb bs).check + 1 }
theorem mkbad_check (bs : List Byte) : crc32c (mkbad bs).data ≠ (mkbad bs).check := by
  show crc32c (mkb bs).data ≠ crc32c (mkb bs).data + 1
  generalize crc32c (mkb bs).data = x
  bv_omega
theorem mkbad_wellFormed (bs : List Byte) (h : bs.length ≤ 4096) : (mkbad bs).wellFormed = true := mkb_wellFormed bs h
/-- The two ways a block of host data is bad: as the statements of 12 R360 and R361 say it. -/
theorem mkb_good (bs : List Byte) : ((mkb bs).err.any (fun e => decide (e.1 ≠ 0)) || decide (crc32c (mkb bs).data ≠ (mkb bs).check)) = false := by
  simp [mkb]
theorem mkbad_bad (bs : List Byte) : ((mkbad bs).err.any (fun e => decide (e.1 ≠ 0)) || decide (crc32c (mkbad bs).data ≠ (mkbad bs).check)) = true := by
  simp [mkbad_check]
/-- A block that reading it from host memory returned an error for. -/
def mkerr (bs : List Byte) : HostBlock := { mkb bs with err := some (1, 0) }
theorem mkerr_wellFormed (bs : List Byte) (h : bs.length ≤ 4096) : (mkerr bs).wellFormed = true := mkb_wellFormed bs h
/-- Behind the bytes that a block begins with it holds zeros. -/
theorem mkb_tail (bs : List Byte) (k : Nat) (h : bs.length ≤ k) : leAt (mkb bs).data k 1 = 0 := by
  have hz : ∀ x ∈ ((mkb bs).data.drop k).take 1, x = 0 := by
    intro x hx
    have hx := List.mem_of_mem_take hx
    simp only [mkb, List.drop_append, List.drop_of_length_le h, List.nil_append] at hx
    exact List.eq_of_mem_replicate (List.mem_of_mem_drop hx)
  have hl : (((mkb bs).data.drop k).take 1).length ≤ 1 := by simp
  match hm : ((mkb bs).data.drop k).take 1 with
  | [] => simp [leAt, hm, leNat]
  | [x] => simp [leAt, hm, leNat, hz x (by simp [hm])]
  | x :: y :: l => simp [hm] at hl
/-- A state with registers written. -/
def wr (s : State) (l : List (Nat × Nat)) : State := l.foldl (fun s p => s.setReg p.1 p.2) s
/-- The check value of a block of the deep vector memory; never evaluated here. -/
@[irreducible] def checkOf (bytes : SMap Byte) (b : Nat) : Nat := (crc32c (SMap.getList zeroByte bytes (4096 * b) 4096)).toNat
theorem blockOk_at (d : Dvm) (b c : Nat) (m : SMap Byte) (hb : b = c) (h1 : d.bytes = m) (h2 : d.check = [(c, checkOf m c)]) :
    d.blockOk b = true := by
  simp [Dvm.blockOk, Dvm.block, hb, h1, h2, SMap.get, checkOf]
theorem blockBad_at (d : Dvm) (b c : Nat) (m : SMap Byte) (hb : b = c) (h1 : d.bytes = m) (h2 : d.check = [(c, checkOf m c + 1)]) :
    d.blockOk b = false := by
  simp [Dvm.blockOk, Dvm.block, hb, h1, h2, SMap.get, checkOf]
theorem blockPasses_at (d : Dvm) (b c : Nat) (m : SMap Byte) (hb : b = c) (h1 : d.bytes = m) (h2 : d.check = [(c, checkOf m c)]) :
    d.blockFails ⟨0, []⟩ b = false := by
  simp [Dvm.blockFails, lineIn, blockOk_at d b c m hb h1 h2]
theorem blockFails_at (d : Dvm) (b c : Nat) (m : SMap Byte) (hb : b = c) (h1 : d.bytes = m) (h2 : d.check = [(c, checkOf m c + 1)]) :
    d.blockFails ⟨0, []⟩ b = true := by
  simp [Dvm.blockFails, blockBad_at d b c m hb h1 h2]
/-- The descriptor that the tests start. -/
def d0 : DescRef := { ring := 0, index := 0, tag := 7, irq := false }
/-- A device that runs: ring 0 of each kind on, a design loaded and confirmed, the memory ready, time set. -/
def up : State := { State.reset with
  hif := { rings := [(0, { en := true }), (64, { en := true }), (128, { en := true })], busMaster := true, pci := { msix := true } }
  pins := { unread := false }
  regs := [(ringBase 0 + 8, 4), (ringBase 64 + 8, 4), (ringBase 128 + 8, 4)]
  tim := { started := true, locked := true, tick := 30000, value := 20000 * 2 ^ 40, set := true }
  pwr := { pllOn := true, coreClk := true, railReq := 850 }
  aon := { portHeld := false }
  cfg := { loaded := true, active := 0, live := true, phase := 4, confirmed := true }
  fab := { gsr := false, clocks := true, ports := true }
  dvm := { initDone := true, trained := true, parts := [(0, (0, 4)), (64, (8, 4))] }
  nvm := { journalBusy := false } }
/-- Site 3 with engines 0 and 1, site 5 with engine 40, and the run of site 3. -/
def inSite (r : Option Run) (devs : Nat) : State := { up with
  sites := [(3, { formed := true, devset := devs, counts := if devs = 1 then [2] else [2, 1], run := r }),
            (5, { formed := true, devset := 1, counts := [1] })]
  member := [(0, some 3), (1, some 3), (40, some 5)]
  eng := [(0, { seq := 1, cyc := 5, mem := [(0, 1)] }), (40, { cyc := 8 })] }
def preroll : Run := { phase := .preroll, desc := some (descId d0 0x14) }
def running : Run := { preroll with phase := .running, start := 40000 }
/-- An engine's registers such that a start finds nothing missing. -/
def okEng (s : State) (e : Nat) : State :=
  wr { s with pwr := { s.pwr with pclLevel := [(0, 2)] } } [(tsBase e 0 + 4, 2 ^ 31), (tsBase e 0 + 0x10, 128), (tsBase e 0, 0x305), (engBase e, 31)]
/-- Engine 0 alone in site 0, which runs, with registers of its own written. -/
def run1 : State := { up with
  sites := [(0, { formed := true, devset := 1, counts := [1], run := some { phase := .running, start := 100000 } })]
  member := [(0, some 0)], eng := [(0, { seq := 1 })] }
def eng1 (x : Engine) (l : List (Nat × Nat)) : State := wr { run1 with eng := [(0, x)] } (l.map fun p => (engBase 0 + p.1, p.2))
/-- A packet with its check value. -/
def pkt (ty sel eng seq : Nat) (ws : List Nat) : List Nat :=
  let l := (ws.length + ty * 2 ^ 16 + sel * 2 ^ 22 + eng * 2 ^ 24 + seq * 2 ^ 32) :: ws
  l ++ [seq * 2 ^ 32 + packetCrc (l ++ [seq * 2 ^ 32])]
def dsc (l : List Byte) : List Byte :=
  let b := l ++ List.replicate (60 - l.length) 0
  b ++ leBytes 4 (crc32c b).toNat
def gen3 : State := wr { up with hif := { up.hif with rings := [(0, { en := true, bell := 3 }), (64, { en := true })] } } [(0x100014, 0x80E)]
def cpl0 : Cpl := { op := 0x17, ring := 0, tag := 7, status := 0, cause := 0, hop := 0, flags := 0, block := 0, index := 0, result := [], irq := true }
def cplE : Cpl := { cpl0 with op := 0x40, tag := 7, irq := false }
def waitStart : FDesc := { serial := 1, ring := 0, index := 0, tag := 7, op := 0x14, fence := false, irq := false, dep := none, bytes := dsc ([0x14] ++ List.replicate 15 0 ++ [3]) }
def ev0 : EvRec := { cont := false, more := false, dev := 0, code := 0x0101, items := [1, 2, 3, 4, 5], time := 77 }
def fab0 : FabAccess := { off := 4, size := 4, write := false, value := 0, from_ := some 29950 }
def ctl0 : PciCtl := ⟨2, 2, 0, true, true, false, true, false, 0, 0, 0, 0, 0⟩
def slot1 : Slot := { valid := true, id := 77, policy := 1 }
def twoSlots : State := { up with flash := { slots := [(0, slot1), (1, slot1)] } }
def load0 : Load := { slot := 0, why := .boot 0, prev := 3 }
def loadSw : Load := { slot := 0, why := .switch (descId d0 0x21) true, prev := 1 }
/-- A staging whose header says 500,000 bytes and whose first section is a frame section. -/
def stg : Staging := {
  src := .host (descId d0 0x20) false false, slot := 1, blocks := 500, begun := true,
  bytes := List.replicate 16 0 ++ leBytes 4 500000 ++ List.replicate 44 0 ++
    xorBytes ((gcmPlain [] (List.replicate 12 0) (List.replicate 64 0)).take 16) ([4, 0, 0, 0] ++ leBytes 4 442368 ++ List.replicate 8 0) }
def job0 : LevelJob := { desc := descId d0 0x41, fabric := true, mask := 3, level := 1, waited := true, railWait := false }
def rec0 : Rec := List.replicate 31 0 ++ [1]
def fail0 : Fm := { inBuf := [rec0, rec0], coal := [(5, 3), (6, 1)], log := List.replicate 130 rec0, mem := [(0, 1), (3, 255)] }
def stall0 : Stall := { freeze := 50000, reason := 1, eng := 0, dev := 0, waiting := [(0, 1)] }
def own0 : Own := { word := 0x08000005, addr := 0, left := 5, takes := false, masked := false, double := false }
/-- A link that is up, carrying slot 0 for site 3. -/
def linked (s : State) (x : Link) : State := wr { s with links := [(2, x)] } [(linkBase 2 + 0x10, 0x83), (linkBase 2, 9)]
def link0 : Link := { state := 5, version := 2, lat := 20, rxSeq := 4, sent := [(7, [1, 2, 3])] }
def head0 : MsgHead := { link := 2, site := 3, dev := 1, seq := 4 }
/-- The visible time 400 ns after the present of `up`. -/
def soon : DatumTime := BitVec.ofNat 96 (visible (up.tim.value + 400 * 2 ^ 40))
def bulk0 : List Nat := pkt 0x30 0 0 5 [1, 2, 3]
def side (b : Nat) : BitVec 128 := BitVec.ofNat 128 (b + 2 ^ 96 * (crc32c (leBytes 12 b)).toNat)
def linkB : Link := { state := 5, unacked := [(9, bulk0)], bulkRx := 5 }
def bench0 : Bench := { id := 5, cap := 30000, timed := false, ovw := false, desc := some (descId d0 0x18) }
/-- Stream memory: a packet of two vectors for engine 3, then its end. -/
def streamMem : SMap Byte :=
  (wordBytes (pkt 1 0 3 7 [5, 6] ++ pkt 2 0 3 8 [])).zipIdx.filterMap fun p => if p.1 = 0 then none else some (8192 + p.2, p.1)
def vq0 : VRing := { st := 1, base := 8192, blocks := 2, exp := some 7, rd := 3, q := pkt 1 0 3 6 [1] }
def streaming (r : VRing) : State := wr { up with vq := [(3, { ring := r })], dvm := { up.dvm with bytes := streamMem, check := [(2, checkOf streamMem 2)] } } [(engBase 3 + 0x220, 0x401), (engBase 3 + 0x224, 8192), (engBase 3 + 0x22C, 2)]
/-- The same, its block with a wrong check value. -/
def streamingBad (r : VRing) : State := { streaming r with dvm := { up.dvm with bytes := streamMem, check := [(2, checkOf streamMem 2 + 1)] } }
def cq0 : List Nat := pkt 0x10 0 0 3 [10, 11]
def push0 (ws : List Nat) : Push := { desc := descId d0 4, words := ws }
def pushing (x : Par) : State := wr { up with par := [(1, x)] } [(parBase 1 + 0x22000, 1)]
def calBytes : List Byte := [0x30, 1, 2, 0, 8, 7, 6, 0] ++ List.replicate 8 0 ++
  (List.range 32).flatMap fun i => [BitVec.ofNat 8 i, 0, BitVec.ofNat 8 i, 0, 0, 0, 0, 0, 0, 0, 0, 0, 0, 0, 0, 0]
def buffered (q : Vq) (p : Par) : State := { up with vq := [(34, q)], par := [(1, p)] }
def rb0 : RbPend := { desc := descId d0 0x27, id := 9, net := 0, ovw := false }
/-- The same with its edge come, and with its millisecond over. -/
def rb1 : RbPend := { rb0 with shot := some ([(3, true)], 77) }
def rb2 : RbPend := { rb0 with timed := true }
/-- Ten pages of user sector 1 of bank 256 in one state, and slot 1 valid. -/
def pages10 (st : PageState) : State := { up with flash := { up.flash with
  pages := (List.range 10).map fun k => (pageKey 256 33 (5 + k), { state := st, data := [BitVec.ofNat 8 k], addr := pageKey 256 33 (5 + k) }), slots := [(1, { valid := true })] } }
def op0 : FlashOp := { erase := false, sector := 4, page := 7, data := [1, 2, 3], who := .user (descId d0 0x30) }
def nvmJob0 : NvmJob := { desc := descId d0 0x30, erase := false, bank := 256, sector := 33, left := 1, flags := 4 }
def inFlash (o : FlashOp) (j : NvmJob) (free : List Nat) (journal : List JEntry) : State := { up with
  nvm := { queue := [(256, [o])], jobs := [j], journalBusy := !journal.isEmpty }
  flash := { up.flash with free := SMap.set freeReset [] 256 free, journal := journal, map := [(256 * 128 + 33, 4)] } }
def trav0 : Traverse := { sig := false, swept := true, pos := 5 }
def scrubbing (x : Scb) : State := { up with
  scb := x, fab := { up.fab with sram := [(144 * 5, List.replicate 512 3)] },
  flash := { slots := [(0, { valid := true, sig := [(144 * 5, 2 ^ 127)] })], closure := 5 } }
/-- The same with a closure word. -/
def closed (s : State) (v : Nat) : State := { s with flash := { s.flash with closure := v } }
theorem closed_ok (s : State) (v : Nat) (h : v = s.closureValue) : (closed s v).closureValue = (closed s v).flash.closure := by
  have h1 : (closed s v).flash.closure = v := rfl
  have h2 : (closed s v).closureValue = s.closureValue := rfl
  rw [h1, h2, h]
def dvmGood : State := { up with dvm := { up.dvm with bytes := [(4100, 7)], check := [(1, (checkOf [(4100, 7)] 1))] } }
def dvmBad : State := { up with dvm := { up.dvm with bytes := [(4100, 7)], check := [(1, (checkOf [(4100, 7)] 1) + 1)] } }
def tick1 (s : State) : State := match step s with | .next t => t | _ => s
def kek : List Byte := (List.range 32).map (BitVec.ofNat 8)
/-- A staging that has not begun, and a header that no check of it refuses. -/
def stg0 : Staging := { src := .host (descId d0 0x20) false false, slot := 1, blocks := 123 }
def hdr0 : List Byte :=
  let h := leBytes 4 0x7D1E0C55 ++ [3, 1, 0, 0] ++ leBytes 8 77 ++ leBytes 4 500000 ++ leBytes 2 10 ++ leBytes 2 0x7A10 ++ List.replicate 36 0
  h ++ leBytes 4 (crc32c h).toNat
def body0 : List Byte := xorBytes ((gcmPlain kek (List.replicate 12 0) (List.replicate 64 0)).take 16) ([4, 0, 0, 0] ++ leBytes 4 442368 ++ List.replicate 8 0)
def keyed : State := { up with cfg := { up.cfg with fuseProgEn := true }, keys := { f0 := { prog := true, key := kek } }, flash := { up.flash with keyEn := 7 } }
def stgDone : Staging := { stg with ready := true }
def stgExt : Staging := { stg with src := .host (descId d0 0x20) true false }
/-- A load of slot 0, whose frame check table is that of its frames. -/
def releasing : State := { twoSlots with
  cfg := { up.cfg with load := some load0 },
  flash := { slots := [(0, { slot1 with checks := (List.range 256).map fun b => (b, twoSlots.flash.bankCheck b 0) })] } }
theorem get_map_keys (f : Nat → Nat) (l : List Nat) (b : Nat) (h : b ∈ l) :
    SMap.get zeroNat (l.map fun k => (k, f k)) b = f b := by
  induction l with
  | nil => cases h
  | cons x xs ih =>
    simp only [List.map_cons, SMap.get]
    split
    · next e => rw [e]
    · next e => exact ih ((List.mem_cons.mp h).resolve_left fun q => e q.symm)
theorem bankCheck_pages (f g : Flash) (b n : Nat) (h1 : f.pages = g.pages) (h2 : f.map = g.map) : f.bankCheck b n = g.bankCheck b n := by
  simp only [Flash.bankCheck, Flash.frame, Flash.page, Flash.phys, h1, h2]
theorem median_sorted (xs : List Nat) (c : Nat) (h : xs.Pairwise (fun a b => a ≤ b)) (h1 : xs.getD 31 0 = c) (h2 : xs.getD 32 0 = c) :
    median64 xs = c := by
  have hx : xs.mergeSort (· ≤ ·) = xs := List.mergeSort_of_pairwise (by simpa using h)
  simp only [median64, hx, h1, h2, if_true]
theorem goodBlocks (l : List (List Byte)) (h : ∀ x ∈ l, x.length ≤ 4096) :
    ∀ b ∈ l.map mkb, b.wellFormed = true ∧ b.err = none ∧ crc32c b.data = b.check := by
  intro b hb
  obtain ⟨x, hx, rfl⟩ := List.mem_map.mp hb
  exact ⟨mkb_wellFormed x (h x hx), rfl, rfl⟩
/-- A member block that names engines 1 and 2 of parcel 0 and engine 32 for one device, and no other device. -/
def members (dev : Nat) : List Byte :=
  leBytes 2 (2 ^ dev) ++ [1] ++ List.replicate 61 0 ++ List.replicate (128 * dev) 0 ++ leBytes 4 6 ++ leBytes 4 1
theorem members_rest (k : Nat) (h2 : 3 ≤ k) (h3 : k < 64 ∨ 2112 ≤ k) : leAt (mkb (members 0)).data k 1 = 0 := by
  have h : ∀ k < 64, 3 ≤ k → leAt (mkb (members 0)).data k 1 = 0 := by decide +kernel
  rcases h3 with h3 | h3
  · exact h k h3 h2
  · exact mkb_tail _ k (Nat.le_trans (by decide +kernel) h3)
theorem stg_body : ({ stg with bytes := stg.bytes ++ (mkb []).data } : Staging).body.bad = none := by decide +kernel

/-! Standards on published vectors (00 R8, 10 R298), and examples the chapters work out. -/

/-- The check value of the digits 1 to 9 that every CRC-32C catalogue lists. -/
theorem test_crc32c : crc32c [0x31, 0x32, 0x33, 0x34, 0x35, 0x36, 0x37, 0x38, 0x39] = 0xE3069283 := by decide +kernel
/-- FIPS 197, C.3. -/
theorem test_aes256 : aes256 kek ((List.range 16).map fun k => BitVec.ofNat 8 (17 * k)) =
    [0x8E, 0xA2, 0xB7, 0xCA, 0x51, 0x67, 0x45, 0xBF, 0xEA, 0xFC, 0x49, 0x90, 0x4B, 0x49, 0x60, 0x89] := by decide +kernel
/-- 09, example: user offset 0x12_8000 lies in bank sector 69 of bank 256, and 0x12_8600 in its page 3. -/
theorem test_userPlace : userPlace 0x128000 = (256, 69, 0) ∧ userPlace 0x128600 = (256, 69, 3) := by decide
/-- 11, example: the nominal times, in microseconds, of a full traverse and of one of 4,800 frames. -/
theorem test_scbNominal : State.reset.nominalUs cfgFrames = 9956 ∧ State.reset.nominalUs 4800 = 1730 := by decide +kernel

/-- The word that engine 0 owns after a command at its boundary. -/
def wordOf (o : Host.Outcome State Fault Refusal) : Option Nat :=
  match o with | .next t => (t.e 0).own.map (·.word) | _ => none
def ready : State := eng1 { seq := 1, next := 3, body := none } []
def inBody : State := eng1 { seq := 1, next := 3, body := some { limit := 1992, site := false, body := 3, depth := 0 } } []
/-- 03, example of the timed match loop: the words of its program. -/
theorem test_words : wordOf (execWait 0 (.imm 18) ready) = some 0x0C000012 ∧ wordOf (execMatchOpen 0 true false (.imm 1991) ready) = some 0x2A0007C7 ∧
    wordOf (execRpt 0 (.imm 0) inBody) = some 0x08000000 ∧ wordOf (execEndm 0 true inBody) = some 0x2E000000 ∧
    wordOf (execSync 0 true 1 ready) = some 0x32000001 ∧ wordOf (execMark 0 true 0x0E01 ready) = some 0x3E000E01 := by decide +kernel
theorem test_bfl : wordOf (execBfl 0 true false false 6 8 ready) = some 0x26600008 := by decide +kernel

/-- Parcel 0 tracks drift, with replica reference 3,200 at level 3 and level 2. -/
def quiet : State := wr { up with pwr := { up.pwr with pclLevel := [(0, 2)] } } [(0x1024024, 3200), (0x1024100, 0x000F1801)]
/-- 07, example: the targets of three evaluations. -/
theorem test_drift : ((driftEvaluation 0 3230 [(9500, 0)] 61 quiet).p 0).target = -2 ∧ ((driftEvaluation 0 3285 [(53500, 0)] 61 quiet).p 0).target = -5 ∧
    ((driftEvaluation 0 3205 [(2000, 250)] 61 quiet).p 0).target = 0 := by decide +kernel

/-! One term that each check of WellFormed refuses. -/

theorem test_illFormed_block : (Instr.siteForm d0 0 { data := [0], check := 0, err := none }).wellFormed = false := by decide
theorem test_illFormed_fetch : (Instr.descriptorFetch 0 { descs := [[0]], err := none }).wellFormed = false := by decide
theorem test_illFormed_packet : (Instr.bulkPacket 0 (List.replicate 257 0)).wellFormed = false := by decide +kernel
theorem test_illFormed_write : (Instr.registerWrite { off := 0, size := 1, value := 256 }).wellFormed = false := by decide
theorem test_illFormed_access : (Instr.fabWindowAccess 0 1 true 256).wellFormed = false := by decide
theorem test_wellFormed_write : (Instr.registerWrite { off := 0, size := 1, value := 255 }).wellFormed = true := by decide
theorem test_illFormed_faults : execSiteForm d0 0 { data := [0], check := 0, err := none } up = .fault .illFormed := rfl

/-! What a range violation needs (OutOfRangeOperandsDoNothing): the completion ring on, and one operand out of range in each clause. -/

theorem witness_OutOfRangeOperandsDoNothing :
    (up.pwr.state = .run ∧ (mkb []).wellFormed = true) ∧
    (∀ op ∈ [0x01, 0x04, 0x30, 0x03, 0x10, 0x11, 0x19, 0x1A, 0x1B, 0x1C, 0x20, 0x21, 0x23, 0x24, 0x25, 0x28, 0x41, 0x02], up.cplOn (descId d0 op)) ∧ (∀ i f, up.otherBytes i f = false) ∧
    (1 : Quad).toNat % 4096 ≠ 0 ∧ (0 : Word).toNat < 8 ∧ 1024 < (1000 : BitVec 16).toNat + (1000 : BitVec 16).toNat ∧ (5 : Word).toNat % 8 ≠ 0 ∧
    2 ≤ (3 : Byte).toNat ∧ ((0 : Byte).toNat < 16 ∧ (0 : Word).toNat = 0) ∧ 3 ≤ (3 : Byte).toNat ∧
    ((1 : Byte).toNat < 3 ∧ (0 : Byte).toNat = 0 ∧ (0 : Word).toNat = 0) ∧ (0 : BitVec 16).toNat = 0 ∧
    ((1 : Byte).toNat < 4 ∧ 4 ≤ (4 : Byte).toNat) ∧ (⟨4096, 1, 1⟩ : DataOut).checks.toNat % 4 ≠ 0 :=
  ⟨⟨rfl, mkb_wellFormed _ (by decide)⟩, by decide +kernel, fun _ _ => rfl, by decide +kernel⟩

theorem witness_CommandsLeaveTheQueue : exec (.levelRailTimeout 0 0) State.reset = .next State.reset := rfl


/-! The states of the witnesses below. -/

def s1 : State := { up with pending := [.wakeLand 0] }
def s2 : State := { up with pwr := { up.pwr with state := .sleep } }
def s3 : State := { up with keys := { f0 := { prog := true }, f1 := { revoked := true } }, pwr := { up.pwr with state := .off } }
def s4 : State := wr up [(0x100014, 0x20E)]
def s5 : State := { up with hif := { up.hif with rings := [(0, { en := true }), (64, { en := true, idx := 7, bell := 3 })] } }
def s6 : State := wr { up with hif := { up.hif with cpls := [cpl0], inExec := [{ ring := 0, index := 0, tag := 7, op := 0x17 }] } } [(0x100014, 0x80E)]
def s7 : State := { up with hif := { up.hif with evBuf := [ev0] } }
def s8 : State := { up with par := [(0, { fq := { q := pkt 0x20 0 0 3 [1, 2, 3, 4] } })] }
def s9 : State := { up with hif := { up.hif with rings := [] } }
def s10 : State := wr { up with hif := { up.hif with rings := [(67, { en := true, timer := some 5, since := 3 })] } } [(0xA00C, 0), (ringBase 67 + 12, 0x50001)]
def s11 : State := { up with hif := { up.hif with fab := [fab0, fab0] } }
def s12 : State := { up with fab := {}, hif := { up.hif with fab := [fab0] } }
def s13 : State := { up with hif := { up.hif with fab := [{ fab0 with from_ := some 20000 }] } }
def s14 : State := { up with pins := { up.pins with tamper := [(1, true)] } }
def s16 : State := { up with cfg := { up.cfg with phase := 1, active := 0 }, pins := { pin := [(3, { boot := false })] }, flash := { slots := [(0, slot1)] } }
def s17 : State := { up with cfg := { up.cfg with phase := 2, active := 0 }, pins := { pin := [(3, { boot := false })] }, flash := { slots := [(0, slot1)] } }
def s18 : State := { up with cfg := { up.cfg with phase := 3, active := 0 }, pins := { pin := [(3, { boot := false })] }, flash := { slots := [(0, slot1)] } }
def s19 : State := { releasing with nvm := { up.nvm with journalBusy := true } }
def s20 : State := { up with cfg := { up.cfg with load := some loadSw } }
def s21 : State := { up with cfg := { up.cfg with released := some load0 } }
def s23 : State := { twoSlots with cfg := { twoSlots.cfg with base := true }, pwr := { twoSlots.pwr with pclOn := 5 } }
def s24 : State := { up with cfg := { up.cfg with stage := some (stg : Staging) } }
def s25 : State := { up with cfg := { up.cfg with stage := some (stgDone : Staging) } }
def s27 : State := { up with cfg := { up.cfg with stage := some ({ stgDone with src := .boot true } : Staging) } }
def s30 : State := { keyed with cfg := { up.cfg with stage := some stg0 } }
def s31 : State := { up with cfg := { up.cfg with stage := some stg } }
def s32 : State := { up with cfg := { up.cfg with live := false }, fab := { up.fab with rbHeld := true } }
def s33 : State := { up with cfg := { up.cfg with jtagCtl := 5 } }
def s34 : State := { twoSlots with cfg := { twoSlots.cfg with jtagCtl := 6 } }
def s35 : State := { twoSlots with cfg := { twoSlots.cfg with base := true } }
def s36 : State := { twoSlots with cfg := { twoSlots.cfg with stage := some { stg with src := .jtag } } }
def s37 : State := wr up [(0x600000, 2 + 0x10000 + 0x10 + 0x80)]
def s38 : State := { up with hif := { up.hif with pci := { msix := true, ptm := true } } }
def s39 : State := { up with cfg := {}, fab := {} }
def s40 : State := tick1 ({ up with cfg := {}, fab := {} })
def s41 : State := tick1 (tick1 ({ up with cfg := {}, fab := {} }))
def s42 : State := tick1 (tick1 (tick1 ({ up with cfg := {}, fab := {} })))
def s43 : State := { up with tim := { up.tim with tick := 65536, pendRate := some 9 } }
def s44 : State := { up with tim := { up.tim with tick := 65536, pendStep := some .set } }
def s45 : State := { run1 with sites := [(0, { formed := true, devset := 1, counts := [1], run := some { phase := .preroll, timed := some (2 ^ 60) } })], tim := { up.tim with tick := 65536, pendStep := some .adjust } }
def s46 : State := wr { up with hif := { up.hif with pci := { ptm := true } }, tim := { up.tim with value := 5 * (1000000000 * 2 ^ 40), tick := 2000000000, ptm := [3, 4], ppsLast := some 5, ppsOut := true, armed := some 7, followLock := true } } [(0x600000, 2 + 0x10000 + 0x10 + 0x80)]
def s47 : State := { (wr { up with hif := { up.hif with pci := { ptm := true } }, tim := { up.tim with value := 5 * (1000000000 * 2 ^ 40), tick := 2000000000, ptm := [3, 4], ppsLast := some 5, ppsOut := true, armed := some 7, followLock := true } } [(0x600000, 2 + 0x10000 + 0x10 + 0x80)]) with hif := up.hif }
def s48 : State := wr { (wr { up with hif := { up.hif with pci := { ptm := true } }, tim := { up.tim with value := 5 * (1000000000 * 2 ^ 40), tick := 2000000000, ptm := [3, 4], ppsLast := some 5, ppsOut := true, armed := some 7, followLock := true } } [(0x600000, 2 + 0x10000 + 0x10 + 0x80)]) with tim := { up.tim with value := 5 * (1000000000 * 2 ^ 40), set := true, armed := some (2 ^ 80) } } [(0x600000, 0x80)]
def s49 : State := { up with pins := { pin := [(5, { boot := false })] } }
def s50 : State := { up with pins := { pin := [(5, { boot := false, hold := some (true, true) })] } }
def s51 : State := wr up [(0x700310, 0x20)]
def s52 : State := { up with pins := { keyStage := 1 } }
def s53 : State := { up with pins := { keyStage := 2 } }
def s54 : State := { up with hif := { up.hif with inExec := [{ ring := 3, index := 0, tag := 0, op := 1 }] } }
def s55 : State := { up with nvm := { up.nvm with queue := [(256, [{ op0 with started := true }])] } }
def s56 : State := { up with cfg := { up.cfg with load := some load0 } }
def s57 : State := { up with cfg := { up.cfg with base := true } }
def s58 : State := { up with pwr := { up.pwr with entryWait := some (descId d0 0x40, .idle, 0) }, hif := { up.hif with cpls := [cplE] } }
def s59 : State := { up with pwr := { up.pwr with entering := some .deepSleep, mask := 1 } }
def s61 : State := { up with pwr := { up.pwr with state := .deepSleep } }
def s62 : State := { up with aon := {} }
def s63 : State := { up with pwr := { up.pwr with state := .off } }
def s64 : State := { up with pwr := { up.pwr with state := .idle } }
def s65 : State := { up with pwr := { up.pwr with state := .idle }, aon := { up.aon with pwrGood := false }, hif := { up.hif with pci := { aspm := true } } }
def s68 : State := { up with pwr := { up.pwr with state := .sleep, entering := some .off }, aon := { up.aon with wakeEn := 0, hot := true } }
def s69 : State := { up with pwr := { up.pwr with state := .off }, aon := { up.aon with pwrGood := false }, hif := { up.hif with pci := { aspm := true } } }
def s70 : State := { up with pwr := { up.pwr with state := .off, entering := some .off }, aon := { up.aon with wakeEn := 0, hot := true } }
def s73 : State := { up with pwr := { up.pwr with state := .run } }
def s75 : State := { up with pwr := { up.pwr with state := .run, entering := some .off }, aon := { up.aon with wakeEn := 0, hot := true } }
def s76 : State := { up with pwr := { up.pwr with jobs := [job0] } }
def s77 : State := { run1 with pwr := { up.pwr with jobs := [{ job0 with mask := 1 }] } }
def s78 : State := { up with pwr := { up.pwr with jobs := [{ job0 with railWait := true }] } }
def s80 : State := { up with tim := { up.tim with locked := false } }
def s81 : State := { up with tim := { up.tim with locked := false }, pwr := { up.pwr with clkWait := some (descId d0 0x42) } }
def s83 : State := { up with tim := { up.tim with locked := false }, pwr := { up.pwr with fromSleep := true } }
def s84 : State := { up with tim := { up.tim with locked := false }, hif := { up.hif with fetched := [waitStart] } }
def s85 : State := { run1 with pwr := { run1.pwr with warn := true } }
def s86 : State := { run1 with pwr := { run1.pwr with tripped := true } }
def s87 : State := { run1 with pwr := { up.pwr with state := .sleep } }
def s88 : State := wr up [(0x700F04, 3)]
def s89 : State := { up with pins := { up.pins with failOut := [(1, true)] } }
def s90 : State := wr { up with pins := { pin := [(10, { boot := false, func := 3 })], spi := [(2, { busy := true })] } } [(0x700620, 7 * 1024)]
def s92 : State := wr ({ up with pins := { pin := [(10, { boot := false, func := 4 })] } }) [(0x700500, 1), (0x700028, 4)]
def s93 : State := wr { run1 with pins := { pin := [(10, { boot := false, func := 4 })] } } [(0x700500, 5), (0x700028, 4)]
def s94 : State := wr { up with fm := [(2, fail0)], dvm := { up.dvm with parts := [(34, (0, 4))] } } [(parBase 2 + 0x20000, 1)]
def s95 : State := wr { up with fm := [(2, { fail0 with log := List.replicate 450 rec0 })], dvm := { up.dvm with parts := [(34, (0, 4))] } } [(parBase 2 + 0x20000, 31 * 256)]
def s98 : State := wr { up with fm := [(2, { spillN := 1 : Fm })], dvm := { up.dvm with parts := [(34, (0, 4))] } } [(parBase 2 + 0x20000, 31 * 256)]
def s99 : State := wr { up with fm := [(2, fail0)] } [(parBase 2 + 0x20000, 256)]
def s100 : State := { up with pwr := { up.pwr with pclOn := 1 } }
def s101 : State := { run1 with member := [(64, some 0)] }
def s102 : State := eng1 { seq := 1, next := 3, loops := [(1, 2)], calls := [9] } []
def s103 : State := eng1 { seq := 1, next := 3, loops := [(2, 2)] } []
def s104 : State := eng1 { seq := 1, next := 3, loops := [(2, 2)], body := some { limit := 3, site := true, body := 5, depth := 1, win := some 0 } } []
def s108 : State := eng1 { seq := 1, next := 3 } [(0x24, 0xFFFFFFFF)]
def s109 : State := inSite none 1
def s110 : State := inSite (some running) 1
def s112 : State := okEng (okEng (inSite none 1) 0) 1
def s114 : State := inSite (some preroll) 1
def s115 : State := inSite (some { preroll with timed := some (visible (2 ^ 62)) }) 1
def s116 : State := inSite (some preroll) 3
def s117 : State := { inSite none 1 with pwr := { up.pwr with jobs := [{ job0 with railWait := true }] } }
def s118 : State := { inSite (some preroll) 1 with tim := { up.tim with locked := false } }
def s119 : State := inSite (some { preroll with timed := some 5, lateOk := true }) 1
def s120 : State := inSite (some { preroll with timed := some 5 }) 1
def s121 : State := inSite (some ({ preroll with phase := .scheduled, start := 400000 } : Run)) 1
def s122 : State := inSite (some ({ preroll with phase := .committed, start := 400000 } : Run)) 1
def s123 : State := inSite (some ({ preroll with phase := .draining, endAt := 110000 } : Run)) 1
def s124 : State := inSite (some ({ preroll with phase := .draining, endAt := 110000 } : Run)) 3
def s125 : State := inSite (some ({ preroll with phase := .draining, endAt := 110000, up := some 2, readies := [3] } : Run)) 3
def s126 : State := inSite (some ({ preroll with phase := .draining, endAt := 110000, up := some 2 } : Run)) 3
def s127 : State := { inSite (some ({ preroll with phase := .draining } : Run)) 1 with fm := [(0, fail0)] }
def s128 : State := inSite (some { running with stop := some (3, 50000) }) 1
def s129 : State := inSite (some { running with err := some 50000 }) 1
def s130 : State := { okEng (inSite (some (running : Run)) 1) 0 with eng := [(0, { seq := 1, src := 1 })] }
def s132 : State := { okEng (inSite (some ({ running with stall := some stall0 } : Run)) 1) 0 with eng := [(0, { seq := 3, src := 1, pos := 256 * 70, stallCh := true })] }
def s133 : State := { inSite (some ({ running with stall := some stall0 } : Run)) 1 with eng := [(0, { seq := 3, src := 1, pos := 256 * 70, stallCh := true })], sites := [(3, { formed := true, devset := 1, counts := [2], run := some ({ running with stall := some stall0 } : Run), abort := true })] }
def s134 : State := { okEng (inSite (some ({ running with stall := some { stall0 with waiting := [], frozen := true } } : Run)) 1) 0 with eng := [(0, { seq := 3, src := 1, pos := 256 * 70, stallCh := true })] }
def s136 : State := { okEng (inSite (some ({ running with stall := some { stall0 with waiting := [], frozen := true, resume := some 60000 } } : Run)) 1) 0 with eng := [(0, { seq := 3, src := 1, pos := 256 * 70, stallCh := true })] }
def s138 : State := { okEng (inSite (some (running : Run)) 1) 0 with eng := [(0, { seq := 1, src := 1, own := some { own0 with takes := true }, pos := 256 * 20000, inPeriod := true })] }
def s140 : State := { okEng (inSite (some ({ running with stall := some { stall0 with waiting := [] } } : Run)) 1) 0 with eng := [(0, { seq := 1, src := 1, own := some { own0 with takes := true }, pos := 256 * 20000, inPeriod := true })] }
def s142 : State := { okEng (inSite (some ({ running with stall := some { stall0 with waiting := [], devs := [1] } } : Run)) 1) 0 with eng := [(0, { seq := 1, src := 1 })] }
def s144 : State := { okEng (inSite (some ({ running with up := some 2, stall := some { stall0 with waiting := [(0, 3)] } } : Run)) 1) 0 with eng := [(0, { seq := 1, src := 1 })] }
def s148 : State := { okEng (okEng (inSite (some running) 1) 0) 1 with eng := [(0, { seq := 1, own := some own0, pos := 256 * 40, inPeriod := true, cyc := 4 })] }
def s149 : State := { okEng (okEng (inSite (some running) 1) 0) 1 with eng := [(0, { seq := 1, mem := [(3, 4)] })] }
def s150 : State := wr { inSite (some running) 1 with eng := [(0, { seq := 2, arrive := some (1, 10) }), (1, { seq := 2, arrive := some (1, 20) })] } [(engBase 0 + 8, 1), (engBase 1 + 8, 1)]
def s152 : State := wr { inSite (some { running with up := some 2 }) 3 with eng := [(0, { seq := 2, arrive := some (1, 10) }), (1, { seq := 2, arrive := some (1, 20) })] } [(engBase 0 + 8, 1), (engBase 1 + 8, 1)]
def s153 : State := wr { inSite (some { running with arrived := [(1, 1)] }) 3 with eng := [(0, { seq := 2, arrive := some (1, 10) }), (1, { seq := 2, arrive := some (1, 20) })] } [(engBase 0 + 8, 1), (engBase 1 + 8, 1)]
def s154 : State := wr { inSite (some { running with releaseAt := [(1, 60000)] }) 3 with eng := [(0, { seq := 2, arrive := some (1, 10) }), (1, { seq := 2, arrive := some (1, 20) })] } [(engBase 0 + 8, 1), (engBase 1 + 8, 1)]
def s155 : State := linked (okEng (okEng (inSite none 3) 0) 1) link0
def s157 : State := linked (okEng (okEng (inSite (some preroll) 3) 0) 1) link0
def s158 : State := linked (okEng (okEng (inSite (some { preroll with up := some 2, phase := .ready }) 3) 0) 1) link0
def s159 : State := linked (okEng (okEng (inSite (some { preroll with up := some 2, phase := .ready, desc := none }) 3) 0) 1) link0
def s160 : State := linked (okEng (okEng (inSite (some running) 3) 0) 1) link0
def s161 : State := linked (okEng (okEng (inSite (some { running with stall := some { stall0 with devs := [1], waiting := [] } }) 3) 0) 1) link0
def s163 : State := linked (okEng (okEng (inSite (some { running with up := some 2, stall := some { stall0 with devs := [1], waiting := [] } }) 3) 0) 1) link0
def s164 : State := wr (linked { up with tim := { up.tim with tickSeen := true, tickB := 30000 } } link0) [(0x600000, 2 + 4 * 2)]
def s165 : State := wr (linked up link0) [(0x600000, 2 + 4 * 2)]
def s166 : State := wr { up with links := [(2, {})] } [(0x800000, 3), (linkBase 2, 8)]
def s167 : State := wr { up with links := [(2, { state := 1 })] } [(0x800000, 3), (linkBase 2, 9)]
def s168 : State := wr { up with links := [(2, { state := 5 })] } [(0x800000, 3), (linkBase 2, 9)]
def s169 : State := linked (wr { up with sites := [(3, { formed := true, run := some preroll })] } [(linkBase 2, 9)]) link0
def s170 : State := wr { up with links := [(2, { state := 5, deferRetrain := true })] } [(0x800000, 3), (linkBase 2, 9)]
def s171 : State := wr { up with links := [(2, { state := 1, lanes := 15, locks := 11 })] } [(0x800000, 3), (linkBase 2, 9)]
def s174 : State := wr { up with links := [(2, { state := 3, devNum := 3, locks := 15 })] } [(0x800000, 3), (linkBase 2, 9)]
def s175 : State := wr { up with links := [(2, { state := 4, devNum := 3, locks := 15, samples := List.replicate 63 20 })] } [(0x800000, 3), (linkBase 2, 9)]
def s176 : State := wr { up with links := [(2, { state := 4, devNum := 3, locks := 15, samples := List.replicate 5 20, doneOut := true })] } [(0x800000, 3), (linkBase 2, 9)]
def s177 : State := wr { up with links := [(2, { state := 1, lanes := 3, locks := 11 })] } [(0x800000, 3), (linkBase 2, 9)]
def s178 : State := wr { up with links := [(2, { state := 2, lanes := 1, locks := 15 })] } [(0x800000, 3), (linkBase 2, 9)]
def s179 : State := wr { up with links := [(2, { state := 2, lanes := 11, locks := 15 })] } [(0x800000, 3), (linkBase 2, 9)]
def s180 : State := wr { up with links := [(2, { state := 3, devNum := 7, locks := 15 })] } [(0x800000, 3), (linkBase 2, 9)]
def s181 : State := wr { up with links := [(2, { state := 4, devNum := 3, locks := 15, samples := List.replicate 63 120 })] } [(0x800000, 3), (linkBase 2, 9)]
def s182 : State := linked (wr { up with sites := [(3, { formed := true, run := some preroll })] } [(linkBase 2, 9)]) { link0 with deferRetrain := true }
def s183 : State := wr { up with dvm := { up.dvm with check := [(32768, checkOf [] 32768)] }, links := [(2, linkB)] } [(0x800000, 3), (linkBase 2 + 0x10, 0x83), (linkBase 2, 9)]
def s184 : State := wr { up with dvm := { up.dvm with check := [(32768, checkOf [] 32768)] }, links := [(2, { linkB with copy := some { desc := descId d0 3, left := 1 } })] } [(0x800000, 3), (linkBase 2 + 0x10, 0x83), (linkBase 2, 9)]
def s185 : State := { wr { up with dvm := { up.dvm with check := [(32768, checkOf [] 32768)] }, links := [(2, { linkB with bulkRx := 6 })] } [(0x800000, 3), (linkBase 2 + 0x10, 0x83), (linkBase 2, 9)] with sites := (inSite (some running) 3).sites }
def s186 : State := wr { up with dvm := { up.dvm with check := [(32768, checkOf [] 32768)] }, links := [(2, { linkB with badRun := 1 })] } [(0x800000, 3), (linkBase 2 + 0x10, 0x83), (linkBase 2, 9)]
def s188 : State := { wr { up with dvm := { up.dvm with check := [(32768, checkOf [] 32768)] }, links := [(2, linkB)] } [(0x800000, 3), (linkBase 2 + 0x10, 0x83), (linkBase 2, 9)] with dvm := { up.dvm with check := [(32768, checkOf [] 32768 + 1)] } }
def s190 : State := { up with links := [(2, { state := 5, version := 2 })], eng := [(3, { cyc := 7 })] }
def s191 : State := { up with links := [(2, { state := 5, version := 2 })], eng := [(3, { cyc := 7 })], snp := { unread := true, lastId := 5, shadows := [(3, { cyc := 9 })] } }
def s192 : State := { up with links := [(2, { state := 5, version := 2 })], eng := [(3, { cyc := 7 })], snp := { pend := some bench0 } }
def s193 : State := { up with links := [(2, { state := 5, version := 2 })], eng := [(3, { cyc := 7 })], snp := { flight := [bench0] } }
def s194 : State := { up with dvm := { up.dvm with trainOff := true } }
def s195 : State := { up with eng := [(33, { mem := [(5, 6), (9, 7)] })] }
def s196 : State := { up with eng := [(33, { mem := [(5, 6), (9, 7)] })], pwr := { up.pwr with pclOn := 1 } }
def s197 : State := { up with eng := [(33, { seq := 1 })], member := [(33, some 3)], sites := (inSite (some running) 1).sites }
def s198 : State := streaming vq0
def s201 : State := streaming { vq0 with pos := 1024 }
def s202 : State := streamingBad vq0
def s204 : State := streaming { vq0 with blocks := 0, pos := 1 }
def s206 : State := streaming { vq0 with q := List.replicate 510 1 }
def s207 : State := streaming { vq0 with exp := some 9 }
def s208 : State := { streaming vq0 with eng := [(3, { seq := 1 })], member := [(3, some 3)], sites := (inSite (some running) 1).sites }
def s211 : State := pushing { cq := { st := 1 } }
def s212 : State := pushing { cq := { st := 0 } }
def s213 : State := pushing { cq := { st := 1 }, push := some (push0 (cq0 ++ [0])) }
def s215 : State := pushing { cq := { st := 1, exp := some 9 }, push := some (push0 (cq0 ++ [0])) }
def s216 : State := pushing { cq := { st := 1, q := List.replicate 1022 1 }, push := some (push0 (cq0 ++ [0])) }
def s217 : State := pushing { cq := { st := 1 }, push := some (push0 [2000, 3]) }
def s218 : State := pushing { cq := { st := 1 }, push := some (push0 [5, 3]) }
def s219 : State := pushing { cq := { st := 1, q := cq0 }, cqShow := some (⟨10, true, false⟩), fq := { q := pkt 0x20 0 0 3 [1, 2, 3, 4], rd := 5 } }
def s220 : State := { pushing { cq := { st := 1, q := cq0 } } with member := [(32, some 3)], sites := (inSite (some running) 1).sites, eng := [(32, { seq := 1 })] }
def s222 : State := wr up [(0x900100, 0x07FF0001)]
def s223 : State := { up with dvm := { up.dvm with retrainReq := true } }
def s224 : State := { up with dvm := { up.dvm with trained := false } }
def s225 : State := { up with dvm := { up.dvm with initDone := false, bytes := [(3, 4)] } }
def s227 : State := wr up [(0x1000000 + 0x40000 + 0x23000 + 0x400 * 2, 500)]
def s229 : State := { up with member := [(35, some 3)], sites := (inSite (some running) 1).sites, eng := [(35, { seq := 1 })] }
def s230 : State := wr (buffered { buf := [⟨1, 0, 5⟩] } {}) [(parBase 1 + 0x20000, 1)]
def s231 : State := wr (buffered { buf := List.replicate 60 ⟨1, 0, 5⟩, rdy := false } { mq := [(3, true)], mardy := false }) [(parBase 1 + 0x20000, 1)]
def s232 : State := { buffered { buf := [⟨1, 0, 5⟩] } {} with fab := { up.fab with ramFlip := [(512 * 70 + 5, 2 ^ 7)], ramBack := [512 * 70 + 5] } }
def s233 : State := { buffered { buf := [⟨1, 0, 5⟩] } {} with member := [(35, some 3)], sites := (inSite (some running) 1).sites }
def s234 : State := { buffered { buf := [⟨1, 0, 5⟩] } {} with fab := { up.fab with clocks := false, ports := false } }
def s235 : State := { up with fab := { up.fab with gsr := true } }
def s237 : State := { up with fab := up.fab }
def s239 : State := { up with fab := { up.fab with rbPend := some rb0 } }
def s240 : State := { up with fab := { up.fab with rbHeld := true, rbId := 9, rbFf := [(3, true)] } }
def s241 : State := { up with fab := { up.fab with rbPend := some rb1 } }
def s243 : State := { up with fab := { up.fab with rbPend := some rb2 }, tim := { up.tim with value := 2000000 * 2 ^ 40 } }
def s244 : State := pages10 .programmed
def s245 : State := { pages10 .programmed with nvm := { up.nvm with jobs := [nvmJob0] } }
def s246 : State := { up with flash := { up.flash with sectors := [(256 * 128 + 33, { incomplete := true })] } }
def s247 : State := { up with nvm := { journalBusy := true } }
def s248 : State := inFlash (op0) (nvmJob0) [30, 31] []
def s249 : State := inFlash ({ op0 with started := true, pulses := 5 }) (nvmJob0) [] []
def s251 : State := inFlash ({ op0 with started := true, erase := true, winTicks := 1500000 }) ({ nvmJob0 with erase := true }) [] []
def s252 : State := inFlash ({ op0 with started := true, pulses := 32 }) (nvmJob0) [] []
def s253 : State := inFlash ({ op0 with started := true, erase := true, eraseUs := 4000 }) ({ nvmJob0 with erase := true }) [] []
def s254 : State := inFlash ({ op0 with started := true, pulses := 32 }) (nvmJob0) [31] []
def s256 : State := inFlash ({ op0 with started := true }) (nvmJob0) [31] []
def s257 : State := inFlash ({ op0 with started := true, erase := true }) ({ nvmJob0 with erase := true }) [31] []
def s258 : State := inFlash (op0) (nvmJob0) [] [.erase 256 9 true]
def s264 : State := { inFlash op0 nvmJob0 [] [] with nvm := { journalBusy := true } }
def s266 : State := { inFlash ({ op0 with sector := 9, page := 3, who := .retire, started := true, pulses := 5 }) nvmJob0 [] [] with nvm := { queue := [(256, [{ op0 with sector := 9, page := 3, who := .retire, started := true, pulses := 5 }])], jobs := [nvmJob0], journalBusy := false, retiring := [(256, some { op := op0, repl := 9 })] } }
def s267 : State := scrubbing { trav := some trav0 }
def s268 : State := { scrubbing { trav := some trav0 } with pwr := { up.pwr with grantScrub := false } }
def s271 : State := scrubbing { trav := some { trav0 with pos := 27647 } }
def s275 : State := scrubbing { trav := some trav0, stopping := true }
def s277 : State := scrubbing { restarting := true }
def s279 : State := scrubbing {}
def s281 : State := scrubbing { disabled := true }
def s283 : State := scrubbing { ctl := 0, copies := [{ ctl := 0 }, { ctl := 0 }, { ctl := 0 }] }
def s285 : State := closed (scrubbing { trav := some { trav0 with pos := 27647 } }) (scrubbing { trav := some { trav0 with pos := 27647 } }).closureValue

theorem arrivals (f a : Nat) (hf : f ∈ s150.engines 3) (_ : (s150.e f).seq = 2) (h : (s150.e f).arrive = some (1, a)) : a ≤ 20 := by
  have hk : ∀ f ∈ s150.engines 3, (s150.e f).arrive = some (1, 10) ∨ (s150.e f).arrive = some (1, 20) := by decide +kernel
  rcases hk f hf with q | q <;> rw [q] at h <;> cases h <;> decide

/-- States and operands that meet the hypotheses of StepRunsTheFrontCommand, for each of its clauses. -/
theorem witness_StepRunsTheFrontCommand :
    s1.pending = ((.wakeLand 0) : Instr) :: ([] : List Instr) := by decide +kernel

/-- States and operands that meet the hypotheses of TimePassesOnAnEmptyQueue, for each of its clauses. -/
theorem witness_TimePassesOnAnEmptyQueue :
    (up.pending = [] ∧ up.pwr.entryWait = none ∧ up.tim.started = true ∧ up.tim.locked = true ∧
      (up.pwr.state = .run ∨ up.pwr.state = .idle)) ∧
    (s2.pending = [] ∧ s2.pwr.entryWait = none ∧ s2.tim.started = true ∧
      (s2.pwr.state = .sleep ∨ ((s2.pwr.state = .run ∨ s2.pwr.state = .idle) ∧ s2.tim.locked = false))) ∧
    (State.reset.pending = [] ∧ State.reset.pwr.entryWait = none ∧
      (State.reset.tim.started = false ∨ State.reset.pwr.state = .deepSleep ∨ State.reset.pwr.state = .off)) := by and_intros <;> decide +kernel

/-- States and operands that meet the hypotheses of WellFormedCommandsComplete, for each of its clauses. -/
theorem witness_WellFormedCommandsComplete :
    ((.wakeLand 0) : Instr).wellFormed = true := by decide +kernel

/-- States and operands that meet the hypotheses of FuseSlotsAreForGood, for each of its clauses. -/
theorem witness_FuseSlotsAreForGood :
    (step s3 = .next s3 ∧ (s3.keys.fuse 0).prog = true) ∧
    (step s3 = .next s3 ∧ (s3.keys.fuse 1).revoked = true) :=
  ⟨⟨rfl, by decide +kernel⟩,
   ⟨rfl, by decide +kernel⟩⟩

/-- States and operands that meet the hypotheses of StepsKeepRegistersCanonical, for each of its clauses. -/
theorem witness_StepsKeepRegistersCanonical :
    step State.reset = .next State.reset ∧ SMap.wf regReset State.reset.regs = true := ⟨rfl, by decide +kernel⟩

/-- States and operands that meet the hypotheses of this part of RegistersAreWritten, for each of its clauses. -/
theorem witness_RegisterWriteByAccessType :
    (up.pwr.state = .run ∧ 0xA7 < 2 ^ 32 ∧ SMap.wf regReset up.regs = true ∧ 0x200020 % 4 = 0 ∧ 0x200020 < 0x1800000 ∧
      bellRing 0x200020 = none ∧ regInfo 0x200020 = some (((regInfo 0x200020).getD {}) : RegInfo) ∧
      (inParcel 0x200020 = true → up.parcelOn ((0x200020 - 0x1000000) / 0x40000) = true) ∧ specialWrite 0x200020 0xA7 = none ∧
      up.guarded 0x200020 0xA7 (((regInfo 0x200020).getD {}) : RegInfo) = none) ∧
    (up.pwr.state = .run ∧ 0xA7 < 2 ^ 32 ∧ SMap.wf regReset up.regs = true ∧ 0x100FF8 % 4 = 0 ∧ 0x100FF8 < 0x1800000 ∧
      bellRing 0x100FF8 = none ∧ regInfo 0x100FF8 = none ∧ 0x100FF8 % 8 = 0 ∧ bellRing (0x100FF8 + 4) = none ∧
      regInfo (0x100FF8 + 4) = none) ∧
    (up.pwr.state = .run ∧ 0xA7 < 2 ^ 32 ∧ SMap.wf regReset up.regs = true ∧ (1 : Word) ≠ 0) ∧
    (up.pwr.state = .run ∧ 0xA7 < 2 ^ 32 ∧ SMap.wf regReset up.regs = true ∧
      (((3 : BitVec 4) ≠ 4 ∧ (3 : BitVec 4) ≠ 8) ∨ 0x200020 % 3 ≠ 0)) := by and_intros <;> decide +kernel

/-- States and operands that meet the hypotheses of this part of RegistersAreWritten, for each of its clauses. -/
theorem witness_StaticRegistersHoldInARun :
    (run1.pwr.state = .run ∧ 5 < 2 ^ 32 ∧ 0x1000008 % 4 = 0 ∧ 0x1000000 ≤ 0x1000008 ∧ 0x1000008 < 0x1800000 ∧
      regInfo 0x1000008 = some (((regInfo 0x1000008).getD {}) : RegInfo) ∧
      run1.parcelOn ((0x1000008 - 0x1000000) / 0x40000) = true ∧ specialWrite 0x1000008 5 = none ∧
      (((regInfo 0x1000008).getD {}) : RegInfo).guard = .engine 0 ∧ run1.engActive 0 = true) ∧
    (run1.pwr.state = .run ∧ 5 < 2 ^ 32 ∧ 0x1020000 % 4 = 0 ∧ 0x1000000 ≤ 0x1020000 ∧ 0x1020000 < 0x1800000 ∧
      regInfo 0x1020000 = some (((regInfo 0x1020000).getD {}) : RegInfo) ∧
      run1.parcelOn ((0x1020000 - 0x1000000) / 0x40000) = true ∧ specialWrite 0x1020000 5 = none ∧
      (((regInfo 0x1020000).getD {}) : RegInfo).guard = .parcel 0 ∧ run1.parActive 0 = true) := by and_intros <;> decide +kernel

/-- States and operands that meet the hypotheses of this part of RingsAndDoorbells, for each of its clauses. -/
theorem witness_RingsAreEnabledAndDisabled :
    (s4.pwr.state = .run ∧ (s4.ring (3 : Fin 144)).en = false ∧ s4.gen ≠ 0 ∧ 4 ≤ 5 % 32 ∧ 5 % 32 ≤ 16 ∧
      (64 ≤ (3 : Fin 144).val ∨ (s4.ring (64 + 5 / 2 ^ 8 % 2 ^ 6)).en = true)) ∧
    (s4.pwr.state = .run ∧ (s4.ring (65 : Fin 144)).en = false ∧ (s4.gen = 0 ∨ 3 % 32 < 4 ∨ 16 < 3 % 32)) ∧
    (up.pwr.state = .run ∧ (up.ring (0 : Fin 144)).en = true ∧ ((0 : Fin 144).val < 64 ∨ 128 ≤ (0 : Fin 144).val) ∧
      (up.hif.fetched.all (fun f => f.ring != (0 : Fin 144).val) = true) ∧
      4 &&& ringCfgMask (0 : Fin 144) = up.reg (ringBase (0 : Fin 144) + 8) &&& ringCfgMask (0 : Fin 144)) := by and_intros <;> decide +kernel

/-- States and operands that meet the hypotheses of this part of RingsAndDoorbells, for each of its clauses. -/
theorem witness_DoorbellsMoveTheirRing :
    (up.pwr.state = .run ∧ (8 : BitVec 4) = 8 ∧ 5 < 2 ^ 32 ∧ (up.ring (0 : Fin 64)).en = true ∧
      idxDiff 5 (up.ring (0 : Fin 64)).idx ≤ up.ringSize (0 : Fin 64) ∧
      idxDiff 5 (up.ring (0 : Fin 64)).bell ≤ up.ringSize (0 : Fin 64)) ∧
    (s5.pwr.state = .run ∧ (8 : BitVec 4) = 8 ∧ 5 < 2 ^ 32 ∧ (s5.ring (64 + (0 : Fin 80))).en = true ∧
      idxDiff 5 (s5.ring (64 + (0 : Fin 80))).bell ≤ idxDiff (s5.ring (64 + (0 : Fin 80))).idx (s5.ring (64 + (0 : Fin 80))).bell) ∧
    (up.pwr.state = .run ∧ (4 : BitVec 4) ≠ 8) ∧
    (up.pwr.state = .run ∧ (8 : BitVec 4) = 8 ∧ 2 ^ 32 ≤ ((2 ^ 33) : Quad).toNat) ∧
    (up.pwr.state = .run ∧ (8 : BitVec 4) = 8 ∧ 5 < 2 ^ 32 ∧ (up.ring (3 : Fin 64)).en = false) ∧
    (up.pwr.state = .run ∧ (8 : BitVec 4) = 8 ∧ 500 < 2 ^ 32 ∧ (up.ring (0 : Fin 64)).en = true ∧
      SMap.wf ringReset up.hif.rings = true ∧ (up.hif.fetched.all (fun f => f.ring != (0 : Fin 64).val) = true) ∧
      up.ringSize (0 : Fin 64) < idxDiff 500 (up.ring (0 : Fin 64)).idx) := by and_intros <;> decide +kernel

/-- States and operands that meet the hypotheses of this part of DescriptorsAreFetchedAndChecked, for each of its clauses. -/
theorem witness_FetchedDescriptorsWait :
    (SMap.wf ringReset gen3.hif.rings = true ∧ (⟨[dsc [0x26]], none⟩ : Fetch).wellFormed = true ∧
      (dsc [0x26] : List Byte).length = 64 ∧ gen3.pwr.state = .run ∧ (gen3.ring 0).en = true ∧ gen3.requests = true ∧
      (gen3.ring 0).idx < 2 ^ 32 ∧
      (⟨[dsc [0x26]], none⟩ : Fetch).descs.length ≤ (idxDiff (gen3.ring 0).bell (gen3.ring 0).idx) ∧
      ((⟨[dsc [0x26]], none⟩ : Fetch).err = none ∨ (⟨[dsc [0x26]], none⟩ : Fetch).descs.length = (idxDiff (gen3.ring 0).bell (gen3.ring 0).idx) ∨ (⟨[dsc [0x26]], none⟩ : Fetch).err = some (0, (0 : Word)))) ∧
    (SMap.wf ringReset gen3.hif.rings = true ∧ (⟨[dsc [0x26]], some (1, 0)⟩ : Fetch).wellFormed = true ∧
      (dsc [0x26] : List Byte).length = 64 ∧ gen3.pwr.state = .run ∧ (gen3.ring 0).en = true ∧ gen3.requests = true ∧
      (gen3.ring 0).idx < 2 ^ 32 ∧
      (⟨[dsc [0x26]], some (1, 0)⟩ : Fetch).descs.length ≤ (idxDiff (gen3.ring 0).bell (gen3.ring 0).idx) ∧
      (⟨[dsc [0x26]], some (1, 0)⟩ : Fetch).err = some ((1 : Word), (0 : Word)) ∧ (1 : Word) ≠ 0 ∧
      (⟨[dsc [0x26]], some (1, 0)⟩ : Fetch).descs.length < (idxDiff (gen3.ring 0).bell (gen3.ring 0).idx)) ∧
    (SMap.wf ringReset gen3.hif.rings = true ∧ (⟨[dsc [0x26]], none⟩ : Fetch).wellFormed = true ∧
      (dsc [0x26] : List Byte).length = 64 ∧ gen3.pwr.state = .run ∧ (gen3.ring 0).en = true ∧ gen3.requests = true ∧
      (gen3.ring 0).idx < 2 ^ 32 ∧ (idxDiff (gen3.ring 0).bell (gen3.ring 0).idx) ≠ 0 ∧
      gen3.malformed (dsc [0x26] : List Byte) = none) := by and_intros <;> decide +kernel

/-- States and operands that meet the hypotheses of this part of DescriptorsAreFetchedAndChecked, for each of its clauses. -/
theorem witness_MalformedDescriptorsComplete :
    SMap.wf ringReset gen3.hif.rings = true ∧ (dsc [0xFF] : List Byte).length = 64 ∧ gen3.pwr.state = .run ∧
      (gen3.ring 0).en = true ∧ gen3.requests = true ∧ idxDiff (gen3.ring 0).bell (gen3.ring 0).idx ≠ 0 ∧
      (gen3.ring (gen3.cplRing 0)).en = true ∧ gen3.malformed (dsc [0xFF] : List Byte) = some 1 := by decide +kernel

/-- States and operands that meet the hypotheses of this part of CompletionsAndEventsAreWritten, for each of its clauses. -/
theorem witness_CompletionsAreWrittenInOrder :
    s6.mapsWf ∧ s6.requests = true ∧ s6.pwr.entryWait = none ∧ (s6.ring (64 + 0)).en = true ∧ s6.ringSpace (64 + 0) = true ∧
      s6.hif.cpls = ([] : List Cpl) ++ cpl0 :: ([] : List Cpl) ∧ (∀ y ∈ ([] : List Cpl), s6.cplRing y.ring ≠ 64 + 0) ∧
      s6.cplRing cpl0.ring = 64 + 0 := by decide +kernel

/-- States and operands that meet the hypotheses of this part of CompletionsAndEventsAreWritten, for each of its clauses. -/
theorem witness_EventRecordsAreWrittenInOrder :
    (s7.mapsWf ∧ s7.pwr.state = .run ∧ s7.requests = true ∧ (s7.ring (128 + 0)).en = true ∧ (s7.ring (128 + 0)).idx < 2 ^ 32 ∧
      s7.hif.evBuf = ([] : List EvRec) ++ ev0 :: ([] : List EvRec) ++ ([] : List EvRec) ∧
      (∀ q ∈ ([] : List EvRec), s7.evRing q.code ≠ 0 ∨ q.cont = true) ∧ s7.evRing ev0.code = 0 ∧ ev0.cont = false ∧
      (∀ q ∈ ([] : List EvRec), q.cont = true) ∧ (∀ q ∈ ([] : List EvRec).head?, q.cont = false) ∧
      ([] : List EvRec).length < s7.ringFree (128 + 0) ∧ s7.hif.lost = 0) ∧
    (s8.mapsWf ∧ s8.pwr.state = .run ∧ s8.requests = true ∧ (s8.ring (128 + 0)).en = true ∧ (s8.ring (128 + 0)).idx < 2 ^ 32 ∧
      s8.parRing 0 = 0 ∧ s8.fqHolds 0 = true ∧ s8.ringSpace (128 + 0) = true ∧ s8.parcelsClocked = true) := by and_intros <;> decide +kernel

/-- States and operands that meet the hypotheses of GenerationsTimersAndBusMaster, for each of its clauses. -/
theorem witness_GenerationsTimersAndBusMaster :
    (s9.mapsWf ∧ s9.pwr.state = .run ∧ (∀ n : Nat, n < 144 → (s9.ring n).en = false)) ∧
    (up.mapsWf ∧ up.pwr.state = .run ∧ 64 < 144 ∧ (up.ring 64).en = true) ∧
    (s10.mapsWf ∧ s10.pwr.state = .run ∧ (s10.ring (64 + (3 : Fin 80))).timer.isSome = true ∧
      s10.regF (ringBase (64 + (3 : Fin 80)) + 12) 16 16 ≠ 0 ∧ s10.requests = true) := by and_intros <;> decide +kernel

/-- States and operands that meet the hypotheses of FabWindowAccesses, for each of its clauses. -/
theorem witness_FabWindowAccesses :
    (up.pwr.state = .run ∧ ((8 : BitVec 4) = 4 ∨ (8 : BitVec 4) = 8) ∧ 8 % 8 = 0 ∧ up.designRuns = true ∧ up.hif.fab = []) ∧
    (s11.pwr.state = .run ∧ ((8 : BitVec 4) = 4 ∨ (8 : BitVec 4) = 8) ∧ 8 % 8 = 0 ∧ s11.designRuns = true ∧
      s11.hif.fab = fab0 :: ([fab0] : List FabAccess) ∧ fab0.from_.isSome = true) ∧
    (s12.pwr.state = .run ∧ ((8 : BitVec 4) = 4 ∨ (8 : BitVec 4) = 8) ∧ 8 % 8 = 0 ∧ s12.designRuns = false) ∧
    (up.pwr.state = .run ∧ (((8 : BitVec 4) ≠ 4 ∧ (8 : BitVec 4) ≠ 8) ∨ 9 % 8 ≠ 0)) ∧
    (s11.pwr.state = .run ∧ s11.hif.fab = fab0 :: ([fab0] : List FabAccess) ∧ s11.winOver fab0 = false) ∧
    (s13.pwr.state = .run ∧ s13.hif.fab = ({ fab0 with from_ := some 20000 } : FabAccess) :: ([] : List FabAccess) ∧
      s13.winOver ({ fab0 with from_ := some 20000 } : FabAccess) = true) ∧
    (up.pwr.state = .run ∧ up.hif.fab = []) := by and_intros <;> decide +kernel

/-- States and operands that meet the hypotheses of DeviceResetsKeepAndClear, for each of its clauses. -/
theorem witness_DeviceResetsKeepAndClear :
    (up.normal ∧ (((.devReset 0x9D2B : Instr)) = .devReset (0x9D2B : Word) → 0x9D2B % 2 ^ 16 = 0x9D2B)) ∧
    (up.normal ∧ 0x9D2C % 2 ^ 16 ≠ 0x9D2B) := by and_intros <;> decide +kernel

/-- States and operands that meet the hypotheses of KeyedWritesAndZeroization, for each of its clauses. -/
theorem witness_KeyedWritesAndZeroization :
    (up.pwr.state = .run ∧ 0xC5A7000F / 2 ^ 16 = 0xC5A7) ∧
    (s14.pwr.state = .run ∧ 0xC5A80000 / 2 ^ 16 ≠ 0xC5A7) ∧
    (s14.pwr.state = .run ∧ s14.pins.tamper.get noFlag (1 : Fin 2).val = true) := by and_intros <;> decide +kernel

/-- States and operands that meet the hypotheses of KeyCommands, for each of its clauses. -/
theorem witness_KeyCommands :
    ((mkb [] : HostBlock).wellFormed = true ∧ crc32c (mkb [] : HostBlock).data = (mkb [] : HostBlock).check ∧
      (mkb [] : HostBlock).err = none ∧ 1 < 2 ∧
      keyed.starts (descId d0 0x23) (rowFields (.keyFuseProgram d0 (1 : Byte) (mkb [] : HostBlock) true)) false = true ∧
      keyed.cplOn (descId d0 0x23) ∧ keyed.cfg.fuseProgEn = true ∧ (keyed.keys.fuse 1).prog = false ∧
      (keyed.keys.fuse 1).revoked = false) ∧
    ((mkb [] : HostBlock).wellFormed = true ∧ crc32c (mkb [] : HostBlock).data = (mkb [] : HostBlock).check ∧
      (mkb [] : HostBlock).err = none ∧ 1 < 2 ∧
      keyed.starts (descId d0 0x24) (rowFields (.keyFuseRevoke d0 (1 : Byte))) false = true ∧ keyed.cplOn (descId d0 0x24) ∧
      (keyed.keys.fuse 1).revoked = false) ∧
    ((mkb [] : HostBlock).wellFormed = true ∧ crc32c (mkb [] : HostBlock).data = (mkb [] : HostBlock).check ∧
      (mkb [] : HostBlock).err = none ∧ 0 < 2 ∧
      keyed.starts (descId d0 0x25) (rowFields (.keyRamLoad d0 (0 : Byte) (mkb [] : HostBlock))) true = true ∧
      keyed.cplOn (descId d0 0x25) ∧ keyed.keyFor 0 = some kek) ∧
    ((mkb [] : HostBlock).wellFormed = true ∧ crc32c (mkb [] : HostBlock).data = (mkb [] : HostBlock).check ∧
      (mkb [] : HostBlock).err = none ∧ 1 < 2 ∧ keyed.starts (descId d0 0x26) [] false = true ∧ keyed.cplOn (descId d0 0x26)) :=
  ⟨⟨mkb_wellFormed _ (by decide +kernel), mkb_check _, by decide +kernel⟩,
   ⟨mkb_wellFormed _ (by decide +kernel), mkb_check _, by decide +kernel⟩,
   ⟨mkb_wellFormed _ (by decide +kernel), mkb_check _, by decide +kernel⟩,
   ⟨mkb_wellFormed _ (by decide +kernel), mkb_check _, by decide +kernel⟩⟩

/-- States and operands that meet the hypotheses of ReleaseInOrder, for each of its clauses. -/
theorem witness_ReleaseInOrder :
    (s19.cfg.load = some load0 ∧ s19.nvm.journalBusy = true) ∧
    ((∀ b : Nat, b < 256 → releasing.flash.bankCheck b load0.slot = (releasing.flash.slot load0.slot).checks.get zeroNat b) ∧
      releasing.cfg.load = some load0 ∧ releasing.nvm.journalBusy = false ∧ (releasing.flash.slot load0.slot).valid = true ∧
      load0.keyOk = true ∧ releasing.flash.strayPages load0.slot = []) ∧
    (s20.cfg.load = some loadSw ∧ loadSw.why = .switch ((descId d0 0x21)) true ∧ loadSw.prev < 3 ∧ s20.nvm.journalBusy = false ∧
      s20.cplOn ((descId d0 0x21)) ∧ s20.sites = [] ∧ s20.fab.rbPend = none ∧
      (true = true ∨ (s20.flash.slot loadSw.slot).valid = false ∨ loadSw.keyOk = false ∨ ([] : List (Fin 260 × BitVec 13)) ≠ [])) ∧
    s16.cfg.phase = 1 ∧
    s17.cfg.phase = 2 ∧
    (s18.cfg.phase = 3 ∧ SMap.wf pinReset s18.pins.pin = true) :=
  ⟨by decide +kernel,
   ⟨fun b hb => (bankCheck_pages _ twoSlots.flash b 0 rfl rfl).trans (get_map_keys (twoSlots.flash.bankCheck · 0) (List.range 256) b (List.mem_range.mpr hb)).symm, by decide +kernel⟩,
   by decide +kernel,
   by decide +kernel,
   by decide +kernel,
   by decide +kernel⟩

/-- States and operands that meet the hypotheses of StartsAreConfirmedOrReverted, for each of its clauses. -/
theorem witness_StartsAreConfirmedOrReverted :
    s21.pwr.state = .run ∧ s21.cfg.released = some load0 ∧
      (((.cfgStartOk 1 : Instr)) = .cfgStartOk (1 : Word) → (1).testBit 0 = true) ∧
      (((.cfgStartOk 1 : Instr)) = .startOkSignal true false → s21.fab.clocks = true ∧ (true = true ∨ (false = true ∧ s21.inputServed 10 (fun _ => true) = true))) ∧
      s21.hif.evBuf.length < 4096 := by decide +kernel

/-- States and operands that meet the hypotheses of SwitchOverAndBootRetry, for each of its clauses. -/
theorem witness_SwitchOverAndBootRetry :
    (twoSlots.starts (descId d0 0x21) (rowFields (.switchOver d0 (1 : Byte) true)) false = true ∧ 1 < 3 ∧
      twoSlots.cfg.base = false ∧ twoSlots.fab.rbPend = none ∧ twoSlots.activeSites = [] ∧
      (twoSlots.flash.slot 1).valid = true ∧ (∀ x ∈ twoSlots.cfg.stage, x.slot ≠ 1) ∧
      (∀ l ∈ twoSlots.cfg.load, l.switches = false)) ∧
    (twoSlots.starts (descId d0 0x21) (rowFields (.switchOver d0 (2 : Byte) true)) false = true ∧ 2 < 3 ∧
      twoSlots.cfg.base = false ∧ twoSlots.cplOn (descId d0 0x21) ∧
      (twoSlots.activeSites ≠ [] ∨ (twoSlots.flash.slot 2).valid = false ∨ (∃ x ∈ twoSlots.cfg.stage, x.slot = 2) ∨ (∃ l ∈ twoSlots.cfg.load, l.switches = true))) ∧
    (s23.starts (descId d0 0x22) [] true = true ∧ s23.cplOn (descId d0 0x22) ∧ s23.cfg.base = true ∧ s23.sites = [] ∧
      s23.fab.rbPend = none) ∧
    (twoSlots.starts (descId d0 0x22) [] true = true ∧ twoSlots.cplOn (descId d0 0x22) ∧ twoSlots.cfg.base = false) ∧
    (s23.pwr.state = .run ∧ s23.pwr.entryWait = none ∧ s23.cfg.base = true ∧
      s23.fetchedAs (descId d0 (((.keyRamClear d0, 0x26) : Instr × Nat)).2) = none ∧
      s23.cplOn (descId d0 (((.keyRamClear d0, 0x26) : Instr × Nat)).2)) := by and_intros <;> decide +kernel

/-- States and operands that meet the hypotheses of ImagesAreStaged, for its clause 1. -/
theorem witness_ImagesAreStaged_1 :
    up.starts (descId d0 0x20) (rowFields (.imageStage d0 (1 : Byte) (0 : Byte) (5 : Word))) true = true ∧ 1 < 3 ∧ 0 < 3 ∧
      (0 = 0 ↔ 5 ≠ 0) ∧ up.cfg.stage = none ∧ up.cfg.active ≠ 1 ∧ (∀ l ∈ up.cfg.load, l.slot ≠ 1) ∧
      (1 = 2 → up.cfg.gStageEn = true) := by decide +kernel

/-- States and operands that meet the hypotheses of ImagesAreStaged, for its clause 2. -/
theorem witness_ImagesAreStaged_2 :
    s24.starts (descId d0 0x20) (rowFields (.imageStage d0 (1 : Byte) (0 : Byte) (5 : Word))) true = true ∧ 1 < 3 ∧ 0 < 3 ∧
      (0 = 0 ↔ 5 ≠ 0) ∧ s24.cplOn (descId d0 0x20) ∧ s24.cfg.stage = some ((stg : Staging) : Staging) := by decide +kernel

/-- States and operands that meet the hypotheses of ImagesAreStaged, for its clause 3. -/
theorem witness_ImagesAreStaged_3 :
    up.starts (descId d0 0x20) (rowFields (.imageStage d0 (2 : Byte) (0 : Byte) (5 : Word))) true = true ∧ 2 < 3 ∧ 0 < 3 ∧
      (0 = 0 ↔ 5 ≠ 0) ∧ up.cplOn (descId d0 0x20) ∧ up.cfg.stage = none ∧
      (up.cfg.active = 2 ∨ (2 = 2 ∧ up.cfg.gStageEn = false)) := by decide +kernel

/-- States and operands that meet the hypotheses of ImagesAreStaged, for its clause 4. -/
theorem witness_ImagesAreStaged_4 :
    (mkb [] : HostBlock).wellFormed = true ∧
      (((stg : Staging) : Staging).fromFlash = false → crc32c (mkb [] : HostBlock).data = (mkb [] : HostBlock).check ∧ s24.requests = true) ∧
      ({ ((stg : Staging) : Staging) with bytes := ((stg : Staging) : Staging).bytes ++ (mkb [] : HostBlock).data }).body.bad = none ∧
      (({ ((stg : Staging) : Staging) with bytes := ((stg : Staging) : Staging).bytes ++ (mkb [] : HostBlock).data }).bytes.length < 84 + (readHeader ({ ((stg : Staging) : Staging) with bytes := ((stg : Staging) : Staging).bytes ++ (mkb [] : HostBlock).data }).bytes).len ∨ s24.stageOps = true) ∧
      (mkb [] : HostBlock).err = none ∧ s24.cfg.stage = some ((stg : Staging) : Staging) ∧
      ((stg : Staging) : Staging).src ≠ .jtag ∧ ((stg : Staging) : Staging).arrived = false ∧
      (((stg : Staging) : Staging).fromFlash = true → ((stg : Staging) : Staging).bytes ≠ [] ∧ ((stg : Staging) : Staging).dirLen.isSome = true) ∧
      ((stg : Staging) : Staging).begun = true := ⟨mkb_wellFormed _ (by decide +kernel), fun _ => ⟨mkb_check _, by decide +kernel⟩, by decide +kernel, by decide +kernel, by decide +kernel⟩

/-- States and operands that meet the hypotheses of ImagesAreStaged, for its clause 5. -/
theorem witness_ImagesAreStaged_5 :
    (mkb (hdr0 ++ body0) : HostBlock).wellFormed = true ∧
      (stg0.fromFlash = false → crc32c (mkb (hdr0 ++ body0) : HostBlock).data = (mkb (hdr0 ++ body0) : HostBlock).check ∧ s30.requests = true) ∧
      ({ ({ stg0 with bytes := stg0.bytes ++ (mkb (hdr0 ++ body0) : HostBlock).data }) with key := (s30.keyFor (readHeader ({ stg0 with bytes := stg0.bytes ++ (mkb (hdr0 ++ body0) : HostBlock).data }).bytes).keySel).getD [] }).body.bad = none ∧
      ({ stg0 with bytes := stg0.bytes ++ (mkb (hdr0 ++ body0) : HostBlock).data }).bytes.length < 84 + (readHeader ({ stg0 with bytes := stg0.bytes ++ (mkb (hdr0 ++ body0) : HostBlock).data }).bytes).len ∧
      (mkb (hdr0 ++ body0) : HostBlock).err = none ∧ s30.cfg.stage = some stg0 ∧ stg0.src ≠ .jtag ∧ stg0.arrived = false ∧
      (stg0.fromFlash = true → stg0.bytes ≠ [] ∧ stg0.dirLen.isSome = true) ∧ stg0.begun = false ∧
      s30.headerFault ({ stg0 with bytes := stg0.bytes ++ (mkb (hdr0 ++ body0) : HostBlock).data }) = none ∧
      (∀ k : Nat, k < 256 → s30.flash.freeOf k ≠ []) ∧ SMap.wf slotReset s30.flash.slots = true := ⟨mkb_wellFormed _ (by decide +kernel), fun _ => ⟨mkb_check _, by decide +kernel⟩, by decide +kernel, by decide +kernel, by decide +kernel⟩

/-- States and operands that meet the hypotheses of ImagesAreStaged, for its clause 6. -/
theorem witness_ImagesAreStaged_6 :
    (mkbad [3] : HostBlock).wellFormed = true ∧ crc32c (mkbad [3] : HostBlock).data ≠ (mkbad [3] : HostBlock).check ∧
      (mkbad [3] : HostBlock).err = none ∧ s31.cfg.stage = some stg ∧ stg.src = .host ((descId d0 0x20) : DescId) false false ∧
      stg.arrived = false ∧ s31.requests = true ∧ s31.cfg.stageNext = none ∧ s31.cplOn ((descId d0 0x20) : DescId) := ⟨mkbad_wellFormed _ (by decide +kernel), mkbad_check _, by decide +kernel⟩

/-- States and operands that meet the hypotheses of ImagesAreStaged, for its clause 7. -/
theorem witness_ImagesAreStaged_7 :
    s25.cfg.stage = some ((stgDone : Staging) : Staging) ∧ ((stgDone : Staging) : Staging).ready = true ∧ s25.stageOps = false ∧
      SMap.wf slotReset s25.flash.slots = true ∧ s25.cfg.stageNext = none := by decide +kernel

/-- States and operands that meet the hypotheses of ImagesAreStaged, for its clause 8. -/
theorem witness_ImagesAreStaged_8 :
    s27.cfg.stage = some (({ stgDone with src := .boot true } : Staging) : Staging) ∧
      (({ stgDone with src := .boot true } : Staging) : Staging).fromFlash = true ∧
      (({ stgDone with src := .boot true } : Staging) : Staging).arrived = false ∧ s27.cfg.stageNext = none := by decide +kernel

/-- States and operands that meet the hypotheses of this part of JtagRegistersAndCommands, for each of its clauses. -/
theorem witness_JtagRegisters :
    (s32.pwr.state ≠ .deepSleep ∧ s32.pwr.state ≠ .off ∧ s32.cfg.jtagCtl.testBit 2 = true ∧ s32.cfg.live = false ∧
      s32.activeSites = []) ∧
    (up.pwr.state ≠ .deepSleep ∧ up.pwr.state ≠ .off ∧
      (up.cfg.jtagCtl.testBit 2 = false ∨ up.cfg.live = true ∨ up.activeSites ≠ [])) ∧
    (s32.pwr.state ≠ .deepSleep ∧ s32.pwr.state ≠ .off ∧ s32.cfg.jtagCtl.testBit 1 = true ∧ s32.fab.rbHeld = true) ∧
    (s33.pwr.state ≠ .deepSleep ∧ s33.pwr.state ≠ .off ∧ s33.cfg.jtagCtl.testBit 1 = false) := by and_intros <;> decide +kernel

/-- States and operands that meet the hypotheses of this part of JtagRegistersAndCommands, for each of its clauses. -/
theorem witness_JtagCommands :
    (s34.pwr.state = .run ∧ s34.cfg.jtagCtl.testBit 0 = false) ∧
    (twoSlots.pwr.state = .run ∧ twoSlots.cfg.jtagCtl.testBit 0 = true ∧ operandReserved (0 / 256) = false ∧
      (0 % 256 = 0 ∨ 0 % 256 = 4)) ∧
    (twoSlots.pwr.state = .run ∧ twoSlots.cfg.jtagCtl.testBit 0 = true ∧ operandReserved (5 / 256) = false ∧ 4 < 5 % 256) ∧
    (twoSlots.pwr.state = .run ∧ twoSlots.cfg.jtagCtl.testBit 0 = true ∧ operandReserved 1 = false) ∧
    (twoSlots.pwr.state = .run ∧ twoSlots.cfg.jtagCtl.testBit 0 = true ∧ operandReserved ((2 ^ 55) : BitVec 56).toNat = true) ∧
    (twoSlots.pwr.state = .run ∧ twoSlots.cfg.jtagCtl.testBit 0 = true ∧ operandReserved 1 = false ∧ 1 % 4 ≠ 3 ∧
      twoSlots.cfg.stage = none ∧ twoSlots.jtagBusy = false ∧ (∀ l ∈ twoSlots.cfg.load, l.slot ≠ 1 % 4) ∧
      twoSlots.cfg.active ≠ 1 % 4 ∧ (1 % 4 = 2 → twoSlots.cfg.gStageEn = true)) ∧
    (twoSlots.pwr.state = .run ∧ twoSlots.cfg.jtagCtl.testBit 0 = true ∧ operandReserved 1 = false ∧ 1 % 4 ≠ 3 ∧
      twoSlots.activeSites = [] ∧ twoSlots.jtagBusy = false ∧ (∀ y ∈ twoSlots.cfg.stage, y.slot ≠ 1 % 4) ∧
      (∀ l ∈ twoSlots.cfg.load, l.switches = false) ∧ twoSlots.cfg.base = false ∧ (twoSlots.flash.slot (1 % 4)).valid = true) ∧
    (s35.pwr.state = .run ∧ s35.cfg.jtagCtl.testBit 0 = true ∧ operandReserved 1 = false ∧ s35.jtagBusy = false ∧
      s35.cfg.base = true ∧ s35.sites = [] ∧ s35.fab.rbPend = none) ∧
    ((mkb [] : HostBlock).wellFormed = true ∧ crc32c (mkb [] : HostBlock).data = (mkb [] : HostBlock).check ∧
      ({ ({ stg with src := .jtag } : Staging) with bytes := ({ stg with src := .jtag } : Staging).bytes ++ (mkb [] : HostBlock).data } : Staging).body.bad = none ∧
      ((({ stg with src := .jtag } : Staging).bytes ++ (mkb [] : HostBlock).data).length < 84 + (readHeader (({ stg with src := .jtag } : Staging).bytes ++ (mkb [] : HostBlock).data)).len ∨ s36.stageOps = true) ∧
      s36.pwr.state = .run ∧ s36.cfg.jtagCtl.testBit 0 = true ∧ s36.cfg.stage = some ({ stg with src := .jtag } : Staging) ∧
      ({ stg with src := .jtag } : Staging).src = .jtag ∧ ({ stg with src := .jtag } : Staging).arrived = false ∧
      ({ stg with src := .jtag } : Staging).begun = true) :=
  ⟨by decide +kernel,
   by decide +kernel,
   by decide +kernel,
   by decide +kernel,
   by decide +kernel,
   by decide +kernel,
   by decide +kernel,
   by decide +kernel,
   ⟨mkb_wellFormed _ (by decide +kernel), mkb_check _, by decide +kernel, by decide +kernel, by decide +kernel⟩⟩

/-- States and operands that meet the hypotheses of TimeCommands, for each of its clauses. -/
theorem witness_TimeCommands :
    (up.pwr.state = .run ∧ up.regF 0x600000 0 2 ≠ 2) ∧
    (s37.pwr.state = .run ∧ s37.regF 0x600000 0 2 = 2) ∧
    (s38.pwr.state = .run ∧ s38.hif.pci.ptm = true) ∧
    (up.pwr.state = .run ∧ up.hif.pci.ptm = false) := by and_intros <;> decide +kernel

/-- States and operands that meet the hypotheses of this part of DatumTimeCounts, for each of its clauses. -/
theorem witness_VisibleTimeIsTheCounterRounded :
    12345678901234567890 < 2 ^ 48 * (1000000000 * 2 ^ 40) := by decide +kernel

/-- States and operands that meet the hypotheses of this part of DatumTimeCounts, for each of its clauses. -/
theorem witness_ThreeTicksAreTwoNanoseconds :
    step s39 = .next s40 ∧ step s40 = .next s41 ∧ step s41 = .next s42 ∧ s39.pending = [] ∧ s39.tim.started = true ∧
      s39.tim.locked = true ∧ s39.pwr.state = .run ∧ (s39.tim.tick + s39.tim.off) % 2 ^ 64 + 2 < 2 ^ 64 := ⟨rfl, rfl, rfl, by decide +kernel⟩

/-- States and operands that meet the hypotheses of this part of TimeIsSetAndFollowed, for each of its clauses. -/
theorem witness_SyncTickAppliesWhatWaits :
    (up.tim.started = true ∧ up.hif.evBuf.length + 2 ≤ 4096 ∧ up.tim.locked = true ∧ up.pwr.state ≠ .sleep ∧
      (up.tim.tick + up.tim.off) % 2 ^ 64 % 65536 ≠ 0) ∧
    (s43.tim.started = true ∧ s43.hif.evBuf.length + 2 ≤ 4096 ∧ s43.syncDue = true ∧ s43.tim.pendStep = none) ∧
    (s44.tim.started = true ∧ s44.hif.evBuf.length + 2 ≤ 4096 ∧ s44.syncDue = true ∧ s44.tim.pendStep = some .set ∧
      (s44.timedPending = false ∨ s44.tim.pendForce = true)) ∧
    (s45.tim.started = true ∧ s45.hif.evBuf.length + 2 ≤ 4096 ∧ s45.syncDue = true ∧ s45.tim.pendStep = some .adjust ∧
      s45.timedPending = true ∧ s45.tim.pendForce = false) := by and_intros <;> decide +kernel

/-- States and operands that meet the hypotheses of TimeEvents, for each of its clauses. -/
theorem witness_TimeEvents :
    (s46.pwr.state = .run ∧ s46.regF 0x600000 16 8 ≠ 0 ∧ s46.hif.pci.ptm = true) ∧
    (s47.pwr.state = .run ∧ s47.regF 0x600000 16 8 ≠ 0 ∧ s47.hif.pci.ptm = false) ∧
    (s48.pwr.state = .run ∧ s48.regF 0x600000 16 8 = 0) ∧
    (s46.pwr.state = .run ∧ s46.tim.ptm = 3 :: ([4] : List Nat)) ∧
    (s46.pwr.state = .run ∧ (s46.reg 0x600000).testBit 4 = true ∧ (s46.reg 0x600000).testBit 5 = !true ∧ 20 ≤ 20) ∧
    (s46.pwr.state = .run ∧ ((s46.reg 0x600000).testBit 4 = false ∨ (s46.reg 0x600000).testBit 5 = false ∨ 20 < 20)) ∧
    (s46.pwr.state = .run ∧ s46.tim.ppsLast = some 5 ∧ 5 + 1650000000 ≤ s46.tim.tick ∧ s46.tim.ppsMissRaised = false) ∧
    (s48.pwr.state = .run ∧ (s48.reg 0x600000).testBit 7 = true ∧ s48.tim.set = true ∧ s48.atSecond = true ∧
      s48.tim.ppsOut = false) ∧
    (s46.pwr.state = .run ∧ s46.tim.ppsOut = true ∧ s46.tim.ppsRise ≤ s46.tim.value ∧
      s46.tim.value < 2 ^ 48 * (1000000000 * 2 ^ 40) ∧
      max 1 (s46.reg 0x600000 / 2 ^ 8 % 2 ^ 8) * 1000000 * 2 ^ 40 ≤ s46.tim.value - s46.tim.ppsRise) ∧
    (s46.pwr.state = .run ∧ s46.tim.armed = some 7 ∧ ofVisible 7 ≤ s46.tim.value) ∧
    (s48.pwr.state = .run ∧ s48.tim.armed = some ((2 ^ 80)) ∧ s48.tim.value < ofVisible ((2 ^ 80))) ∧
    (s46.pwr.state = .run ∧ s46.regF 0x600000 0 2 = 2 ∧ s46.tim.followLock = true ∧ s46.tim.goodAt + 262144 ≤ s46.tim.tick) := by and_intros <;> decide +kernel

/-- States and operands that meet the hypotheses of this part of PinFunctionsAndLocks, for each of its clauses. -/
theorem witness_PinFunctionsSwitch :
    (s49.pwr.state = .run ∧ s49.pinBit 0x700310 (5 : Fin 96) = false ∧ funcInvalid (5 : Fin 96) 1 = false ∧
      s49.showsBoot (5 : Fin 96) = false ∧ (s49.pin (5 : Fin 96)).hold = none ∧ 1 % 16 ≠ (s49.pin (5 : Fin 96)).func) ∧
    (s50.pwr.state = .run ∧ s50.pinBit 0x700310 (5 : Fin 96) = false ∧ funcInvalid (5 : Fin 96) 1 = false ∧
      (s50.showsBoot (5 : Fin 96) = true ∨ (s50.pin (5 : Fin 96)).hold ≠ none ∨ 1 % 16 = (s50.pin (5 : Fin 96)).func)) ∧
    (s50.pwr.state = .run ∧ (s50.pin (5 : Fin 96)).hold.isSome = true) ∧
    (s51.pwr.state = .run ∧ s51.pinBit 0x700310 (5 : Fin 96) = true ∧ funcInvalid (5 : Fin 96) 1 = false) ∧
    (up.pwr.state = .run ∧
      (13 ≤ 0xD % 16 ∨ (0xD % 16 = 2 ∧ (5 : Fin 96).val % 8 ≠ 0) ∨ (0xD % 16 = 9 ∧ 2 ≤ (5 : Fin 96).val) ∨ 5 ≤ 0xD / 16 % 8 ∨ 0xD / 256 % 4 = 3)) ∧
    (s49.pwr.state = .run ∧ SMap.wf regReset s49.regs = true) := by and_intros <;> decide +kernel

/-- States and operands that meet the hypotheses of this part of PinFunctionsAndLocks, for each of its clauses. -/
theorem witness_PinLocks :
    (up.pwr.state = .run ∧ 0x5A1C % 2 ^ 16 = 0x5A1C) ∧
    (s52.pwr.state = .run ∧ 0xC3E5 % 2 ^ 16 = 0xC3E5 ∧ s52.pins.keyStage = 1 ∧ 64 ≤ 64) ∧
    (s53.pwr.state = .run ∧ 0xC3E5 % 2 ^ 16 ≠ 0x5A1C ∧ (0xC3E5 % 2 ^ 16 ≠ 0xC3E5 ∨ s53.pins.keyStage ≠ 1 ∨ 64 < 64)) ∧
    (s53.pwr.state = .run ∧ s53.pins.keyStage = 2 ∧ 64 ≤ 64 ∧ SMap.wf regReset s53.regs = true) ∧
    (up.pwr.state = .run ∧ (up.pins.keyStage ≠ 2 ∨ 64 < 5)) := by and_intros <;> decide +kernel

/-- States and operands that meet the hypotheses of PowerStatesAreEntered, for each of its clauses. -/
theorem witness_PowerStatesAreEntered :
    (up.pwr.state = .run ∧ up.cplOn (descId d0 0x40) ∧ up.starts (descId d0 0x40) (rowFields (.pwrStateRun d0)) false = true) ∧
    (up.pwr.state = .run ∧ up.cplOn (descId d0 0x40) ∧
      up.starts (descId d0 0x40) (rowFields ((((.pwrStateIdle d0, .idle, 0)) : Instr × PState × Nat)).1) false = true ∧
      up.hif.inExec = [] ∧ (up.activeSites = [] ∧ up.snp.pend = none ∧ up.snp.flight = []) ∧
      (up.flashBusy = false ∧ up.cfg.load = none ∧ up.cfg.released = none)) ∧
    (s54.pwr.state = .run ∧ s54.cplOn (descId d0 0x40) ∧
      s54.starts (descId d0 0x40) (rowFields ((((.pwrStateIdle d0, .idle, 0)) : Instr × PState × Nat)).1) false = true ∧
      ((∃ x ∈ s54.hif.inExec, x.ring ≠ d0.ring.toNat) ∨ s54.activeSites ≠ [] ∨ s54.snp.pend ≠ none ∨ s54.snp.flight ≠ [])) ∧
    (s55.pwr.state = .run ∧ s55.cplOn (descId d0 0x40) ∧
      s55.starts (descId d0 0x40) (rowFields ((((.pwrStateIdle d0, .idle, 0)) : Instr × PState × Nat)).1) false = true ∧
      s55.hif.inExec = [] ∧ (s55.activeSites = [] ∧ s55.snp.pend = none ∧ s55.snp.flight = []) ∧ s55.flashBusy = true) ∧
    (s56.pwr.state = .run ∧ s56.cplOn (descId d0 0x40) ∧
      s56.starts (descId d0 0x40) (rowFields ((((.pwrStateIdle d0, .idle, 0)) : Instr × PState × Nat)).1) false = true ∧
      s56.hif.inExec = [] ∧ (s56.activeSites = [] ∧ s56.snp.pend = none ∧ s56.snp.flight = []) ∧ s56.flashBusy = false ∧
      (s56.cfg.load ≠ none ∨ s56.cfg.released ≠ none)) ∧
    (s58.pwr.state = .run ∧ s58.pwr.entryWait = some (((descId d0 0x40) : DescId), .idle, 0) ∧ s58.requests = true ∧
      (s58.ring (64 + 0)).en = true ∧ s58.ringSpace (64 + 0) = true ∧
      s58.hif.cpls = ([] : List Cpl) ++ cplE :: ([] : List Cpl) ∧ (∀ y ∈ ([] : List Cpl), s58.cplRing y.ring ≠ 64 + 0) ∧
      s58.cplRing cplE.ring = 64 + 0 ∧
      ((([] : List Cpl) ++ ([] : List Cpl)).any (fun c => c.serial == ((descId d0 0x40) : DescId).serial && c.ring == ((descId d0 0x40) : DescId).ring && c.index == ((descId d0 0x40) : DescId).index) = false)) ∧
    (up.pwr.state = .run ∧ (0x6B4D : BitVec 16) = 0x6B4D ∧ up.cfg.base = false ∧ up.hif.inExec = [] ∧
      (up.activeSites = [] ∧ up.snp.pend = none ∧ up.snp.flight = []) ∧
      (up.flashBusy = false ∧ up.cfg.load = none ∧ up.cfg.released = none)) ∧
    (s57.pwr.state = .run ∧ (0x6B4D : BitVec 16) = 0x6B4D ∧ s57.cfg.base = true) ∧
    (s54.pwr.state = .run ∧ (0x6B4D : BitVec 16) = 0x6B4D ∧ s54.cfg.base = false ∧ s54.hif.inExec ≠ []) ∧
    (up.pwr.state = .run ∧ (0x6B4C : BitVec 16) ≠ 0x6B4D) := by and_intros <;> decide +kernel

/-- States and operands that meet the hypotheses of PoweringDownAndColdResets, for each of its clauses. -/
theorem witness_PoweringDownAndColdResets :
    (SMap.wf engReset s59.eng = true ∧ s59.pwr.entering = some (.deepSleep : PState) ∧
      ((.deepSleep : PState) = .deepSleep ∨ (.deepSleep : PState) = .off) ∧ s59.pwr.wakeDue = none) ∧
    (SMap.wf engReset s61.eng = true ∧ s61.pwr.state = .deepSleep) ∧
    (SMap.wf engReset s59.eng = true ∧ s59.pwr.state = .run) ∧
    (SMap.wf engReset s62.eng = true ∧ s62.pwr.state = .run ∧ s62.aon.portHeld = true) ∧
    (SMap.wf engReset s63.eng = true ∧ s63.pwr.state = .off ∧ s63.aon.pwrGood = true) := by and_intros <;> decide +kernel

/-- States and operands that meet the hypotheses of WakingNamesItsSource, for each of its clauses. -/
theorem witness_WakingNamesItsSource :
    ((s65.pwr.state = .idle ∨ s65.pwr.state = .sleep) ∧ s65.hif.pci.aspm = true ∧
      (s65.pwr.state = .idle ∨ s65.aon.wakeEn.testBit 2 = true)) ∧
    (0x68 = 0x68 + s2.aon.ma ∧ s2.pwr.state = .sleep ∧ s2.aon.wakeEn.testBit 0 = true) ∧
    (0x68 = 0x68 + s68.aon.ma ∧ s68.pwr.state = .sleep ∧ s68.aon.wakeEn.testBit 0 = false) ∧
    (0x68 = 0x68 + s64.aon.ma ∧ (s64.pwr.state = .run ∨ s64.pwr.state = .idle) ∧ s64.pwr.entering = none) ∧
    (0x69 ≠ 0x68 + s64.aon.ma ∨ s64.pwr.state = .off) ∧
    (s69.pwr.state = .off ∧ s69.aon.pwrGood = false ∧ s69.aon.hot = false) ∧
    (s70.pwr.state = .off ∧ s70.aon.hot = true) ∧
    s61.pwr.state = .deepSleep ∧
    (s75.pwr.state = .run ∧ s75.pwr.entering = some (PState.off) ∧ ((PState.off) = .deepSleep ∨ (PState.off) = .off) ∧
      s75.pwr.wakeDue = none ∧ (0 : Byte) = 0) ∧
    (s73.pwr.state = .run ∧ s73.pwr.entering = none) := by and_intros <;> decide +kernel

/-- States and operands that meet the hypotheses of PerformanceLevelsChange, for each of its clauses. -/
theorem witness_PerformanceLevelsChange :
    ((Config.speed12 = true → topLevel < 3) ∧ (SMap.wf (fun _ => topLevel) up.pwr.pclLevel = true) ∧
      up.starts (descId d0 0x41) (rowFields (.pwrLevel d0 (3 : Byte) (5 : Word) (3 : Byte))) false = true ∧ 3 < 4 ∧ 3 ≤ 3 ∧
      up.cplOn (descId d0 0x41)) ∧
    (1 ≤ topLevel ∧ (SMap.wf (fun _ => topLevel) up.pwr.pclLevel = true) ∧
      up.starts (descId d0 0x41) (rowFields (.pwrLevel d0 (3 : Byte) (5 : Word) (1 : Byte))) false = true ∧ 3 < 4 ∧ 1 ≤ 3) ∧
    ((SMap.wf (fun _ => topLevel) s76.pwr.pclLevel = true) ∧ s76.jobAt 0 0 = some job0 ∧ job0.mask < 2 ^ 32 ∧
      (job0.fabric = true ∨ job0.mask ≠ 0) ∧ job0.railWait = false ∧ (∀ x ∈ s76.pwr.jobs, x.railWait = false) ∧
      levelMv job0.level ≤ s76.pwr.railReq ∧ (∀ p : Nat, p < 32 → job0.mask.testBit p = true → s76.parActive p = false) ∧
      (job0.fabric = true → s76.activeSites = [])) ∧
    ((SMap.wf (fun _ => topLevel) s77.pwr.pclLevel = true) ∧ s77.jobAt 0 0 = some ({ job0 with mask := 1 } : LevelJob) ∧
      ({ job0 with mask := 1 } : LevelJob).mask < 2 ^ 32 ∧
      (({ job0 with mask := 1 } : LevelJob).fabric = true ∨ ({ job0 with mask := 1 } : LevelJob).mask ≠ 0) ∧
      ({ job0 with mask := 1 } : LevelJob).railWait = false ∧
      (∀ p : Nat, p < 32 → ({ job0 with mask := 1 } : LevelJob).mask.testBit p = true → s77.parActive p = true) ∧
      (({ job0 with mask := 1 } : LevelJob).fabric = true → s77.activeSites ≠ [])) ∧
    ((SMap.wf (fun _ => topLevel) s78.pwr.pclLevel = true) ∧ s78.jobAt 0 0 = some ({ job0 with railWait := true } : LevelJob) ∧
      ({ job0 with railWait := true } : LevelJob).mask < 2 ^ 32 ∧
      (({ job0 with railWait := true } : LevelJob).fabric = true ∨ ({ job0 with railWait := true } : LevelJob).mask ≠ 0) ∧
      ({ job0 with railWait := true } : LevelJob).railWait = true) :=
  ⟨⟨fun h => by simp [topLevel, h], by decide +kernel⟩,
   ⟨by unfold topLevel; split <;> decide, by decide +kernel⟩,
   by decide +kernel,
   by decide +kernel,
   by decide +kernel⟩

/-- States and operands that meet the hypotheses of ClocksAndParcelDomains, for each of its clauses. -/
theorem witness_ClocksAndParcelDomains :
    (up.starts (descId d0 0x42) (rowFields (.clkSwitchPll d0 true)) false = true ∧ up.pwr.clkWait = none ∧
      up.tim.locked = true ∧ up.cplOn (descId d0 0x42)) ∧
    (s80.starts (descId d0 0x42) (rowFields (.clkSwitchPll d0 true)) false = true ∧ s80.pwr.clkWait = none ∧
      s80.tim.locked = false) ∧
    (up.starts (descId d0 0x42) (rowFields (.clkSwitchFio d0)) false = true ∧ up.cplOn (descId d0 0x42)) ∧
    (s81.pwr.clkWait = some ((descId d0 0x42) : DescId) ∧ s81.cplOn ((descId d0 0x42) : DescId)) ∧
    (s80.pwr.pllOn = true ∧ s80.tim.locked = false ∧ s80.pwr.state = .run ∧ s80.pwr.fromSleep = false ∧ s80.pwr.clkWait = none) ∧
    (s81.pwr.pllOn = true ∧ s81.tim.locked = false ∧ s81.pwr.state = .run ∧ s81.pwr.fromSleep = false ∧
      s81.pwr.clkWait = some ((descId d0 0x42) : DescId) ∧ s81.cplOn ((descId d0 0x42) : DescId)) ∧
    (s83.pwr.pllOn = true ∧ s83.tim.locked = false ∧ s83.pwr.state = .run ∧ s83.pwr.fromSleep = true) ∧
    (up.tim.locked = true ∧ SMap.wf siteReset up.sites = true ∧ SMap.wf engReset up.eng = true ∧
      (∀ q ∈ up.sites, ∀ r ∈ q.2.run, r.resets = [])) ∧
    (s80.pwr.state = .run ∧ s80.cfg.base = false ∧ s80.tim.locked = false ∧ s80.tim.degraded = false ∧ (5 : BitVec 16) ≠ 0 ∧
      (∀ f, s80.fetchedAs (descId d0 (((.runStart d0 3 true false 5 6 7, 0x14) : Instr × Nat)).2) = some f → s80.depFailed f = false)) ∧
    (s84.pwr.state = .run ∧ s84.cfg.base = false ∧ s84.tim.locked = false ∧ s84.tim.degraded = false ∧ (5 : BitVec 16) ≠ 0 ∧
      s84.run 3 = none ∧ s84.hif.fetched = [waitStart] ∧ waitStart.op = 0x14 ∧ leAt waitStart.bytes 16 1 = 3 ∧
      s84.mayStart waitStart = true ∧ s84.cplOn waitStart.id) ∧
    (up.cplOn (descId d0 0x43) ∧ up.starts (descId d0 0x43) (rowFields (.pclPowerOn d0 (5 : Word))) false = true) ∧
    (up.cplOn (descId d0 0x43) ∧ up.starts (descId d0 0x43) (rowFields (.pclPowerOff d0 (5 : Word))) false = true ∧
      (∀ p : Nat, p < 32 → (5).testBit p = true → up.sitesOf p = [])) ∧
    (run1.cplOn (descId d0 0x43) ∧ run1.starts (descId d0 0x43) (rowFields (.pclPowerOff d0 (1 : Word))) false = true ∧
      (1).testBit 0 = true ∧ run1.sitesOf 0 ≠ []) := by and_intros <;> decide +kernel

/-- States and operands that meet the hypotheses of this part of SuppliesTemperatureAndBudget, for each of its clauses. -/
theorem witness_SuppliesTemperatureAndTwoWire :
    (SMap.wf siteReset run1.sites = true ∧
      (¬(100 * 1900 < 94 * (if (1 : Fin 3).val = 0 then min run1.pwr.railReq run1.railInUse else if (1 : Fin 3).val = 1 then 1800 else 1200)) ∨ ¬(run1.pwr.state = .run ∨ run1.pwr.state = .idle ∨ run1.pwr.state = .sleep))) ∧
    (SMap.wf siteReset run1.sites = true ∧ (run1.pwr.state = .run ∨ run1.pwr.state = .idle ∨ run1.pwr.state = .sleep) ∧
      (100 * 800 < 94 * (if (1 : Fin 3).val = 0 then min run1.pwr.railReq run1.railInUse else if (1 : Fin 3).val = 1 then 1800 else 1200)) ∧
      run1.pwr.warn = false ∧ run1.hif.evBuf.length < 4096) ∧
    (SMap.wf siteReset s85.sites = true ∧ (s85.pwr.state = .run ∨ s85.pwr.state = .idle ∨ s85.pwr.state = .sleep) ∧
      (100 * 800 < 94 * (if (1 : Fin 3).val = 0 then min s85.pwr.railReq s85.railInUse else if (1 : Fin 3).val = 1 then 1800 else 1200)) ∧
      s85.pwr.warn = true) ∧
    (SMap.wf siteReset s85.sites = true ∧ s85.pwr.warn = true ∧ s85.hif.evBuf.length < 4096) ∧
    (SMap.wf siteReset run1.sites = true ∧ (run1.pwr.state = .run ∨ run1.pwr.state = .idle ∨ run1.pwr.state = .sleep) ∧
      100 * 800 < 88 * (if true then 1200 else 1800)) ∧
    (SMap.wf siteReset run1.sites = true ∧ (run1.pwr.state = .run ∨ run1.pwr.state = .idle ∨ run1.pwr.state = .sleep) ∧
      88 * (if true then 1200 else 1800) ≤ 100 * 1900) ∧
    (tjMax < signed 8 111 ∧ SMap.wf siteReset run1.sites = true ∧
      (run1.pwr.state = .run ∨ run1.pwr.state = .idle ∨ run1.pwr.state = .sleep) ∧ run1.pwr.tempWarn = false) ∧
    (SMap.wf siteReset run1.sites = true ∧ (run1.pwr.state = .run ∨ run1.pwr.state = .idle ∨ run1.pwr.state = .sleep) ∧
      run1.pwr.tripped = false) ∧
    (SMap.wf siteReset run1.sites = true ∧ (run1.pwr.state = .run ∨ run1.pwr.state = .idle) ∧ 0x68 = 0x68 + run1.aon.ma) ∧
    (SMap.wf siteReset s87.sites = true ∧
      (s87.pwr.state = .sleep ∨ s87.pwr.state = .deepSleep ∨ s87.pwr.state = .off ∨ 0x68 ≠ 0x68 + s87.aon.ma)) ∧
    (SMap.wf siteReset s86.sites = true ∧ s86.pwr.tripped = true) :=
  ⟨by decide +kernel,
   by decide +kernel,
   by decide +kernel,
   by decide +kernel,
   by decide +kernel,
   by decide +kernel,
   ⟨by unfold tjMax; split <;> decide +kernel, by decide +kernel⟩,
   by decide +kernel,
   by decide +kernel,
   by decide +kernel,
   by decide +kernel⟩

/-- States and operands that meet the hypotheses of this part of SuppliesTemperatureAndBudget, for each of its clauses. -/
theorem witness_TelemetryMeasuresAndRevokes :
    (up.pwr.state = .run ∨ up.pwr.state = .idle) ∧
    s63.pwr.state = .off := by and_intros <;> decide +kernel

/-- States and operands that meet the hypotheses of PinsSerialAndTriggers, for each of its clauses. -/
theorem witness_PinsSerialAndTriggers :
    (s88.pwr.state = .run ∧ (s88.spi 0).busy = false) ∧
    (s90.pwr.state = .run ∧ (s90.spi 2).busy = true) ∧
    ((s89.reg (0x700F00 + 4 * 1)).testBit 1 = false ∧ s89.pins.failEnd.get zeroNat 1 ≤ s89.tim.tick) ∧
    ((s88.reg (0x700F00 + 4 * 1)).testBit 1 = true ∨ s88.tim.tick < s88.pins.failEnd.get zeroNat 1) ∧
    ((s90.spi 2).busy = true ∧ (s90.pwr.coreClk = false ∨ s90.spiOver 2 = true)) ∧
    ((s92.inputServed 4 (fun p => decide (p % 2 = 0)) = true) ∧ (s92.reg (0x700500 + 4 * 0)).testBit 0 = true ∧
      (s92.reg (0x700500 + 4 * 0)).testBit 1 = !true ∧
      ((s92.reg (0x700500 + 4 * 0)).testBit 2 = false ∨ s92.run ((s92.reg (0x700500 + 4 * 0)) / 2 ^ 8 % 2 ^ 6) = none)) ∧
    ((s93.inputServed 4 (fun p => decide (p % 2 = 0)) = true) ∧ (s93.reg (0x700500 + 4 * 0)).testBit 0 = true ∧
      (s93.reg (0x700500 + 4 * 0)).testBit 1 = !true ∧ (s93.reg (0x700500 + 4 * 0)).testBit 2 = true ∧
      s93.run ((s93.reg (0x700500 + 4 * 0)) / 2 ^ 8 % 2 ^ 6) = some ({ phase := .running, start := 100000 : Run })) ∧
    (s88.inputServed 4 (fun p => decide (p % 2 = 0)) = false ∨ (s88.reg (0x700500 + 4 * 0)).testBit 0 = false ∨ (s88.reg (0x700500 + 4 * 0)).testBit 1 = true) ∧
    s88.pins.bank.get bankReset (0 : Fin 3).val ≠ 2 ∧
    s89.pins.bank.get bankReset (0 : Fin 3).val = 1 := by and_intros <;> decide +kernel

/-- States and operands that meet the hypotheses of FailRecordsFlowInOrder, for each of its clauses. -/
theorem witness_FailRecordsFlowInOrder :
    ((s94.f 2).inBuf = rec0 :: ([rec0] : List Rec) ∧ (s94.f 2).log.length < s94.logCap 2) ∧
    (s95.logFree 2 ≤ 128 ∧ 128 ≤ (s95.f 2).log.length ∧ 128 ≤ s95.spillFree 2 ∧ s95.dvm.ready = true) ∧
    (128 < s94.logFree 2 ∨ (s94.f 2).log.length < 128 ∨ s94.spillFree 2 < 128 ∨ s94.dvm.ready = false) ∧
    (s94.f 2).coal = (5, 3) :: ([(6, 1)] : List (Nat × Nat)) ∧
    (s94.parcelsClocked = true ∧ s94.parcelOn 2 = true ∧ ((s94.f 2).spillN = 0 ∨ 128 ≤ (s94.f 2).drain.length) ∧
      (s94.nextPacket 2) ≠ [] ∧ (s94.p 2).fq.q.length + 4 * (s94.nextPacket 2).length + 2 ≤ 4096 ∧ (s94.p 2).fq.seqNo < 2 ^ 16 ∧
      ((s94.p 2).fq.exp = none ∨ (s94.p 2).fq.exp = some (s94.p 2).fq.seqNo) ∧ (∀ b ∈ (s94.nextPacket 2), b.length = 32)) ∧
    (up.parcelsClocked = true ∧ up.parcelOn 2 = true ∧ (up.f 2).spillN = 0 ∧ (up.nextPacket 2) = []) ∧
    (s98.parcelsClocked = true ∧ s98.parcelOn 2 = true ∧ (s98.f 2).spillN ≠ 0 ∧ (s98.f 2).drain.length < 128 ∧
      s98.dvm.ready = true) := by and_intros <;> decide +kernel

/-- States and operands that meet the hypotheses of this part of LocalAndFailMemoryCommands, for each of its clauses. -/
theorem witness_FailMemoryCommands :
    (s99.starts (descId d0 0x1B) (rowFields (.failMemClear d0 (2 : ParcelNo) (0 : Byte) (4096 : Word) (8192 : Word))) false = true ∧
      s99.cplOn (descId d0 0x1B) ∧ 0 < 2 ∧ 4096 % 4096 = 0 ∧ 8192 % 4096 = 0 ∧ s99.parcelOn 2 = true ∧ s99.parActive 2 = false ∧
      (s99.fmArea 2 0).2 ≠ 0 ∧ 4096 + 8192 ≤ (s99.fmArea 2 0).2) ∧
    (s101.starts (descId d0 0x1B) (rowFields (.failMemClear d0 (2 : ParcelNo) (0 : Byte) (4096 : Word) (8192 : Word))) false = true ∧
      s101.cplOn (descId d0 0x1B) ∧ 0 < 2 ∧ 4096 % 4096 = 0 ∧ 8192 % 4096 = 0 ∧ s101.parcelOn 2 = true ∧
      (s101.parActive 2 = true ∨ (s101.fmArea 2 0).2 = 0 ∨ (s101.fmArea 2 0).2 < 4096 + 8192)) ∧
    (s100.starts (descId d0 0x1B) (rowFields (.failMemClear d0 (2 : ParcelNo) (0 : Byte) (4096 : Word) (8192 : Word))) false = true ∧
      s100.cplOn (descId d0 0x1B) ∧ 0 < 2 ∧ 4096 % 4096 = 0 ∧ 8192 % 4096 = 0 ∧ s100.parcelOn 2 = false) ∧
    (s100.starts (descId d0 0x1A) (rowFields (.failMemRead d0 (2 : ParcelNo) (0 : Byte) (4096 : Word) (⟨8192, 4096, 1⟩ : DataOut))) false = true ∧
      s100.cplOn (descId d0 0x1A) ∧ 0 < 2 ∧ 4096 % 4096 = 0 ∧ outBad (⟨8192, 4096, 1⟩ : DataOut) = false ∧
      s100.parcelOn 2 = false) ∧
    (s101.starts (descId d0 0x1A) (rowFields (.failMemRead d0 (2 : ParcelNo) (0 : Byte) (4096 : Word) (⟨8192, 4096, 1⟩ : DataOut))) false = true ∧
      s101.cplOn (descId d0 0x1A) ∧ 0 < 2 ∧ 4096 % 4096 = 0 ∧ outBad (⟨8192, 4096, 1⟩ : DataOut) = false ∧
      s101.parcelOn 2 = true ∧
      (s101.parActive 2 = true ∨ (s101.fmArea 2 0).2 = 0 ∨ (s101.fmArea 2 0).2 < 4096 + 4096 * (⟨8192, 4096, 1⟩ : DataOut).blocks.toNat)) ∧
    (s99.starts (descId d0 0x1A) (rowFields (.failMemRead d0 (2 : ParcelNo) (0 : Byte) (4096 : Word) (⟨8192, 4096, 1⟩ : DataOut))) false = true ∧
      s99.cplOn (descId d0 0x1A) ∧ 0 < 2 ∧ 4096 % 4096 = 0 ∧ outBad (⟨8192, 4096, 1⟩ : DataOut) = false ∧
      s99.parcelOn 2 = true ∧ s99.parActive 2 = false ∧ (s99.fmArea 2 0).2 ≠ 0 ∧
      4096 + 4096 * (⟨8192, 4096, 1⟩ : DataOut).blocks.toNat ≤ (s99.fmArea 2 0).2) := by and_intros <;> decide +kernel

/-- States and operands that meet the hypotheses of this part of WordsOwnPeriodsAndCount, for each of its clauses. -/
theorem witness_WordsOwnTheirPeriods :
    run1.siteOf 0 = some 0 ∧ run1.run 0 = some ({ phase := .running, start := 100000 : Run } : Run) ∧
      ({ phase := .running, start := 100000 : Run } : Run).phase = .running ∧
      ({ phase := .running, start := 100000 : Run } : Run).stop = none ∧
      ({ phase := .running, start := 100000 : Run } : Run).err = none ∧
      ({ phase := .running, start := 100000 : Run } : Run).stall = none ∧ (run1.e 0).seq = 1 ∧ (run1.e 0).own = none ∧
      (run1.e 0).inPeriod = false ∧ (run1.e 0).delay = 0 ∧ 4 * (run1.e 0).next < run1.seqBytes 0 ∧ (run1.e 0).body = none := by decide +kernel

/-- States and operands that meet the hypotheses of ControlWordsTransfer, for each of its clauses. -/
theorem witness_ControlWordsTransfer :
    (s102.siteOf 0 = some 0 ∧ s102.run 0 = some ({ phase := .running, start := 100000 : Run } : Run) ∧
      ({ phase := .running, start := 100000 : Run } : Run).phase = .running ∧
      ({ phase := .running, start := 100000 : Run } : Run).stop = none ∧
      ({ phase := .running, start := 100000 : Run } : Run).err = none ∧
      ({ phase := .running, start := 100000 : Run } : Run).stall = none ∧ (s102.e 0).seq = 1 ∧ (s102.e 0).own = none ∧
      (s102.e 0).inPeriod = false ∧ (s102.e 0).delay = 0 ∧ 4 * (s102.e 0).next < s102.seqBytes 0 ∧ (s102.e 0).loops.length < 4) ∧
    (s102.siteOf 0 = some 0 ∧ s102.run 0 = some ({ phase := .running, start := 100000 : Run } : Run) ∧
      ({ phase := .running, start := 100000 : Run } : Run).phase = .running ∧
      ({ phase := .running, start := 100000 : Run } : Run).stop = none ∧
      ({ phase := .running, start := 100000 : Run } : Run).err = none ∧
      ({ phase := .running, start := 100000 : Run } : Run).stall = none ∧ (s102.e 0).seq = 1 ∧ (s102.e 0).own = none ∧
      (s102.e 0).inPeriod = false ∧ (s102.e 0).delay = 0 ∧ 4 * (s102.e 0).next < s102.seqBytes 0 ∧
      (s102.e 0).loops = (1, 2) :: ([]) ∧ (∀ y, (s102.e 0).body = some y → y.depth < (s102.e 0).loops.length) ∧ 1 = 1) ∧
    (s103.siteOf 0 = some 0 ∧ s103.run 0 = some ({ phase := .running, start := 100000 : Run } : Run) ∧
      ({ phase := .running, start := 100000 : Run } : Run).phase = .running ∧
      ({ phase := .running, start := 100000 : Run } : Run).stop = none ∧
      ({ phase := .running, start := 100000 : Run } : Run).err = none ∧
      ({ phase := .running, start := 100000 : Run } : Run).stall = none ∧ (s103.e 0).seq = 1 ∧ (s103.e 0).own = none ∧
      (s103.e 0).inPeriod = false ∧ (s103.e 0).delay = 0 ∧ 4 * (s103.e 0).next < s103.seqBytes 0 ∧
      (s103.e 0).loops = (2, 2) :: ([]) ∧ (∀ y, (s103.e 0).body = some y → y.depth < (s103.e 0).loops.length) ∧ 2 ≠ 1) ∧
    (s102.siteOf 0 = some 0 ∧ s102.run 0 = some ({ phase := .running, start := 100000 : Run } : Run) ∧
      ({ phase := .running, start := 100000 : Run } : Run).phase = .running ∧
      ({ phase := .running, start := 100000 : Run } : Run).stop = none ∧
      ({ phase := .running, start := 100000 : Run } : Run).err = none ∧
      ({ phase := .running, start := 100000 : Run } : Run).stall = none ∧ (s102.e 0).seq = 1 ∧ (s102.e 0).own = none ∧
      (s102.e 0).inPeriod = false ∧ (s102.e 0).delay = 0 ∧ 4 * (s102.e 0).next < s102.seqBytes 0 ∧ (s102.e 0).body = none ∧
      (s102.e 0).calls.length < 8) ∧
    (s102.siteOf 0 = some 0 ∧ s102.run 0 = some ({ phase := .running, start := 100000 : Run } : Run) ∧
      ({ phase := .running, start := 100000 : Run } : Run).phase = .running ∧
      ({ phase := .running, start := 100000 : Run } : Run).stop = none ∧
      ({ phase := .running, start := 100000 : Run } : Run).err = none ∧
      ({ phase := .running, start := 100000 : Run } : Run).stall = none ∧ (s102.e 0).seq = 1 ∧ (s102.e 0).own = none ∧
      (s102.e 0).inPeriod = false ∧ (s102.e 0).delay = 0 ∧ 4 * (s102.e 0).next < s102.seqBytes 0 ∧ (s102.e 0).body = none ∧
      (s102.e 0).calls = 9 :: ([])) ∧
    (s102.siteOf 0 = some 0 ∧ s102.run 0 = some ({ phase := .running, start := 100000 : Run } : Run) ∧
      ({ phase := .running, start := 100000 : Run } : Run).phase = .running ∧
      ({ phase := .running, start := 100000 : Run } : Run).stop = none ∧
      ({ phase := .running, start := 100000 : Run } : Run).err = none ∧
      ({ phase := .running, start := 100000 : Run } : Run).stall = none ∧ (s102.e 0).seq = 1 ∧ (s102.e 0).own = none ∧
      (s102.e 0).inPeriod = false ∧ (s102.e 0).delay = 0 ∧ 4 * (s102.e 0).next < s102.seqBytes 0 ∧ (s102.e 0).body = none ∧
      (5 : BitVec 8) ≠ 0) ∧
    (s104.siteOf 0 = some 0 ∧ s104.run 0 = some ({ phase := .running, start := 100000 : Run } : Run) ∧
      ({ phase := .running, start := 100000 : Run } : Run).phase = .running ∧
      ({ phase := .running, start := 100000 : Run } : Run).stop = none ∧
      ({ phase := .running, start := 100000 : Run } : Run).err = none ∧
      ({ phase := .running, start := 100000 : Run } : Run).stall = none ∧ (s104.e 0).seq = 1 ∧ (s104.e 0).own = none ∧
      (s104.e 0).inPeriod = false ∧ (s104.e 0).delay = 0 ∧ 4 * (s104.e 0).next < s104.seqBytes 0 ∧
      (s104.e 0).body = some ({ limit := 3, site := true, body := 5, depth := 1, win := some 0 : MatchBody }) ∧
      (s104.e 0).loops.length = ({ limit := 3, site := true, body := 5, depth := 1, win := some 0 : MatchBody }).depth) ∧
    (s102.siteOf 0 = some 0 ∧ s102.run 0 = some ({ phase := .running, start := 100000 : Run } : Run) ∧
      ({ phase := .running, start := 100000 : Run } : Run).phase = .running ∧
      ({ phase := .running, start := 100000 : Run } : Run).stop = none ∧
      ({ phase := .running, start := 100000 : Run } : Run).err = none ∧
      ({ phase := .running, start := 100000 : Run } : Run).stall = none ∧ (s102.e 0).seq = 1 ∧ (s102.e 0).own = none ∧
      (s102.e 0).inPeriod = false ∧ (s102.e 0).delay = 0 ∧ 4 * (s102.e 0).next < s102.seqBytes 0 ∧ (1 : BitVec 2) ≠ 3 ∧
      (true = false → (9 : BitVec 13) = 0)) := by and_intros <;> decide +kernel

/-- States and operands that meet the hypotheses of this part of WordsOwnPeriodsAndCount, for each of its clauses. -/
theorem witness_CounterWords :
    s108.siteOf 0 = some 0 ∧ s108.run 0 = some ({ phase := .running, start := 100000 : Run } : Run) ∧
      ({ phase := .running, start := 100000 : Run } : Run).phase = .running ∧
      ({ phase := .running, start := 100000 : Run } : Run).stop = none ∧
      ({ phase := .running, start := 100000 : Run } : Run).err = none ∧
      ({ phase := .running, start := 100000 : Run } : Run).stall = none ∧ (s108.e 0).seq = 1 ∧ (s108.e 0).own = none ∧
      (s108.e 0).inPeriod = false ∧ (s108.e 0).delay = 0 ∧ 4 * (s108.e 0).next < s108.seqBytes 0 := by decide +kernel

/-- States and operands that meet the hypotheses of SitesFormAndDissolve, for each of its clauses. -/
theorem witness_SitesFormAndDissolve :
    ((mkb (members 0) : HostBlock).wellFormed = true ∧
      crc32c (mkb (members 0) : HostBlock).data = (mkb (members 0) : HostBlock).check ∧
      (∀ k : Nat, k < 4096 → 3 ≤ k → k < 64 ∨ 2112 ≤ k → leAt (mkb (members 0) : HostBlock).data k 1 = 0) ∧
      s109.starts (descId d0 0x12) (rowFields (.siteForm d0 (3 : SiteNo) (mkb (members 0) : HostBlock))) false = true ∧
      s109.cplOn (descId d0 0x12) ∧ (mkb (members 0) : HostBlock).err = none ∧ s109.active 3 = false ∧ s109.cfg.load = none ∧
      (leAt (mkb (members 0) : HostBlock).data 0 2).testBit s109.devNum = true ∧
      ((∀ k : Nat, k < 16 → (leAt (mkb (members 0) : HostBlock).data 0 2).testBit k = true → k = s109.devNum) ∨ ∃ l : Nat, l < 4 ∧ (s109.link l).state = 5) ∧
      leAt (mkb (members 0) : HostBlock).data 2 1 < 2 ∧
      (∀ e : Nat, e < 1024 → (fun (e : Nat) => (leAt (mkb (members 0) : HostBlock).data (64 + 128 * s109.devNum + 4 * (e / 32)) 4).testBit (e % 32)) e = true → s109.parcelOn (e / 32) = true ∧ (s109.siteOf e = none ∨ s109.siteOf e = some 3))) ∧
    ((mkb (members 0) : HostBlock).wellFormed = true ∧
      crc32c (mkb (members 0) : HostBlock).data = (mkb (members 0) : HostBlock).check ∧
      s110.starts (descId d0 0x12) (rowFields (.siteForm d0 (3 : SiteNo) (mkb (members 0) : HostBlock))) false = true ∧
      s110.cplOn (descId d0 0x12) ∧ (mkb (members 0) : HostBlock).err = none ∧
      (s110.active 3 = true ∨ s110.cfg.load ≠ none ∨ (leAt (mkb (members 0) : HostBlock).data 0 2).testBit s110.devNum = false ∨ 2 ≤ leAt (mkb (members 0) : HostBlock).data 2 1 ∨ (∃ e : Nat, e < 1024 ∧ (fun (e : Nat) => (leAt (mkb (members 0) : HostBlock).data (64 + 128 * s110.devNum + 4 * (e / 32)) 4).testBit (e % 32)) e = true ∧ (s110.parcelOn (e / 32) = false ∨ ∃ k ∈ s110.siteOf e, k ≠ 3)))) ∧
    ((mkbad [3] : HostBlock).wellFormed = true ∧ crc32c (mkbad [3] : HostBlock).data ≠ (mkbad [3] : HostBlock).check ∧
      s109.starts (descId d0 0x12) (rowFields (.siteForm d0 (3 : SiteNo) (mkbad [3] : HostBlock))) false = true ∧
      s109.cplOn (descId d0 0x12) ∧ (mkbad [3] : HostBlock).err = none) ∧
    ((mkerr [3] : HostBlock).wellFormed = true ∧
      s109.starts (descId d0 0x12) (rowFields (.siteForm d0 (3 : SiteNo) (mkerr [3] : HostBlock))) false = true ∧
      s109.cplOn (descId d0 0x12) ∧ (mkerr [3] : HostBlock).err = some (1, 0) ∧ 1 ≠ 0) ∧
    (s109.starts (descId d0 0x13) (rowFields (.siteDissolve d0 (3 : SiteNo))) false = true ∧ s109.cplOn (descId d0 0x13) ∧
      s109.active 3 = false) ∧
    (s110.starts (descId d0 0x13) (rowFields (.siteDissolve d0 (3 : SiteNo))) false = true ∧ s110.cplOn (descId d0 0x13) ∧
      s110.active 3 = true) :=
  ⟨⟨mkb_wellFormed _ (by decide +kernel), mkb_check _, fun k _ h2 h3 => members_rest k h2 h3, by decide +kernel⟩,
   ⟨mkb_wellFormed _ (by decide +kernel), mkb_check _, by decide +kernel⟩,
   ⟨mkbad_wellFormed _ (by decide +kernel), mkbad_check _, by decide +kernel⟩,
   ⟨mkerr_wellFormed _ (by decide +kernel), by decide +kernel⟩,
   by decide +kernel,
   by decide +kernel⟩

/-- States and operands that meet the hypotheses of RunsStart, for each of its clauses. -/
theorem witness_RunsStart :
    (SMap.wf siteReset s117.sites = true ∧ s117.hif.evBuf.length < 4096 ∧ (9 : BitVec 16) ≠ 0 ∧
      s117.starts (descId d0 0x14) (rowFields (.runStart d0 (3 : SiteNo) true false (9 : BitVec 16) (100 : Word) (0 : DatumTime))) false = true ∧
      s117.levelChanging 3 = true) ∧
    (SMap.wf siteReset s112.sites = true ∧ s112.hif.evBuf.length < 4096 ∧ (9 : BitVec 16) ≠ 0 ∧
      s112.starts (descId d0 0x14) (rowFields (.runStart d0 (3 : SiteNo) true false (9 : BitVec 16) (100 : Word) (0 : DatumTime))) false = true ∧
      s112.levelChanging 3 = false ∧ s112.startFail 3 none = none) ∧
    (SMap.wf siteReset s114.sites = true ∧ s114.hif.evBuf.length < 4096 ∧ (9 : BitVec 16) ≠ 0 ∧
      s114.starts (descId d0 0x14) (rowFields (.runStart d0 (3 : SiteNo) true false (9 : BitVec 16) (100 : Word) (0 : DatumTime))) false = true ∧
      s114.levelChanging 3 = false ∧ s114.startFail 3 none = some ((StartFail.plain 2)) ∧ s114.cplOn (descId d0 0x14)) ∧
    (SMap.wf siteReset s116.sites = true ∧ s116.hif.evBuf.length < 4096 ∧ s116.run 3 = some preroll ∧ preroll.phase = .preroll ∧
      s116.runsHeld = false ∧ (∀ e ∈ s116.engines 3, s116.prerolled preroll e = true) ∧
      (preroll.up ≠ none ∨ (∃ k ∈ maskBits 16 (s116.site 3).devset, ¬ (fun (k : Nat) => k = s116.devNum ∨ k ∈ preroll.readies) k))) ∧
    (SMap.wf siteReset s114.sites = true ∧ s114.hif.evBuf.length < 4096 ∧ s114.run 3 = some preroll ∧ preroll.phase = .preroll ∧
      s114.runsHeld = false ∧ (∀ e ∈ s114.engines 3, s114.prerolled preroll e = true) ∧ preroll.up = none ∧
      (∀ k ∈ maskBits 16 (s114.site 3).devset, (fun (k : Nat) => k = s114.devNum ∨ k ∈ preroll.readies) k) ∧
      preroll.timed = none) ∧
    (SMap.wf siteReset s115.sites = true ∧ s115.hif.evBuf.length < 4096 ∧
      s115.run 3 = some ({ preroll with timed := some (visible (2 ^ 62)) } : Run) ∧
      ({ preroll with timed := some (visible (2 ^ 62)) } : Run).phase = .preroll ∧ s115.runsHeld = false ∧
      (∀ e ∈ s115.engines 3, s115.prerolled ({ preroll with timed := some (visible (2 ^ 62)) } : Run) e = true) ∧
      ({ preroll with timed := some (visible (2 ^ 62)) } : Run).up = none ∧
      (∀ k ∈ maskBits 16 (s115.site 3).devset, (fun (k : Nat) => k = s115.devNum ∨ k ∈ ({ preroll with timed := some (visible (2 ^ 62)) } : Run).readies) k) ∧
      ({ preroll with timed := some (visible (2 ^ 62)) } : Run).timed = some ((visible (2 ^ 62))) ∧
      (s115.siteTick ({ preroll with timed := some (visible (2 ^ 62)) } : Run) + 8 * ({ preroll with timed := some (visible (2 ^ 62)) } : Run).div + 4 * ({ preroll with timed := some (visible (2 ^ 62)) } : Run).lead) ≤ 4 * s115.tickOf (ofVisible ((visible (2 ^ 62))))) ∧
    (SMap.wf siteReset s119.sites = true ∧ s119.hif.evBuf.length < 4096 ∧
      s119.run 3 = some ({ preroll with timed := some 5, lateOk := true } : Run) ∧
      ({ preroll with timed := some 5, lateOk := true } : Run).phase = .preroll ∧ s119.runsHeld = false ∧
      (∀ e ∈ s119.engines 3, s119.prerolled ({ preroll with timed := some 5, lateOk := true } : Run) e = true) ∧
      ({ preroll with timed := some 5, lateOk := true } : Run).up = none ∧
      (∀ k ∈ maskBits 16 (s119.site 3).devset, (fun (k : Nat) => k = s119.devNum ∨ k ∈ ({ preroll with timed := some 5, lateOk := true } : Run).readies) k) ∧
      ({ preroll with timed := some 5, lateOk := true } : Run).timed = some 5 ∧
      4 * s119.tickOf (ofVisible 5) < (s119.siteTick ({ preroll with timed := some 5, lateOk := true } : Run) + 8 * ({ preroll with timed := some 5, lateOk := true } : Run).div + 4 * ({ preroll with timed := some 5, lateOk := true } : Run).lead) ∧
      ({ preroll with timed := some 5, lateOk := true } : Run).lateOk = true) ∧
    (SMap.wf siteReset s120.sites = true ∧ s120.hif.evBuf.length < 4096 ∧
      s120.run 3 = some ({ preroll with timed := some 5 } : Run) ∧ ({ preroll with timed := some 5 } : Run).phase = .preroll ∧
      s120.runsHeld = false ∧ (∀ e ∈ s120.engines 3, s120.prerolled ({ preroll with timed := some 5 } : Run) e = true) ∧
      ({ preroll with timed := some 5 } : Run).up = none ∧
      (∀ k ∈ maskBits 16 (s120.site 3).devset, (fun (k : Nat) => k = s120.devNum ∨ k ∈ ({ preroll with timed := some 5 } : Run).readies) k) ∧
      ({ preroll with timed := some 5 } : Run).timed = some 5 ∧
      4 * s120.tickOf (ofVisible 5) < (s120.siteTick ({ preroll with timed := some 5 } : Run) + 8 * ({ preroll with timed := some 5 } : Run).div + 4 * ({ preroll with timed := some 5 } : Run).lead) ∧
      ({ preroll with timed := some 5 } : Run).lateOk = false ∧
      ({ preroll with timed := some 5 } : Run).desc = some ((descId d0 0x14) : DescId) ∧ s120.cplOn ((descId d0 0x14) : DescId)) ∧
    (SMap.wf siteReset s118.sites = true ∧ s118.hif.evBuf.length < 4096 ∧ s118.run 3 = some preroll ∧ preroll.phase = .preroll ∧
      (s118.runsHeld = true ∨ (∃ e ∈ s118.engines 3, s118.prerolled preroll e = false))) ∧
    (SMap.wf siteReset s116.sites = true ∧ s116.hif.evBuf.length < 4096 ∧ s116.run 3 = some preroll ∧
      (preroll.phase = .deferred ∨ preroll.phase = .preroll ∨ preroll.phase = .ready) ∧ preroll.up = none ∧
      preroll.desc = some ((descId d0 0x14) : DescId) ∧ s116.cplOn ((descId d0 0x14) : DescId) ∧ s116.spans 3 = true) := by and_intros <;> decide +kernel

/-- States and operands that meet the hypotheses of RunsCommitRunAndEnd, for each of its clauses. -/
theorem witness_RunsCommitRunAndEnd :
    (SMap.wf siteReset s121.sites = true ∧
      s121.run 3 = some (({ preroll with phase := .scheduled, start := 400000 } : Run) : Run) ∧
      (({ preroll with phase := .scheduled, start := 400000 } : Run) : Run).phase = .scheduled ∧ s121.runsHeld = false) ∧
    (SMap.wf siteReset s122.sites = true ∧
      s122.run 3 = some (({ preroll with phase := .committed, start := 400000 } : Run) : Run) ∧
      (({ preroll with phase := .committed, start := 400000 } : Run) : Run).phase = .committed ∧
      s122.hif.evBuf.length + 2 ≤ 4096) ∧
    (SMap.wf siteReset s123.sites = true ∧
      s123.run 3 = some (({ preroll with phase := .draining, endAt := 110000 } : Run) : Run) ∧
      (({ preroll with phase := .draining, endAt := 110000 } : Run) : Run).phase = .draining ∧ s123.drained 3 = true ∧
      s123.engines 3 ≠ [] ∧ (({ preroll with phase := .draining, endAt := 110000 } : Run) : Run).up = none ∧
      (∀ k ∈ maskBits 16 (s123.site 3).devset, k = s123.devNum ∨ k ∈ (({ preroll with phase := .draining, endAt := 110000 } : Run) : Run).dones) ∧
      (({ preroll with phase := .draining, endAt := 110000 } : Run) : Run).desc = some ((descId d0 0x14) : DescId) ∧
      s123.cplOn ((descId d0 0x14) : DescId)) ∧
    (SMap.wf siteReset s124.sites = true ∧
      s124.run 3 = some (({ preroll with phase := .draining, endAt := 110000 } : Run) : Run) ∧
      (({ preroll with phase := .draining, endAt := 110000 } : Run) : Run).phase = .draining ∧ s124.drained 3 = true ∧
      s124.engines 3 ≠ [] ∧ (({ preroll with phase := .draining, endAt := 110000 } : Run) : Run).up = none ∧
      (∃ k ∈ maskBits 16 (s124.site 3).devset, k ≠ s124.devNum ∧ k ∉ (({ preroll with phase := .draining, endAt := 110000 } : Run) : Run).dones)) ∧
    (SMap.wf siteReset s125.sites = true ∧
      s125.run 3 = some (({ preroll with phase := .draining, endAt := 110000, up := some 2, readies := [3] } : Run) : Run) ∧
      (({ preroll with phase := .draining, endAt := 110000, up := some 2, readies := [3] } : Run) : Run).phase = .draining ∧
      s125.drained 3 = true ∧ s125.engines 3 ≠ [] ∧
      (({ preroll with phase := .draining, endAt := 110000, up := some 2, readies := [3] } : Run) : Run).up = some 2 ∧
      (∃ k ∈ (({ preroll with phase := .draining, endAt := 110000, up := some 2, readies := [3] } : Run) : Run).readies, k ∉ (({ preroll with phase := .draining, endAt := 110000, up := some 2, readies := [3] } : Run) : Run).dones)) ∧
    (SMap.wf siteReset s126.sites = true ∧
      s126.run 3 = some (({ preroll with phase := .draining, endAt := 110000, up := some 2 } : Run) : Run) ∧
      (({ preroll with phase := .draining, endAt := 110000, up := some 2 } : Run) : Run).phase = .draining ∧
      s126.drained 3 = true ∧ s126.engines 3 ≠ [] ∧
      (({ preroll with phase := .draining, endAt := 110000, up := some 2 } : Run) : Run).up = some 2 ∧
      (∀ k ∈ (({ preroll with phase := .draining, endAt := 110000, up := some 2 } : Run) : Run).readies, k ∈ (({ preroll with phase := .draining, endAt := 110000, up := some 2 } : Run) : Run).dones)) ∧
    (SMap.wf siteReset s127.sites = true ∧ s127.run 3 = some (({ preroll with phase := .draining } : Run) : Run) ∧
      (({ preroll with phase := .draining } : Run) : Run).phase = .draining ∧ s127.drained 3 = false ∧ s127.engines 3 ≠ []) := by and_intros <;> decide +kernel

/-- States and operands that meet the hypotheses of RunsStopAndReset, for each of its clauses. -/
theorem witness_RunsStopAndReset :
    (SMap.wf siteReset s110.sites = true ∧ s110.starts (descId d0 0x15) (rowFields (.runAbort d0 (3 : SiteNo))) false = true ∧
      s110.run 3 = some ((running : Run) : Run) ∧ ((running : Run) : Run).stoppable = true ∧
      ((running : Run) : Run).stop = none) ∧
    (SMap.wf siteReset s114.sites = true ∧ s114.starts (descId d0 0x15) (rowFields (.runAbort d0 (3 : SiteNo))) false = true ∧
      s114.run 3 = some ((preroll : Run) : Run) ∧ ((preroll : Run) : Run).waiting = true ∧ s114.cplOn (descId d0 0x15)) ∧
    (SMap.wf siteReset s109.sites = true ∧ s109.starts (descId d0 0x15) (rowFields (.runAbort d0 (3 : SiteNo))) false = true ∧
      s109.run 3 = none ∧ s109.cplOn (descId d0 0x15)) ∧
    (SMap.wf siteReset up.sites = true ∧ up.starts (descId d0 0x16) (rowFields (.runReset d0 (3 : SiteNo))) false = true ∧
      (up.site 3).formed = false ∧ up.cplOn (descId d0 0x16)) ∧
    (SMap.wf siteReset s110.sites = true ∧ s110.starts (descId d0 0x16) (rowFields (.runReset d0 (3 : SiteNo))) false = true ∧
      (s110.site 3).formed = true ∧ s110.run 3 = some ((running : Run) : Run) ∧ ((running : Run) : Run).stoppable = true ∧
      ((running : Run) : Run).stop = none) ∧
    (SMap.wf siteReset s114.sites = true ∧ s114.starts (descId d0 0x16) (rowFields (.runReset d0 (3 : SiteNo))) false = true ∧
      (s114.site 3).formed = true ∧ s114.run 3 = some ((preroll : Run) : Run) ∧ ((preroll : Run) : Run).waiting = true ∧
      s114.cplOn (descId d0 0x16)) ∧
    (SMap.wf siteReset s109.sites = true ∧ s109.starts (descId d0 0x16) (rowFields (.runReset d0 (3 : SiteNo))) false = true ∧
      (s109.site 3).formed = true ∧ s109.run 3 = none ∧ s109.cplOn (descId d0 0x16)) ∧
    (SMap.wf siteReset s110.sites = true ∧ s110.cplOn (descId d0 0x17) ∧
      s110.starts (descId d0 0x17) (rowFields (.channelsLiveSet d0)) false = true) ∧
    (SMap.wf siteReset s109.sites = true ∧ s109.cplOn (descId d0 0x17) ∧
      s109.starts (descId d0 0x17) (rowFields (.channelsLiveClear d0)) false = true ∧ s109.activeSites = []) ∧
    (SMap.wf siteReset s110.sites = true ∧ s110.cplOn (descId d0 0x17) ∧
      s110.starts (descId d0 0x17) (rowFields (.channelsLiveClear d0)) false = true ∧
      s110.run 3 = some ((running : Run) : Run) ∧ ((running : Run) : Run).stoppable = true ∧
      ((running : Run) : Run).stop = none) ∧
    (SMap.wf siteReset s128.sites = true ∧ s128.run 3 = some (({ running with stop := some (3, 50000) } : Run) : Run) ∧
      (({ running with stop := some (3, 50000) } : Run) : Run).stoppable = true ∧
      (({ running with stop := some (3, 50000) } : Run) : Run).resets = [] ∧
      (({ running with stop := some (3, 50000) } : Run) : Run).stop = some (3, 50000) ∧
      ((({ running with stop := some (3, 50000) } : Run) : Run).err = none ∨ (({ running with stop := some (3, 50000) } : Run) : Run).errSeen = true ∨ (∃ te, (({ running with stop := some (3, 50000) } : Run) : Run).err = some te ∧ 50000 < te))) ∧
    (SMap.wf siteReset s129.sites = true ∧ s129.run 3 = some (({ running with err := some 50000 } : Run) : Run) ∧
      (({ running with err := some 50000 } : Run) : Run).stoppable = true ∧
      (({ running with err := some 50000 } : Run) : Run).resets = [] ∧
      (({ running with err := some 50000 } : Run) : Run).err = some 50000 ∧
      (({ running with err := some 50000 } : Run) : Run).errSeen = false ∧
      ((({ running with err := some 50000 } : Run) : Run).stop = none ∨ ((({ running with err := some 50000 } : Run) : Run).stop = some (3, 50000) ∧ 50000 ≤ 50000))) := by and_intros <;> decide +kernel

/-- States and operands that meet the hypotheses of SitesStallAndResume, for each of its clauses. -/
theorem witness_SitesStallAndResume :
    (SMap.wf memberReset s130.member = true ∧ SMap.wf siteReset s130.sites = true ∧ s130.run 3 = some ((running : Run) : Run) ∧
      s130.hif.evBuf.length < 4096 ∧ s130.siteOf 0 = some 3 ∧ ((running : Run) : Run).phase = .running ∧ (s130.e 0).seq = 1 ∧
      (s130.e 0).src = 1) ∧
    (SMap.wf memberReset s130.member = true ∧ SMap.wf siteReset s130.sites = true ∧ s130.run 3 = some ((running : Run) : Run) ∧
      s130.hif.evBuf.length < 4096 ∧ s130.siteOf 0 = some 3 ∧ ((running : Run) : Run).phase = .running ∧
      s130.asks ((running : Run) : Run) 0 = false) ∧
    (SMap.wf memberReset s138.member = true ∧ SMap.wf siteReset s138.sites = true ∧ s138.run 3 = some ((running : Run) : Run) ∧
      s138.hif.evBuf.length < 4096 ∧ s138.siteOf 0 = some 3 ∧ ((running : Run) : Run).phase = .running ∧
      s138.asks ((running : Run) : Run) 0 = true ∧ ((running : Run) : Run).stall = none) ∧
    (SMap.wf memberReset s140.member = true ∧ SMap.wf siteReset s140.sites = true ∧
      s140.run 3 = some (({ running with stall := some { stall0 with waiting := [] } } : Run) : Run) ∧
      s140.hif.evBuf.length < 4096 ∧ s140.siteOf 0 = some 3 ∧
      (({ running with stall := some { stall0 with waiting := [] } } : Run) : Run).phase = .running ∧
      s140.asks (({ running with stall := some { stall0 with waiting := [] } } : Run) : Run) 0 = true ∧
      (({ running with stall := some { stall0 with waiting := [] } } : Run) : Run).stall = some (({ stall0 with waiting := [] } : Stall) : Stall) ∧
      (({ stall0 with waiting := [] } : Stall) : Stall).resume = none ∧
      (0, (if s140.askingSource (({ running with stall := some { stall0 with waiting := [] } } : Run) : Run) 0 = 1 then 1 else 2)) ∉ (({ stall0 with waiting := [] } : Stall) : Stall).waiting) ∧
    (SMap.wf memberReset s132.member = true ∧ SMap.wf siteReset s132.sites = true ∧
      s132.run 3 = some (({ running with stall := some stall0 } : Run) : Run) ∧ s132.hif.evBuf.length < 4096 ∧
      (({ running with stall := some stall0 } : Run) : Run).stall = some ((stall0 : Stall) : Stall) ∧
      ((stall0 : Stall) : Stall).frozen = false ∧ (({ running with stall := some stall0 } : Run) : Run).going = true ∧
      (s132.site 3).abort = false) ∧
    (SMap.wf memberReset s133.member = true ∧ SMap.wf siteReset s133.sites = true ∧
      s133.run 3 = some (({ running with stall := some stall0 } : Run) : Run) ∧ s133.hif.evBuf.length < 4096 ∧
      (({ running with stall := some stall0 } : Run) : Run).stall = some ((stall0 : Stall) : Stall) ∧
      ((stall0 : Stall) : Stall).frozen = false ∧ (({ running with stall := some stall0 } : Run) : Run).going = true ∧
      (s133.site 3).abort = true ∧ (({ running with stall := some stall0 } : Run) : Run).stop = none) ∧
    (SMap.wf memberReset s132.member = true ∧ SMap.wf siteReset s132.sites = true ∧
      s132.run 3 = some (({ running with stall := some stall0 } : Run) : Run) ∧ s132.hif.evBuf.length < 4096 ∧
      (({ running with stall := some stall0 } : Run) : Run).stall = some ((stall0 : Stall) : Stall) ∧
      ((stall0 : Stall) : Stall).resume = none ∧ (({ running with stall := some stall0 } : Run) : Run).going = true ∧
      (∃ q ∈ ((stall0 : Stall) : Stall).waiting, s132.resumeReady q = false)) ∧
    (SMap.wf memberReset s134.member = true ∧ SMap.wf siteReset s134.sites = true ∧
      s134.run 3 = some (({ running with stall := some { stall0 with waiting := [], frozen := true } } : Run) : Run) ∧
      s134.hif.evBuf.length < 4096 ∧
      (({ running with stall := some { stall0 with waiting := [], frozen := true } } : Run) : Run).stall = some (({ stall0 with waiting := [], frozen := true } : Stall) : Stall) ∧
      (({ stall0 with waiting := [], frozen := true } : Stall) : Stall).resume = none ∧
      (({ running with stall := some { stall0 with waiting := [], frozen := true } } : Run) : Run).going = true ∧
      (∀ q ∈ (({ stall0 with waiting := [], frozen := true } : Stall) : Stall).waiting, s134.resumeReady q = true) ∧
      ((({ stall0 with waiting := [], frozen := true } : Stall) : Stall).frozen = false ∨ (∀ f ∈ s134.engines 3, s134.asks (({ running with stall := some { stall0 with waiting := [], frozen := true } } : Run) : Run) f = false)) ∧
      (({ running with stall := some { stall0 with waiting := [], frozen := true } } : Run) : Run).up = none ∧
      (({ stall0 with waiting := [], frozen := true } : Stall) : Stall).devs = []) ∧
    (SMap.wf memberReset s142.member = true ∧ SMap.wf siteReset s142.sites = true ∧
      s142.run 3 = some (({ running with stall := some { stall0 with waiting := [], devs := [1] } } : Run) : Run) ∧
      s142.hif.evBuf.length < 4096 ∧
      (({ running with stall := some { stall0 with waiting := [], devs := [1] } } : Run) : Run).stall = some (({ stall0 with waiting := [], devs := [1] } : Stall) : Stall) ∧
      (({ stall0 with waiting := [], devs := [1] } : Stall) : Stall).resume = none ∧
      (({ running with stall := some { stall0 with waiting := [], devs := [1] } } : Run) : Run).going = true ∧
      (∀ q ∈ (({ stall0 with waiting := [], devs := [1] } : Stall) : Stall).waiting, s142.resumeReady q = true) ∧
      ((({ stall0 with waiting := [], devs := [1] } : Stall) : Stall).frozen = false ∨ (∀ f ∈ s142.engines 3, s142.asks (({ running with stall := some { stall0 with waiting := [], devs := [1] } } : Run) : Run) f = false)) ∧
      (({ running with stall := some { stall0 with waiting := [], devs := [1] } } : Run) : Run).up = none ∧
      (({ stall0 with waiting := [], devs := [1] } : Stall) : Stall).devs ≠ []) ∧
    (SMap.wf memberReset s144.member = true ∧ SMap.wf siteReset s144.sites = true ∧
      s144.run 3 = some (({ running with up := some 2, stall := some { stall0 with waiting := [(0, 3)] } } : Run) : Run) ∧
      s144.hif.evBuf.length < 4096 ∧
      (({ running with up := some 2, stall := some { stall0 with waiting := [(0, 3)] } } : Run) : Run).stall = some (({ stall0 with waiting := [(0, 3)] } : Stall) : Stall) ∧
      (({ stall0 with waiting := [(0, 3)] } : Stall) : Stall).resume = none ∧
      (({ running with up := some 2, stall := some { stall0 with waiting := [(0, 3)] } } : Run) : Run).going = true ∧
      (∀ q ∈ (({ stall0 with waiting := [(0, 3)] } : Stall) : Stall).waiting, s144.resumeReady q = true) ∧
      ((({ stall0 with waiting := [(0, 3)] } : Stall) : Stall).frozen = false ∨ (∀ f ∈ s144.engines 3, s144.asks (({ running with up := some 2, stall := some { stall0 with waiting := [(0, 3)] } } : Run) : Run) f = false)) ∧
      (({ running with up := some 2, stall := some { stall0 with waiting := [(0, 3)] } } : Run) : Run).up ≠ none ∧
      (({ stall0 with waiting := [(0, 3)] } : Stall) : Stall).waiting ≠ []) ∧
    (SMap.wf memberReset s136.member = true ∧ SMap.wf siteReset s136.sites = true ∧
      s136.run 3 = some (({ running with stall := some { stall0 with waiting := [], frozen := true, resume := some 60000 } } : Run) : Run) ∧
      s136.hif.evBuf.length < 4096 ∧
      (({ running with stall := some { stall0 with waiting := [], frozen := true, resume := some 60000 } } : Run) : Run).stall = some (({ stall0 with waiting := [], frozen := true, resume := some 60000 } : Stall) : Stall) ∧
      (({ stall0 with waiting := [], frozen := true, resume := some 60000 } : Stall) : Stall).resume = some 60000 ∧
      (({ running with stall := some { stall0 with waiting := [], frozen := true, resume := some 60000 } } : Run) : Run).going = true) := by and_intros <;> decide +kernel

/-- States and operands that meet the hypotheses of PeriodsFollowOneAnother, for each of its clauses. -/
theorem witness_PeriodsFollowOneAnother :
    ((own0.takes = false ∨ ((⟨true, false, [], false, 0, false, 0⟩ : Obs).unc = false ∧ ∃ v u, s148.slotFor ((running : Run) : Run) 0 own0 (own0.double && decide (own0.left % 2 = 1)) = .slot v u)) ∧
      s148.run 3 = some ((running : Run) : Run) ∧ SMap.wf siteReset s148.sites = true ∧ ((running : Run) : Run).stall = none ∧
      ((running : Run) : Run).phase = .running ∧ ((running : Run) : Run).stop = none ∧ ((running : Run) : Run).err = none ∧
      s148.siteOf 0 = some 3 ∧ (s148.e 0).seq = 1 ∧ (s148.e 0).delay = 0 ∧ (s148.e 0).own = some own0 ∧ 0 < own0.left ∧
      s148.tsValid 0 (s148.e 0).ts = true) ∧
    (s149.run 3 = some ((running : Run) : Run) ∧ SMap.wf siteReset s149.sites = true ∧ ((running : Run) : Run).stall = none ∧
      ((running : Run) : Run).phase = .running ∧ ((running : Run) : Run).stop = none ∧ ((running : Run) : Run).err = none ∧
      s149.siteOf 0 = some 3 ∧ (s149.e 0).seq = 1 ∧ (s149.e 0).delay = 0 ∧ (s149.e 0).own = none ∧ (s149.e 0).inPeriod = false ∧
      4 * (s149.e 0).next < s149.seqBytes 0 ∧ (⟨true, false, [], false, 0, false, 0⟩ : Obs).wordUnc = false ∧
      (⟨true, false, [], false, 0, false, 0⟩ : Obs).wordCorr = 0 ∧ wKnown ((s149.e 0).memAt (4 * (s149.e 0).next) 4) = true ∧
      wBad ((s149.e 0).memAt (4 * (s149.e 0).next) 4) = false ∧
      flowError (s149.e 0) ((s149.e 0).memAt (4 * (s149.e 0).next) 4) = none ∧
      wOp ((s149.e 0).memAt (4 * (s149.e 0).next) 4) ≠ 0x11) ∧
    ((∀ f a, f ∈ s150.engines 3 → (s150.e f).seq = 2 → (s150.e f).arrive = some (1, a) → a ≤ 20) ∧
      (∃ f, f ∈ s150.engines 3 ∧ (s150.e f).seq = 2 ∧ (s150.e f).arrive = some (1, 20)) ∧
      s150.run 3 = some ((running : Run) : Run) ∧ SMap.wf siteReset s150.sites = true ∧ ((running : Run) : Run).stall = none ∧
      ((running : Run) : Run).going = true ∧ s150.barrierMet 3 1 = true ∧
      ((s150.waitingAt 3 1).any (s150.asks ((running : Run) : Run))) = false ∧ s150.spans 3 = false ∧
      (∀ f ∈ s150.engines 3, (s150.e f).seq = 4 → (s150.e f).pos ≤ 20)) ∧
    (s152.run 3 = some (({ running with up := some 2 } : Run) : Run) ∧ SMap.wf siteReset s152.sites = true ∧
      (({ running with up := some 2 } : Run) : Run).stall = none ∧ (({ running with up := some 2 } : Run) : Run).going = true ∧
      s152.barrierMet 3 1 = true ∧
      ((s152.waitingAt 3 1).any (s152.asks (({ running with up := some 2 } : Run) : Run))) = false ∧ s152.spans 3 = true ∧
      (∀ q ∈ (({ running with up := some 2 } : Run) : Run).releaseAt, q.1 ≠ 1) ∧
      (({ running with up := some 2 } : Run) : Run).up ≠ none ∧
      (s152.devNum, 1) ∉ (({ running with up := some 2 } : Run) : Run).arrived) ∧
    (s153.run 3 = some (({ running with arrived := [(1, 1)] } : Run) : Run) ∧ SMap.wf siteReset s153.sites = true ∧
      (({ running with arrived := [(1, 1)] } : Run) : Run).stall = none ∧
      (({ running with arrived := [(1, 1)] } : Run) : Run).going = true ∧ s153.barrierMet 3 1 = true ∧
      ((s153.waitingAt 3 1).any (s153.asks (({ running with arrived := [(1, 1)] } : Run) : Run))) = false ∧
      s153.spans 3 = true ∧ (∀ q ∈ (({ running with arrived := [(1, 1)] } : Run) : Run).releaseAt, q.1 ≠ 1) ∧
      (({ running with arrived := [(1, 1)] } : Run) : Run).up = none ∧
      (∀ k ∈ maskBits 16 (s153.site 3).devset, (s153.site 3).counts.getD k 0 = 0 ∨ k = s153.devNum ∨ (k, 1) ∈ (({ running with arrived := [(1, 1)] } : Run) : Run).arrived ∨ k ∈ (({ running with arrived := [(1, 1)] } : Run) : Run).dones)) ∧
    (s154.run 3 = some (({ running with releaseAt := [(1, 60000)] } : Run) : Run) ∧ SMap.wf siteReset s154.sites = true ∧
      (({ running with releaseAt := [(1, 60000)] } : Run) : Run).stall = none ∧
      (({ running with releaseAt := [(1, 60000)] } : Run) : Run).going = true ∧ s154.spans 3 = true ∧
      (({ running with releaseAt := [(1, 60000)] } : Run) : Run).releaseAt = [(1, 60000)] ∧
      ((s154.waitingAt 3 1).any (s154.asks (({ running with releaseAt := [(1, 60000)] } : Run) : Run))) = false) :=
  ⟨⟨Or.inl (by decide +kernel), by decide +kernel⟩,
   by decide +kernel,
   ⟨arrivals, ⟨1, by decide +kernel⟩, by decide +kernel⟩,
   by decide +kernel,
   by decide +kernel,
   by decide +kernel⟩

/-- States and operands that meet the hypotheses of StartAndEndMessages, for each of its clauses. -/
theorem witness_StartAndEndMessages :
    (s155.pwr.state = .run ∧ (s155.link head0.link.toNat).state = 5 ∧ s155.run head0.site.toNat = none ∧
      s155.startFail head0.site.toNat (some (head0.link.toNat, true)) = none) ∧
    (s155.pwr.state = .run ∧ (s155.link head0.link.toNat).state = 5 ∧ s155.run head0.site.toNat = none ∧
      s155.startFail head0.site.toNat (some (head0.link.toNat, false)) = some ((StartFail.plain 7))) ∧
    (s157.pwr.state = .run ∧ (s157.link head0.link.toNat).state = 5 ∧ s157.run head0.site.toNat = some preroll ∧
      preroll.up = none ∧ (s157.site head0.site.toNat).formed = true ∧ (s157.site head0.site.toNat).counts.sum ≠ 0 ∧
      s157.cfg.load = none) ∧
    (s157.pwr.state = .run ∧ (s157.link head0.link.toNat).state = 5 ∧ s157.run head0.site.toNat = some preroll ∧
      preroll.up = none ∧ (preroll.phase = .preroll ∨ preroll.phase = .deferred) ∧
      preroll.readies.contains head0.dev.toNat = false) ∧
    (s157.pwr.state = .run ∧ (s157.link head0.link.toNat).state = 5 ∧ s157.run head0.site.toNat = some preroll ∧
      preroll.up = none ∧ preroll.waiting = true ∧ preroll.desc = some ((descId d0 0x14) : DescId) ∧
      s157.cplOn ((descId d0 0x14) : DescId) ∧ preroll.aborts = [] ∧ preroll.resets = [] ∧ s157.cfg.clearing = [] ∧ 9 ≠ 2) ∧
    (s157.pwr.state = .run ∧ (s157.link head0.link.toNat).state = 5 ∧ s157.run head0.site.toNat = some preroll ∧
      preroll.up = none ∧ preroll.dones.contains head0.dev.toNat = false) ∧
    (s157.pwr.state = .run ∧ (s157.link head0.link.toNat).state = 5 ∧ s157.run head0.site.toNat = some preroll ∧
      preroll.up = none ∧ s157.vco + 4 * preroll.div ≤ 4 * s157.tickOf (ofVisible soon.toNat)) ∧
    (s158.pwr.state = .run ∧ (s158.link head0.link.toNat).state = 5 ∧
      s158.run head0.site.toNat = some ({ preroll with up := some 2, phase := .ready : Run }) ∧
      ({ preroll with up := some 2, phase := .ready : Run }).up = some 2 ∧
      ({ preroll with up := some 2, phase := .ready : Run }).waiting = true ∧
      s158.vco + 4 * ({ preroll with up := some 2, phase := .ready : Run }).div ≤ 4 * s158.tickOf (ofVisible soon.toNat)) ∧
    (s158.pwr.state = .run ∧ (s158.link head0.link.toNat).state = 5 ∧
      s158.run head0.site.toNat = some ({ preroll with up := some 2, phase := .ready : Run }) ∧
      ({ preroll with up := some 2, phase := .ready : Run }).up = some 2 ∧
      ({ preroll with up := some 2, phase := .ready : Run }).waiting = true ∧
      4 * s158.tickOf (ofVisible (5 : DatumTime).toNat) < s158.vco + 4 * ({ preroll with up := some 2, phase := .ready : Run }).div) ∧
    (s159.pwr.state = .run ∧ (s159.link head0.link.toNat).state = 5 ∧
      s159.run head0.site.toNat = some ({ preroll with up := some 2, phase := .ready, desc := none : Run }) ∧
      ({ preroll with up := some 2, phase := .ready, desc := none : Run }).up = some 2 ∧
      ({ preroll with up := some 2, phase := .ready, desc := none : Run }).waiting = true ∧
      ({ preroll with up := some 2, phase := .ready, desc := none : Run }).desc = none ∧
      ({ preroll with up := some 2, phase := .ready, desc := none : Run }).aborts = [] ∧
      ({ preroll with up := some 2, phase := .ready, desc := none : Run }).resets = [] ∧ s159.cfg.clearing = []) ∧
    (s155.pwr.state = .run ∧ (s155.link head0.link.toNat).state = 5 ∧
      ((s155.link head0.link.toNat).sent.find? (fun q => q.1 = 7 % 256) = some (7 % 256, ([1, 2, 3] : List Byte)))) ∧
    (s155.pwr.state = .run ∧ (s155.link head0.link.toNat).state = 5 ∧
      ((s155.link head0.link.toNat).sent.find? (fun q => q.1 = 8 % 256) = none)) := by and_intros <;> decide +kernel

/-- States and operands that meet the hypotheses of StallAndBarrierMessages, for each of its clauses. -/
theorem witness_StallAndBarrierMessages :
    (s160.pwr.state = .run ∧ (s160.link head0.link.toNat).state = 5 ∧ s160.run head0.site.toNat = some running ∧
      running.going = true ∧ s160.vco + 4 * running.div ≤ (4 * s160.tickOf (ofVisible soon.toNat)) ∧ running.stall = none) ∧
    (s161.pwr.state = .run ∧ (s161.link head0.link.toNat).state = 5 ∧
      s161.run head0.site.toNat = some ({ running with stall := some { stall0 with devs := [1], waiting := [] } } : Run) ∧
      ({ running with stall := some { stall0 with devs := [1], waiting := [] } } : Run).going = true ∧
      s161.vco + 4 * ({ running with stall := some { stall0 with devs := [1], waiting := [] } } : Run).div ≤ (4 * s161.tickOf (ofVisible soon.toNat)) ∧
      ({ running with stall := some { stall0 with devs := [1], waiting := [] } } : Run).stall = some (({ stall0 with devs := [1], waiting := [] } : Stall))) ∧
    (s163.pwr.state = .run ∧ (s163.link head0.link.toNat).state = 5 ∧
      s163.run head0.site.toNat = some ({ running with up := some 2, stall := some { stall0 with devs := [1], waiting := [] } } : Run) ∧
      ({ running with up := some 2, stall := some { stall0 with devs := [1], waiting := [] } } : Run).going = true ∧
      s163.vco + 4 * ({ running with up := some 2, stall := some { stall0 with devs := [1], waiting := [] } } : Run).div ≤ (4 * s163.tickOf (ofVisible soon.toNat)) ∧
      ({ running with up := some 2, stall := some { stall0 with devs := [1], waiting := [] } } : Run).up ≠ none ∧
      ({ running with up := some 2, stall := some { stall0 with devs := [1], waiting := [] } } : Run).stall = some (({ stall0 with devs := [1], waiting := [] } : Stall))) ∧
    (s160.pwr.state = .run ∧ (s160.link head0.link.toNat).state = 5 ∧ s160.run head0.site.toNat = some running ∧
      running.going = true ∧ (4 * s160.tickOf (ofVisible (5 : DatumTime).toNat)) < s160.vco + 4 * running.div ∧
      running.stop = none ∧ s160.hif.evBuf.length < 4096) ∧
    (s161.pwr.state = .run ∧ (s161.link head0.link.toNat).state = 5 ∧
      s161.run head0.site.toNat = some ({ running with stall := some { stall0 with devs := [1], waiting := [] } } : Run) ∧
      ({ running with stall := some { stall0 with devs := [1], waiting := [] } } : Run).up = none ∧
      ({ running with stall := some { stall0 with devs := [1], waiting := [] } } : Run).stall = some (({ stall0 with devs := [1], waiting := [] } : Stall))) := by and_intros <;> decide +kernel

/-- States and operands that meet the hypotheses of this part of TimeIsSetAndFollowed, for each of its clauses. -/
theorem witness_FollowersTakeTheReference :
    ((s164.link head0.link.toNat).state = 5 ∧ s164.regF 0x600000 0 2 = 2 ∧ s164.regF 0x600000 2 2 = head0.link.toNat ∧
      s164.tim.tickSeen = true ∧ 30000 = s164.tim.tickB % 2 ^ 16 ∧ s164.tickNo = s164.tim.tickB ∧
      (ofVisible ((BitVec.ofNat 96 (visible up.tim.value)) : DatumTime).toNat = s164.tim.value ∨ ofVisible ((BitVec.ofNat 96 (visible up.tim.value)) : DatumTime).toNat = s164.tim.value + 2 ^ 40) ∧
      s164.tim.value + 2 ^ 40 < 2 ^ 48 * (1000000000 * 2 ^ 40)) ∧
    ((s165.link head0.link.toNat).state = 5 ∧ s165.regF 0x600000 0 2 = 2 ∧ s165.regF 0x600000 2 2 = head0.link.toNat ∧
      (s165.tim.tickSeen = false ∨ 30000 ≠ s165.tim.tickB % 2 ^ 16)) := by and_intros <;> decide +kernel

/-- States and operands that meet the hypotheses of LinksTrain, for each of its clauses. -/
theorem witness_LinksTrain :
    (s166.pwr.state = .run ∧ s166.hif.evBuf.length < 4096 ∧ (s166.reg (linkBase (2))).testBit 0 = false ∧ (9).testBit 0 = true) ∧
    (s168.pwr.state = .run ∧ s168.hif.evBuf.length < 4096 ∧ (s168.reg (linkBase (2))).testBit 0 = true ∧ (9).testBit 0 = true ∧
      s168.linkSites (2) = []) ∧
    (s169.pwr.state = .run ∧ s169.hif.evBuf.length < 4096 ∧ (s169.reg (linkBase (2))).testBit 0 = true ∧ (9).testBit 0 = true ∧
      s169.linkSites (2) ≠ []) ∧
    (s168.pwr.state = .run ∧ s168.hif.evBuf.length < 4096 ∧ (s168.reg (linkBase (2))).testBit 0 = true ∧ (9).testBit 0 = true ∧
      (9).testBit 1 = false) ∧
    (s170.pwr.state = .run ∧ s170.hif.evBuf.length < 4096 ∧ (s170.link (2)).deferRetrain = true ∧ s170.linkSites (2) = []) ∧
    (s182.pwr.state = .run ∧ s182.hif.evBuf.length < 4096 ∧ (s182.link (2)).deferRetrain = true ∧ s182.linkSites (2) ≠ []) ∧
    (s167.pwr.state = .run ∧ s167.hif.evBuf.length < 4096 ∧ (s167.link (2)).state = 1 ∧ ((s167.link (2)).locks ||| 2 ^ 2) ≠ 15) ∧
    (s177.pwr.state = .run ∧ s177.hif.evBuf.length < 4096 ∧ (s177.link (2)).state = 1 ∧ ((s177.link (2)).locks ||| 2 ^ 2) = 15 ∧
      (s177.link (2)).lanes ≠ 15) ∧
    (s171.pwr.state = .run ∧ s171.hif.evBuf.length < 4096 ∧ (s171.link (2)).state = 1 ∧ ((s171.link (2)).locks ||| 2 ^ 2) = 15 ∧
      (s171.link (2)).lanes = 15) ∧
    (s167.pwr.state = .run ∧ s167.hif.evBuf.length < 4096 ∧ ((s167.link (2)).state = 1 ∨ (s167.link (2)).state = 2) ∧ 3 ≤ 8 ∧
      (s167.link (2)).locks ≠ 15) ∧
    (s178.pwr.state = .run ∧ s178.hif.evBuf.length < 4096 ∧ ((s178.link (2)).state = 1 ∨ (s178.link (2)).state = 2) ∧ 3 ≤ 8 ∧
      (s178.link (2)).locks = 15 ∧ ((s178.link (2)).lanes ||| 2 ^ 2) ≠ 15) ∧
    (s179.pwr.state = .run ∧ s179.hif.evBuf.length < 4096 ∧ ((s179.link (2)).state = 1 ∨ (s179.link (2)).state = 2) ∧ 3 ≤ 8 ∧
      (s179.link (2)).locks = 15 ∧ ((s179.link (2)).lanes ||| 2 ^ 2) = 15) ∧
    (s179.pwr.state = .run ∧ s179.hif.evBuf.length < 4096 ∧ ((s179.link (2)).state = 1 ∨ (s179.link (2)).state = 2) ∧ 8 < 9) ∧
    (s174.pwr.state = .run ∧ s174.hif.evBuf.length < 4096 ∧ (s174.link (2)).state = 3 ∧ 7 ≠ (s174.link (2)).devNum ∧
      6 &&& s174.ownVersions (2) ≠ 0) ∧
    (s180.pwr.state = .run ∧ s180.hif.evBuf.length < 4096 ∧ (s180.link (2)).state = 3 ∧
      (7 = (s180.link (2)).devNum ∨ 6 &&& s180.ownVersions (2) = 0)) ∧
    (s174.pwr.state = .run ∧ s174.hif.evBuf.length < 4096 ∧ ((s174.link (2)).state = 3 ∨ (s174.link (2)).state = 4) ∧
      (s174.link (2)).doneOut = false) ∧
    (s176.pwr.state = .run ∧ s176.hif.evBuf.length < 4096 ∧ ((s176.link (2)).state = 3 ∨ (s176.link (2)).state = 4) ∧
      (s176.link (2)).doneOut = true) ∧
    (s176.pwr.state = .run ∧ s176.hif.evBuf.length < 4096 ∧ (s176.link (2)).state = 4 ∧ (s176.link (2)).samples.length < 63) ∧
    (79 < median64 ((s181.link (2)).samples ++ [(248 - 9 + 1) / 2]) ∧ s181.pwr.state = .run ∧ s181.hif.evBuf.length < 4096 ∧
      (s181.link (2)).state = 4 ∧ (s181.link (2)).samples.length = 63) ∧
    (median64 ((s175.link (2)).samples ++ [(48 - 9 + 1) / 2]) ≤ 79 ∧ s175.pwr.state = .run ∧ s175.hif.evBuf.length < 4096 ∧
      (s175.link (2)).state = 4 ∧ (s175.link (2)).samples.length = 63) ∧
    (s175.pwr.state = .run ∧ s175.hif.evBuf.length < 4096 ∧ (s175.link (2)).state = 4 ∧
      (s175.link (2)).samples = List.replicate 63 20 ∧ (48 - 9 + 1) / 2 = 20 ∧ 20 ≤ 79 ∧ (s175.link (2)).doneIn = false) ∧
    (s171.pwr.state = .run ∧ s171.hif.evBuf.length < 4096 ∧ (s171.link (2)).locks ≠ 0 ∧ 1 ≤ (s171.link (2)).state ∧
      (s171.link (2)).state ≤ 4) ∧
    (s166.pwr.state = .run ∧ s166.hif.evBuf.length < 4096 ∧
      ((s166.link (2)).locks = 0 ∨ (s166.link (2)).state = 0 ∨ 5 ≤ (s166.link (2)).state)) ∧
    (s166.pwr.state = .run ∧ s166.hif.evBuf.length < 4096 ∧ ((s166.link (2)).state = 0 ∨ 5 ≤ (s166.link (2)).state)) :=
  ⟨by decide +kernel,
   by decide +kernel,
   by decide +kernel,
   by decide +kernel,
   by decide +kernel,
   by decide +kernel,
   by decide +kernel,
   by decide +kernel,
   by decide +kernel,
   by decide +kernel,
   by decide +kernel,
   by decide +kernel,
   by decide +kernel,
   by decide +kernel,
   by decide +kernel,
   by decide +kernel,
   by decide +kernel,
   by decide +kernel,
   ⟨by rw [median_sorted ((s181.link (2)).samples ++ [(248 - 9 + 1) / 2]) 120 (by decide +kernel) (by decide +kernel) (by decide +kernel)]; decide, by decide +kernel⟩,
   ⟨by rw [median_sorted ((s175.link (2)).samples ++ [(48 - 9 + 1) / 2]) 20 (by decide +kernel) (by decide +kernel) (by decide +kernel)]; decide, by decide +kernel⟩,
   by decide +kernel,
   by decide +kernel,
   by decide +kernel,
   by decide +kernel⟩

/-- States and operands that meet the hypotheses of BulkAndSideWords, for each of its clauses. -/
theorem witness_BulkAndSideWords :
    ((s183.link (2)).state = 5 ∧ (s183.link (2)).waitTx = []) ∧
    ((s183.link (2)).state = 5 ∧ ((s183.link (2)).unacked.all (fun p => decide (p.1 % 256 ≠ 3)) = true)) ∧
    ((s183.link (2)).state = 5 ∧ ((s183.link (2)).unacked.findIdx? (fun p => p.1 % 256 = 9) = some 0)) ∧
    ((s183.link (2)).state = 5 ∧ (s183.link (2)).unacked = (9, bulk0) :: ([] : List (Nat × List Nat)) ∧ 9 % 256 = 9 ∧
      (s183.link (2)).waitTx = [] ∧ (s183.link (2)).copy = none) ∧
    ((s183.link (2)).state = 5 ∧ (s183.link (2)).unacked = (9, bulk0) :: ([] : List (Nat × List Nat)) ∧ 9 % 256 = 9 ∧
      (s183.link (2)).replayAt = []) ∧
    ((s183.link (2)).state = 5 ∧
      packetGood .bulk (some (s183.link (2)).bulkRx) ((bulk0.map (BitVec.ofNat 64) : List Quad).map BitVec.toNat) = true ∧
      hdrLen (((bulk0.map (BitVec.ofNat 64) : List Quad).map BitVec.toNat).headD 0) ≤ 256) ∧
    ((s185.link (2)).state = 5 ∧
      packetGood .bulk (some (s185.link (2)).bulkRx) ((bulk0.map (BitVec.ofNat 64) : List Quad).map BitVec.toNat) = false ∧
      ((s185.link (2)).nakSent = false ∨ hdrSeq (((bulk0.map (BitVec.ofNat 64) : List Quad).map BitVec.toNat).headD 0) = (s185.link (2)).bulkRx)) ∧
    ((s183.link (2)).state = 5 ∧
      s183.starts (descId d0 0x03) (rowFields (.sxlCopy d0 ((BitVec.ofNat 64 (8 * 2 ^ 24)) : Quad) (0 : Quad) (0 : Word) (2 : LinkNo) (⟨0, []⟩ : Ecc) true (none : Option Word))) false = true ∧
      (s183.link (2)).copy = none ∧ s183.dvm.ready = true ∧ ((BitVec.ofNat 64 (8 * 2 ^ 24)) : Quad).toNat % 4096 = 0 ∧
      0 % 4096 = 0 ∧ s183.dvm.within 64 ((BitVec.ofNat 64 (8 * 2 ^ 24)) : Quad).toNat (4096 * 0) = true ∧
      (⟨0, []⟩ : Ecc).bad = [] ∧ 0 = 0 ∧ s183.cplOn (descId d0 0x03)) ∧
    ((∀ k : Nat, k < 1 → s183.dvm.blockOk (((BitVec.ofNat 64 (8 * 2 ^ 24)) : Quad).toNat / 4096 + k) = true) ∧
      (s183.link (2)).state = 5 ∧
      s183.starts (descId d0 0x03) (rowFields (.sxlCopy d0 ((BitVec.ofNat 64 (8 * 2 ^ 24)) : Quad) (0 : Quad) (1 : Word) (2 : LinkNo) (⟨0, []⟩ : Ecc) true (none : Option Word))) false = true ∧
      (s183.link (2)).copy = none ∧ s183.dvm.ready = true ∧ ((BitVec.ofNat 64 (8 * 2 ^ 24)) : Quad).toNat % 4096 = 0 ∧
      0 % 4096 = 0 ∧ s183.dvm.within 64 ((BitVec.ofNat 64 (8 * 2 ^ 24)) : Quad).toNat (4096 * 1) = true ∧
      (⟨0, []⟩ : Ecc).bad = [] ∧ 0 < 1) ∧
    (s188.dvm.blockOk (((BitVec.ofNat 64 (8 * 2 ^ 24)) : Quad).toNat / 4096 + 0) = false ∧
      (∀ j : Nat, j < 0 → s188.dvm.blockOk (((BitVec.ofNat 64 (8 * 2 ^ 24)) : Quad).toNat / 4096 + j) = true) ∧
      (s188.link (2)).state = 5 ∧
      s188.starts (descId d0 0x03) (rowFields (.sxlCopy d0 ((BitVec.ofNat 64 (8 * 2 ^ 24)) : Quad) (0 : Quad) (1 : Word) (2 : LinkNo) (⟨0, []⟩ : Ecc) true (none : Option Word))) false = true ∧
      (s188.link (2)).copy = none ∧ s188.dvm.ready = true ∧ ((BitVec.ofNat 64 (8 * 2 ^ 24)) : Quad).toNat % 4096 = 0 ∧
      0 % 4096 = 0 ∧ s188.dvm.within 64 ((BitVec.ofNat 64 (8 * 2 ^ 24)) : Quad).toNat (4096 * 1) = true ∧
      (⟨0, []⟩ : Ecc).bad = [] ∧ 0 < 1 ∧ (none : Option Word) = none ∧ s188.cplOn (descId d0 0x03)) ∧
    ((s184.link (2)).state = 5 ∧
      (side (2 ^ 7 + 2 ^ 88 * 7) : BitVec 128).toNat / 2 ^ 96 = (crc32c (leBytes 12 (side (2 ^ 7 + 2 ^ 88 * 7) : BitVec 128).toNat)).toNat ∧
      (s184.link (2)).badRun = 0 ∧ (side (2 ^ 7 + 2 ^ 88 * 7) : BitVec 128).toNat / 2 ^ 4 % 2 ^ 3 = 0 ∧
      (side (2 ^ 7 + 2 ^ 88 * 7) : BitVec 128).toNat.testBit 7 = true) ∧
    ((s185.link (2)).state = 5 ∧
      (side (2 ^ 4 + 2 ^ 8) : BitVec 128).toNat / 2 ^ 96 = (crc32c (leBytes 12 (side (2 ^ 4 + 2 ^ 8) : BitVec 128).toNat)).toNat ∧
      (s185.link (2)).badRun = 0 ∧ (side (2 ^ 4 + 2 ^ 8) : BitVec 128).toNat / 2 ^ 4 % 2 ^ 3 = 1 ∧
      (side (2 ^ 4 + 2 ^ 8) : BitVec 128).toNat / 2 ^ 8 % 2 ^ 36 = 1 ∧
      (side (2 ^ 4 + 2 ^ 8) : BitVec 128).toNat.testBit 7 = false ∧ (s185.link (2)).msg = [] ∧ s185.slotSite (2) 0 = some 3 ∧
      s185.slotSite (2) 1 = none ∧ s185.slotSite (2) 2 = none ∧ s185.routeLinks 3 = [(2)] ∧ s185.run 3 = some running ∧
      running.going = true) ∧
    ((s183.link (2)).state = 5 ∧ 5 / 2 ^ 96 ≠ (crc32c (leBytes 12 5)).toNat ∧ (s183.link (2)).badRun = 0) ∧
    ((s186.link (2)).state = 5 ∧ 5 / 2 ^ 96 ≠ (crc32c (leBytes 12 5)).toNat ∧ 0 < (s186.link (2)).badRun) :=
  ⟨by decide +kernel,
   by decide +kernel,
   by decide +kernel,
   by decide +kernel,
   by decide +kernel,
   by decide +kernel,
   by decide +kernel,
   by decide +kernel,
   ⟨fun k hk => blockOk_at _ _ 32768 [] (by obtain rfl := Nat.lt_one_iff.mp hk; decide +kernel) rfl rfl, by decide +kernel⟩,
   ⟨blockBad_at _ _ 32768 [] (by decide +kernel) rfl rfl, fun _ h => absurd h (Nat.not_lt_zero _), by decide +kernel⟩,
   by decide +kernel,
   by decide +kernel,
   by decide +kernel,
   by decide +kernel⟩

/-- States and operands that meet the hypotheses of BenchmarksAreTakenAndRead, for each of its clauses. -/
theorem witness_BenchmarksAreTakenAndRead :
    (s190.starts (descId d0 0x18) (rowFields (.benchTake d0 (5 : BitVec 16) false false false soon)) false = true ∧
      (s190.snp.unread = false ∨ false = true) ∧ s190.snp.pend = none ∧
      (¬ (false = true ∧ (s190.tickOf (ofVisible soon.toNat)) < s190.tim.tick + 8))) ∧
    (s191.starts (descId d0 0x18) (rowFields (.benchTake d0 (5 : BitVec 16) false false false soon)) false = true ∧
      s191.cplOn (descId d0 0x18) ∧
      ((s191.snp.unread = true ∧ false = false) ∨ s191.snp.pend.isSome = true ∨ (false = true ∧ (s191.tickOf (ofVisible soon.toNat)) < s191.tim.tick + 8))) ∧
    (s190.pwr.state = .run ∧ (s190.link head0.link.toNat).state = 5 ∧ (s190.link head0.link.toNat).version = 2 ∧
      s190.benchHeld 5 (s190.tickOf (ofVisible soon.toNat)) = false ∧ (s190.snp.unread = false ∨ false = true) ∧
      s190.snp.pend = none ∧ s190.tim.tick + 8 ≤ (s190.tickOf (ofVisible soon.toNat))) ∧
    (s191.pwr.state = .run ∧ (s191.link head0.link.toNat).state = 5 ∧ (s191.link head0.link.toNat).version = 2 ∧
      s191.benchHeld 5 (s191.tickOf (ofVisible soon.toNat)) = false ∧
      ((s191.snp.unread = true ∧ false = false) ∨ s191.snp.pend.isSome = true ∨ (s191.tickOf (ofVisible soon.toNat)) < s191.tim.tick + 8)) ∧
    s192.snp.pend = some bench0 ∧
    (s193.snp.flight = bench0 :: ([] : List Bench) ∧ bench0.desc = some ((descId d0 0x18) : DescId) ∧
      s193.cplOn ((descId d0 0x18) : DescId) ∧ (∀ k ∈ s193.snp.reading, s193.cplOn k) ∧ s193.hif.evBuf.length < 4096) ∧
    (s190.starts (descId d0 0x19) (rowFields (.benchRead d0 (5 : BitVec 16) (0 : BitVec 16) (200 : BitVec 16) (1 : Byte) true (⟨0, 0, 2⟩ : DataOut) (2 : Word))) false = true ∧
      s190.cplOn (descId d0 0x19) ∧ 1 < 8 ∧ outBad (⟨0, 0, 2⟩ : DataOut) = false ∧ 0 + 200 ≤ 1024 ∧ 5 ≠ s190.snp.lastId) ∧
    (s191.starts (descId d0 0x19) (rowFields (.benchRead d0 (5 : BitVec 16) (0 : BitVec 16) (200 : BitVec 16) (1 : Byte) true (⟨0, 0, 2⟩ : DataOut) (2 : Word))) false = true ∧
      s191.cplOn (descId d0 0x19) ∧ 1 < 8 ∧ outBad (⟨0, 0, 2⟩ : DataOut) = false ∧ 0 + 200 ≤ 1024 ∧ 5 = s191.snp.lastId ∧
      (min (⟨0, 0, 2⟩ : DataOut).blocks.toNat (((32 + 32 * 200 * (1 % 2 + 1 / 2 % 2 + 1 / 4)) + 4095) / 4096)) ≤ 2) ∧
    (s191.starts (descId d0 0x19) (rowFields (.benchRead d0 (5 : BitVec 16) (0 : BitVec 16) (200 : BitVec 16) (1 : Byte) true (⟨0, 0, 2⟩ : DataOut) (0 : Word))) false = true ∧
      s191.cplOn (descId d0 0x19) ∧ 1 < 8 ∧ outBad (⟨0, 0, 2⟩ : DataOut) = false ∧ 0 + 200 ≤ 1024 ∧ 5 = s191.snp.lastId ∧
      0 < (min (⟨0, 0, 2⟩ : DataOut).blocks.toNat (((32 + 32 * 200 * (1 % 2 + 1 / 2 % 2 + 1 / 4)) + 4095) / 4096))) := by and_intros <;> decide +kernel

/-- States and operands that meet the hypotheses of DvmBlocksAreStoredAndRead, for each of its clauses. -/
theorem witness_DvmBlocksAreStoredAndRead :
    ((∀ b ∈ ([mkb [1, 2, 3], mkb []] : List HostBlock), b.wellFormed = true) ∧
      s194.starts (descId d0 0x01) (rowFields (.load d0 (4096 : Quad) ([mkb [1, 2, 3], mkb []] : List HostBlock))) false = true ∧
      s194.cplOn (descId d0 0x01) ∧ ([mkb [1, 2, 3], mkb []] : List HostBlock) ≠ [] ∧ s194.dvm.trainOff = true) ∧
    ((∀ b ∈ ([mkb [1, 2, 3], mkb []] : List HostBlock), b.wellFormed = true) ∧
      up.starts (descId d0 0x01) (rowFields (.load d0 (4097 : Quad) ([mkb [1, 2, 3], mkb []] : List HostBlock))) false = true ∧
      up.cplOn (descId d0 0x01) ∧ ([mkb [1, 2, 3], mkb []] : List HostBlock) ≠ [] ∧ up.dvm.ready = true ∧
      up.dvm.hostRange 4097 (4096 * ([mkb [1, 2, 3], mkb []] : List HostBlock).length) = false) ∧
    ((∀ b ∈ ([mkb [1, 2, 3], mkb []] : List HostBlock), b.wellFormed = true) ∧
      (∀ b ∈ ([mkb [1, 2, 3], mkb []] : List HostBlock), b.err = none ∧ (fun (b : HostBlock) => b.err.any (fun e => decide (e.1 ≠ 0)) || decide (crc32c b.data ≠ b.check)) b = false) ∧
      up.starts (descId d0 0x01) (rowFields (.load d0 (4096 : Quad) ([mkb [1, 2, 3], mkb []] : List HostBlock))) false = true ∧
      up.cplOn (descId d0 0x01) ∧ ([mkb [1, 2, 3], mkb []] : List HostBlock) ≠ [] ∧ up.dvm.ready = true ∧
      up.dvm.hostRange 4096 (4096 * ([mkb [1, 2, 3], mkb []] : List HostBlock).length) = true) ∧
    ((∀ b ∈ ([mkb [1, 2, 3], mkbad []] : List HostBlock), b.wellFormed = true) ∧
      ([mkb [1, 2, 3], mkbad []] : List HostBlock)[1]? = some (mkbad []) ∧
      ((fun (b : HostBlock) => b.err.any (fun e => decide (e.1 ≠ 0)) || decide (crc32c b.data ≠ b.check)) (mkbad []) = true) ∧
      (∀ b ∈ ([mkb [1, 2, 3], mkbad []] : List HostBlock).take 1, (fun (b : HostBlock) => b.err.any (fun e => decide (e.1 ≠ 0)) || decide (crc32c b.data ≠ b.check)) b = false) ∧
      up.starts (descId d0 0x01) (rowFields (.load d0 (4096 : Quad) ([mkb [1, 2, 3], mkbad []] : List HostBlock))) false = true ∧
      up.cplOn (descId d0 0x01) ∧ ([mkb [1, 2, 3], mkbad []] : List HostBlock) ≠ [] ∧ up.dvm.ready = true ∧
      up.dvm.hostRange 4096 (4096 * ([mkb [1, 2, 3], mkbad []] : List HostBlock).length) = true) ∧
    (s194.starts (descId d0 0x02) (rowFields (.dvmRead d0 (4096 : Quad) (⟨8192, 8192, 1⟩ : DataOut) (⟨0, []⟩ : Ecc))) false = true ∧
      s194.cplOn (descId d0 0x02) ∧ outBad (⟨8192, 8192, 1⟩ : DataOut) = false ∧ s194.dvm.trainOff = true) ∧
    (up.starts (descId d0 0x02) (rowFields (.dvmRead d0 (4097 : Quad) (⟨8192, 8192, 2⟩ : DataOut) (⟨0, []⟩ : Ecc))) false = true ∧
      up.cplOn (descId d0 0x02) ∧ outBad (⟨8192, 8192, 2⟩ : DataOut) = false ∧ up.dvm.ready = true ∧
      up.dvm.hostRange 4097 (4096 * (⟨8192, 8192, 2⟩ : DataOut).blocks.toNat) = false) ∧
    ((∀ k : Nat, k < 1 → dvmGood.dvm.blockFails (⟨0, []⟩ : Ecc) (4096 / 4096 + k) = false) ∧
      (1 < (⟨8192, 8192, 1⟩ : DataOut).blocks.toNat → dvmGood.dvm.blockFails (⟨0, []⟩ : Ecc) (4096 / 4096 + 1) = true) ∧
      dvmGood.starts (descId d0 0x02) (rowFields (.dvmRead d0 (4096 : Quad) (⟨8192, 8192, 1⟩ : DataOut) (⟨0, []⟩ : Ecc))) false = true ∧
      dvmGood.cplOn (descId d0 0x02) ∧ outBad (⟨8192, 8192, 1⟩ : DataOut) = false ∧ dvmGood.dvm.ready = true ∧
      dvmGood.dvm.hostRange 4096 (4096 * (⟨8192, 8192, 1⟩ : DataOut).blocks.toNat) = true ∧
      1 ≤ (⟨8192, 8192, 1⟩ : DataOut).blocks.toNat) :=
  ⟨⟨List.forall_mem_cons.mpr ⟨mkb_wellFormed _ (by decide +kernel), (List.forall_mem_cons.mpr ⟨mkb_wellFormed _ (by decide +kernel), (fun _ h => nomatch h)⟩)⟩, by decide +kernel⟩,
   ⟨List.forall_mem_cons.mpr ⟨mkb_wellFormed _ (by decide +kernel), (List.forall_mem_cons.mpr ⟨mkb_wellFormed _ (by decide +kernel), (fun _ h => nomatch h)⟩)⟩, by decide +kernel⟩,
   ⟨List.forall_mem_cons.mpr ⟨mkb_wellFormed _ (by decide +kernel), (List.forall_mem_cons.mpr ⟨mkb_wellFormed _ (by decide +kernel), (fun _ h => nomatch h)⟩)⟩, List.forall_mem_cons.mpr ⟨⟨rfl, mkb_good _⟩, (List.forall_mem_cons.mpr ⟨⟨rfl, mkb_good _⟩, (fun _ h => nomatch h)⟩)⟩, by decide +kernel⟩,
   ⟨List.forall_mem_cons.mpr ⟨mkb_wellFormed _ (by decide +kernel), (List.forall_mem_cons.mpr ⟨mkbad_wellFormed _ (by decide +kernel), (fun _ h => nomatch h)⟩)⟩, rfl, mkbad_bad _, List.forall_mem_cons.mpr ⟨mkb_good _, (fun _ h => nomatch h)⟩, by decide +kernel⟩,
   by decide +kernel,
   by decide +kernel,
   ⟨fun k hk => blockPasses_at _ _ 1 [(4100, 7)] (by obtain rfl := Nat.lt_one_iff.mp hk; decide +kernel) rfl rfl, fun h => absurd h (by decide +kernel), by decide +kernel⟩⟩

/-- States and operands that meet the hypotheses of this part of LocalAndFailMemoryCommands, for each of its clauses. -/
theorem witness_LocalMemoryCommands :
    ((∀ b ∈ ([mkb [1, 2, 3]] : List HostBlock), b.wellFormed = true) ∧
      s196.starts (descId d0 0x10) (rowFields (.localLoad d0 (1 : ParcelNo) (6 : Word) (8 : Word) (16 : Word) ([mkb [1, 2, 3]] : List HostBlock))) false = true ∧
      s196.cplOn (descId d0 0x10) ∧ 6 ≠ 0 ∧ localRangeOk 8 16 ([mkb [1, 2, 3]] : List HostBlock).length = true ∧
      s196.parcelOn 1 = false) ∧
    ((∀ b ∈ ([mkb [1, 2, 3]] : List HostBlock), b.wellFormed = true) ∧
      s197.starts (descId d0 0x10) (rowFields (.localLoad d0 (1 : ParcelNo) (6 : Word) (8 : Word) (16 : Word) ([mkb [1, 2, 3]] : List HostBlock))) false = true ∧
      s197.cplOn (descId d0 0x10) ∧ 6 ≠ 0 ∧ localRangeOk 8 16 ([mkb [1, 2, 3]] : List HostBlock).length = true ∧
      s197.parcelOn 1 = true ∧ (∃ k : Nat, k < 32 ∧ (6).testBit k = true ∧ s197.engActive (32 * 1 + k) = true)) ∧
    ((∀ b ∈ ([mkbad [3]] : List HostBlock), b.wellFormed = true) ∧ ([mkbad [3]] : List HostBlock)[0]? = some (mkbad [3]) ∧
      crc32c (mkbad [3]).data ≠ (mkbad [3]).check ∧
      (∀ j c, j < 0 → ([mkbad [3]] : List HostBlock)[j]? = some c → c.err = none ∧ crc32c c.data = c.check) ∧
      s195.starts (descId d0 0x10) (rowFields (.localLoad d0 (1 : ParcelNo) (6 : Word) (8 : Word) (16 : Word) ([mkbad [3]] : List HostBlock))) false = true ∧
      s195.cplOn (descId d0 0x10) ∧ 6 ≠ 0 ∧ localRangeOk 8 16 ([mkbad [3]] : List HostBlock).length = true ∧
      s195.parcelOn 1 = true ∧ (∀ k : Nat, k < 32 → (6).testBit k = true → s195.engActive (32 * 1 + k) = false) ∧
      (mkbad [3]).err = none) ∧
    ((∀ b ∈ ([mkb [1, 2, 3]] : List HostBlock), b.wellFormed = true) ∧
      (∀ b ∈ ([mkb [1, 2, 3]] : List HostBlock), b.err = none ∧ crc32c b.data = b.check) ∧
      s195.starts (descId d0 0x10) (rowFields (.localLoad d0 (1 : ParcelNo) (6 : Word) (8 : Word) (16 : Word) ([mkb [1, 2, 3]] : List HostBlock))) false = true ∧
      s195.cplOn (descId d0 0x10) ∧ 6 ≠ 0 ∧ localRangeOk 8 16 ([mkb [1, 2, 3]] : List HostBlock).length = true ∧
      s195.parcelOn 1 = true ∧ (∀ k : Nat, k < 32 → (6).testBit k = true → s195.engActive (32 * 1 + k) = false)) ∧
    (s196.starts (descId d0 0x11) (rowFields (.localRead d0 (33 : EngineNo) (8 : Word) (16 : Word) (⟨8192, 4200, 1⟩ : DataOut))) false = true ∧
      s196.cplOn (descId d0 0x11) ∧ outBad (⟨8192, 4200, 1⟩ : DataOut) = false ∧
      localRangeOk 8 16 (⟨8192, 4200, 1⟩ : DataOut).blocks.toNat = true ∧ s196.parcelOn (33 / 32) = false) ∧
    (s195.starts (descId d0 0x11) (rowFields (.localRead d0 (33 : EngineNo) (8 : Word) (16 : Word) (⟨8192, 4200, 1⟩ : DataOut))) false = true ∧
      s195.cplOn (descId d0 0x11) ∧ outBad (⟨8192, 4200, 1⟩ : DataOut) = false ∧
      localRangeOk 8 16 (⟨8192, 4200, 1⟩ : DataOut).blocks.toNat = true ∧ s195.parcelOn (33 / 32) = true) :=
  ⟨⟨List.forall_mem_cons.mpr ⟨mkb_wellFormed _ (by decide +kernel), (fun _ h => nomatch h)⟩, by decide +kernel⟩,
   ⟨List.forall_mem_cons.mpr ⟨mkb_wellFormed _ (by decide +kernel), (fun _ h => nomatch h)⟩, by decide +kernel⟩,
   ⟨List.forall_mem_cons.mpr ⟨mkbad_wellFormed _ (by decide +kernel), (fun _ h => nomatch h)⟩, rfl, mkbad_check _, fun _ _ h => absurd h (Nat.not_lt_zero _), by decide +kernel⟩,
   ⟨List.forall_mem_cons.mpr ⟨mkb_wellFormed _ (by decide +kernel), (fun _ h => nomatch h)⟩, List.forall_mem_cons.mpr ⟨⟨rfl, mkb_check _⟩, (fun _ h => nomatch h)⟩, by decide +kernel⟩,
   by decide +kernel,
   by decide +kernel⟩

/-- States and operands that meet the hypotheses of StreamsFillEngineRings, for each of its clauses. -/
theorem witness_StreamsFillEngineRings :
    (s201.pwr.state = .run ∧ s201.pwr.fromSleep = false ∧ s201.parcelOn (streamParcel ((.engine 3) : StreamId)) = true ∧
      s201.streamed ((.engine 3) : StreamId) = true ∧ s201.dvm.ready = true ∧ (s201.sring ((.engine 3) : StreamId)).st = 1 ∧
      (s201.sring ((.engine 3) : StreamId)).pos = (s201.sring ((.engine 3) : StreamId)).blocks * 512) ∧
    ((s202.dvm.blockFails (⟨0, []⟩ : Ecc)) (((s202.sring ((.engine 3) : StreamId)).base + 8 * (s202.sring ((.engine 3) : StreamId)).pos) / 4096) = true ∧
      s202.pwr.state = .run ∧ s202.pwr.fromSleep = false ∧ s202.parcelOn (streamParcel ((.engine 3) : StreamId)) = true ∧
      s202.streamed ((.engine 3) : StreamId) = true ∧ s202.dvm.ready = true ∧ (s202.sring ((.engine 3) : StreamId)).st = 1 ∧
      (s202.sring ((.engine 3) : StreamId)).pos ≠ (s202.sring ((.engine 3) : StreamId)).blocks * 512) ∧
    ((s204.dvm.blockFails (⟨0, []⟩ : Ecc)) (((s204.sring ((.engine 3) : StreamId)).base + 8 * (s204.sring ((.engine 3) : StreamId)).pos) / 4096) = false ∧
      s204.pwr.state = .run ∧ s204.pwr.fromSleep = false ∧ s204.parcelOn (streamParcel ((.engine 3) : StreamId)) = true ∧
      s204.streamed ((.engine 3) : StreamId) = true ∧ s204.dvm.ready = true ∧ (s204.sring ((.engine 3) : StreamId)).st = 1 ∧
      (s204.sring ((.engine 3) : StreamId)).pos ≠ (s204.sring ((.engine 3) : StreamId)).blocks * 512 ∧
      ((s204.sring ((.engine 3) : StreamId)).blocks * 512 < (s204.sring ((.engine 3) : StreamId)).pos + (hdrLen (s204.dvm.word ((s204.sring ((.engine 3) : StreamId)).base / 8 + (s204.sring ((.engine 3) : StreamId)).pos)) + 2) ∨ s204.swords ((.engine 3) : StreamId) < (hdrLen (s204.dvm.word ((s204.sring ((.engine 3) : StreamId)).base / 8 + (s204.sring ((.engine 3) : StreamId)).pos)) + 2))) ∧
    ((∀ k ∈ packetBlocks (s206.sring ((.engine 3) : StreamId)) (hdrLen (s206.dvm.word ((s206.sring ((.engine 3) : StreamId)).base / 8 + (s206.sring ((.engine 3) : StreamId)).pos)) + 2), (s206.dvm.blockFails (⟨0, []⟩ : Ecc)) k = false) ∧
      (s206.dvm.blockFails (⟨0, []⟩ : Ecc)) (((s206.sring ((.engine 3) : StreamId)).base + 8 * (s206.sring ((.engine 3) : StreamId)).pos) / 4096) = false ∧
      s206.pwr.state = .run ∧ s206.pwr.fromSleep = false ∧ s206.parcelOn (streamParcel ((.engine 3) : StreamId)) = true ∧
      s206.streamed ((.engine 3) : StreamId) = true ∧ s206.dvm.ready = true ∧ (s206.sring ((.engine 3) : StreamId)).st = 1 ∧
      (s206.sring ((.engine 3) : StreamId)).pos ≠ (s206.sring ((.engine 3) : StreamId)).blocks * 512 ∧
      (s206.sring ((.engine 3) : StreamId)).pos + (hdrLen (s206.dvm.word ((s206.sring ((.engine 3) : StreamId)).base / 8 + (s206.sring ((.engine 3) : StreamId)).pos)) + 2) ≤ (s206.sring ((.engine 3) : StreamId)).blocks * 512 ∧
      (hdrLen (s206.dvm.word ((s206.sring ((.engine 3) : StreamId)).base / 8 + (s206.sring ((.engine 3) : StreamId)).pos)) + 2) ≤ s206.swords ((.engine 3) : StreamId) ∧
      s206.swords ((.engine 3) : StreamId) < (hdrLen (s206.dvm.word ((s206.sring ((.engine 3) : StreamId)).base / 8 + (s206.sring ((.engine 3) : StreamId)).pos)) + 2) + (s206.sring ((.engine 3) : StreamId)).q.length) ∧
    ((∀ k ∈ packetBlocks (s198.sring ((.engine 3) : StreamId)) (hdrLen (s198.dvm.word ((s198.sring ((.engine 3) : StreamId)).base / 8 + (s198.sring ((.engine 3) : StreamId)).pos)) + 2), (s198.dvm.blockFails (⟨0, []⟩ : Ecc)) k = false) ∧
      (s198.dvm.blockFails (⟨0, []⟩ : Ecc)) (((s198.sring ((.engine 3) : StreamId)).base + 8 * (s198.sring ((.engine 3) : StreamId)).pos) / 4096) = false ∧
      s198.pwr.state = .run ∧ s198.pwr.fromSleep = false ∧ s198.parcelOn (streamParcel ((.engine 3) : StreamId)) = true ∧
      s198.streamed ((.engine 3) : StreamId) = true ∧ s198.dvm.ready = true ∧ (s198.sring ((.engine 3) : StreamId)).st = 1 ∧
      (s198.sring ((.engine 3) : StreamId)).pos ≠ (s198.sring ((.engine 3) : StreamId)).blocks * 512 ∧
      (s198.sring ((.engine 3) : StreamId)).pos + (hdrLen (s198.dvm.word ((s198.sring ((.engine 3) : StreamId)).base / 8 + (s198.sring ((.engine 3) : StreamId)).pos)) + 2) ≤ (s198.sring ((.engine 3) : StreamId)).blocks * 512 ∧
      (hdrLen (s198.dvm.word ((s198.sring ((.engine 3) : StreamId)).base / 8 + (s198.sring ((.engine 3) : StreamId)).pos)) + 2) ≤ s198.swords ((.engine 3) : StreamId) ∧
      (hdrLen (s198.dvm.word ((s198.sring ((.engine 3) : StreamId)).base / 8 + (s198.sring ((.engine 3) : StreamId)).pos)) + 2) + (s198.sring ((.engine 3) : StreamId)).q.length ≤ s198.swords ((.engine 3) : StreamId) ∧
      (packetGood (streamKind ((.engine 3) : StreamId)) (s198.sring ((.engine 3) : StreamId)).exp (corruptPacket false ((List.range (hdrLen (s198.dvm.word ((s198.sring ((.engine 3) : StreamId)).base / 8 + (s198.sring ((.engine 3) : StreamId)).pos)) + 2)).map (fun i => s198.dvm.word ((s198.sring ((.engine 3) : StreamId)).base / 8 + (s198.sring ((.engine 3) : StreamId)).pos + i)))) = true)) ∧
    ((∀ k ∈ packetBlocks (s207.sring ((.engine 3) : StreamId)) (hdrLen (s207.dvm.word ((s207.sring ((.engine 3) : StreamId)).base / 8 + (s207.sring ((.engine 3) : StreamId)).pos)) + 2), (s207.dvm.blockFails (⟨0, []⟩ : Ecc)) k = false) ∧
      (s207.dvm.blockFails (⟨0, []⟩ : Ecc)) (((s207.sring ((.engine 3) : StreamId)).base + 8 * (s207.sring ((.engine 3) : StreamId)).pos) / 4096) = false ∧
      s207.pwr.state = .run ∧ s207.pwr.fromSleep = false ∧ s207.parcelOn (streamParcel ((.engine 3) : StreamId)) = true ∧
      s207.streamed ((.engine 3) : StreamId) = true ∧ s207.dvm.ready = true ∧ (s207.sring ((.engine 3) : StreamId)).st = 1 ∧
      (s207.sring ((.engine 3) : StreamId)).pos ≠ (s207.sring ((.engine 3) : StreamId)).blocks * 512 ∧
      (s207.sring ((.engine 3) : StreamId)).pos + (hdrLen (s207.dvm.word ((s207.sring ((.engine 3) : StreamId)).base / 8 + (s207.sring ((.engine 3) : StreamId)).pos)) + 2) ≤ (s207.sring ((.engine 3) : StreamId)).blocks * 512 ∧
      (hdrLen (s207.dvm.word ((s207.sring ((.engine 3) : StreamId)).base / 8 + (s207.sring ((.engine 3) : StreamId)).pos)) + 2) ≤ s207.swords ((.engine 3) : StreamId) ∧
      (hdrLen (s207.dvm.word ((s207.sring ((.engine 3) : StreamId)).base / 8 + (s207.sring ((.engine 3) : StreamId)).pos)) + 2) + (s207.sring ((.engine 3) : StreamId)).q.length ≤ s207.swords ((.engine 3) : StreamId) ∧
      (packetGood (streamKind ((.engine 3) : StreamId)) (s207.sring ((.engine 3) : StreamId)).exp (corruptPacket false ((List.range (hdrLen (s207.dvm.word ((s207.sring ((.engine 3) : StreamId)).base / 8 + (s207.sring ((.engine 3) : StreamId)).pos)) + 2)).map (fun i => s207.dvm.word ((s207.sring ((.engine 3) : StreamId)).base / 8 + (s207.sring ((.engine 3) : StreamId)).pos + i)))) = false)) ∧
    (s198.pwr.state = .run ∧ s198.parcelOn (3 / 32) = true ∧ s198.engActive 3 = false) ∧
    (s208.pwr.state = .run ∧ s208.parcelOn (3 / 32) = true ∧ s208.engActive 3 = true) ∧
    ((s208.engActive 3 = true ∨ ∃ f, f / 32 = (3 / 32) ∧ (fun (f : Nat) => (s208.ringBase64 (f / 32) (f % 32), s208.ringUnitsEff f) ≠ ((s208.setReg (engBase 3 + 0x220) (0x501 &&& 0xFF01)).ringBase64 (f / 32) (f % 32), (s208.setReg (engBase 3 + 0x220) (0x501 &&& 0xFF01)).ringUnitsEff f)) f ∧ s208.engActive f = true) ∧
      s208.pwr.state = .run ∧ s208.parcelOn (3 / 32) = true) ∧
    ((∀ f, f / 32 = (3 / 32) → (fun (f : Nat) => (s198.ringBase64 (f / 32) (f % 32), s198.ringUnitsEff f) ≠ ((s198.setReg (engBase 3 + 0x220) (0x501 &&& 0xFF01)).ringBase64 (f / 32) (f % 32), (s198.setReg (engBase 3 + 0x220) (0x501 &&& 0xFF01)).ringUnitsEff f)) f → s198.engActive f = false) ∧
      s198.pwr.state = .run ∧ s198.parcelOn (3 / 32) = true ∧ s198.engActive 3 = false) :=
  ⟨by decide +kernel,
   ⟨blockFails_at _ _ 2 streamMem (by decide +kernel) rfl rfl, by decide +kernel⟩,
   ⟨blockPasses_at _ _ 2 streamMem (by decide +kernel) rfl rfl, by decide +kernel⟩,
   ⟨fun k hk => blockPasses_at _ k 2 streamMem ((by decide +kernel : ∀ k ∈ packetBlocks (s206.sring ((.engine 3) : StreamId)) (hdrLen (s206.dvm.word ((s206.sring ((.engine 3) : StreamId)).base / 8 + (s206.sring ((.engine 3) : StreamId)).pos)) + 2), k = 2) k hk) rfl rfl, blockPasses_at _ _ 2 streamMem (by decide +kernel) rfl rfl, by decide +kernel⟩,
   ⟨fun k hk => blockPasses_at _ k 2 streamMem ((by decide +kernel : ∀ k ∈ packetBlocks (s198.sring ((.engine 3) : StreamId)) (hdrLen (s198.dvm.word ((s198.sring ((.engine 3) : StreamId)).base / 8 + (s198.sring ((.engine 3) : StreamId)).pos)) + 2), k = 2) k hk) rfl rfl, blockPasses_at _ _ 2 streamMem (by decide +kernel) rfl rfl, by decide +kernel⟩,
   ⟨fun k hk => blockPasses_at _ k 2 streamMem ((by decide +kernel : ∀ k ∈ packetBlocks (s207.sring ((.engine 3) : StreamId)) (hdrLen (s207.dvm.word ((s207.sring ((.engine 3) : StreamId)).base / 8 + (s207.sring ((.engine 3) : StreamId)).pos)) + 2), k = 2) k hk) rfl rfl, blockPasses_at _ _ 2 streamMem (by decide +kernel) rfl rfl, by decide +kernel⟩,
   by decide +kernel,
   by decide +kernel,
   ⟨Or.inl (by decide +kernel), by decide +kernel⟩,
   ⟨fun _ _ _ => rfl, by decide +kernel⟩⟩

/-- States and operands that meet the hypotheses of CommandAndFailQueues, for each of its clauses. -/
theorem witness_CommandAndFailQueues :
    ((∀ x ∈ (mkb (wordBytes cq0) : HostBlock) :: ([mkb []] : List HostBlock), x.wellFormed = true) ∧ s212.pwr.state = .run ∧
      s212.parcelOn (1) = true ∧ s212.hif.evBuf.length < 4096 ∧
      s212.starts (descId d0 0x04) (rowFields (.cqPush d0 (1 : ParcelNo) ((mkb (wordBytes cq0) : HostBlock) :: ([mkb []] : List HostBlock)))) false = true ∧
      (s212.p (1)).push = none ∧ (s212.cqSrc (1) = true ∨ ((s212.p 1).cq).st ≠ 1) ∧ s212.cplOn (descId d0 0x04)) ∧
    ((∀ x ∈ (mkb (wordBytes cq0) : HostBlock) :: ([mkb []] : List HostBlock), x.wellFormed = true) ∧
      (∀ x ∈ (mkb (wordBytes cq0) : HostBlock) :: ([mkb []] : List HostBlock), x.err = none ∧ crc32c x.data = x.check) ∧
      s211.pwr.state = .run ∧ s211.parcelOn (1) = true ∧ s211.hif.evBuf.length < 4096 ∧
      s211.starts (descId d0 0x04) (rowFields (.cqPush d0 (1 : ParcelNo) ((mkb (wordBytes cq0) : HostBlock) :: ([mkb []] : List HostBlock)))) false = true ∧
      (s211.p (1)).push = none ∧ s211.cqSrc (1) = false ∧ ((s211.p 1).cq).st = 1 ∧
      leAt (mkb (wordBytes cq0) : HostBlock).data 0 8 ≠ 0) ∧
    ((∀ x ∈ (mkb [] : HostBlock) :: ([mkb []] : List HostBlock), x.wellFormed = true) ∧
      (∀ x ∈ (mkb [] : HostBlock) :: ([mkb []] : List HostBlock), x.err = none ∧ crc32c x.data = x.check) ∧
      s211.pwr.state = .run ∧ s211.parcelOn (1) = true ∧ s211.hif.evBuf.length < 4096 ∧
      s211.starts (descId d0 0x04) (rowFields (.cqPush d0 (1 : ParcelNo) ((mkb [] : HostBlock) :: ([mkb []] : List HostBlock)))) false = true ∧
      (s211.p (1)).push = none ∧ s211.cqSrc (1) = false ∧ ((s211.p 1).cq).st = 1 ∧ leAt (mkb [] : HostBlock).data 0 8 = 0 ∧
      s211.cplOn (descId d0 0x04)) ∧
    ((∀ x ∈ (mkbad [1] : HostBlock) :: ([mkb []] : List HostBlock), x.wellFormed = true) ∧
      crc32c (mkbad [1] : HostBlock).data ≠ (mkbad [1] : HostBlock).check ∧ s211.pwr.state = .run ∧ s211.parcelOn (1) = true ∧
      s211.hif.evBuf.length < 4096 ∧
      s211.starts (descId d0 0x04) (rowFields (.cqPush d0 (1 : ParcelNo) ((mkbad [1] : HostBlock) :: ([mkb []] : List HostBlock)))) false = true ∧
      (s211.p (1)).push = none ∧ s211.cqSrc (1) = false ∧ ((s211.p 1).cq).st = 1 ∧ (mkbad [1] : HostBlock).err = none ∧
      s211.cplOn (descId d0 0x04)) ∧
    (s217.pwr.state = .run ∧ s217.parcelOn (1) = true ∧ s217.hif.evBuf.length < 4096 ∧
      (s217.p (1)).push = some (push0 [2000, 3] : Push) ∧ (push0 [2000, 3] : Push).words = 2000 :: ([3] : List Nat) ∧ 2000 ≠ 0 ∧
      1024 < hdrLen 2000 + 2 ∧ s217.cplOn (push0 [2000, 3] : Push).desc) ∧
    (s218.pwr.state = .run ∧ s218.parcelOn (1) = true ∧ s218.hif.evBuf.length < 4096 ∧
      (s218.p (1)).push = some (push0 [5, 3] : Push) ∧ (push0 [5, 3] : Push).words = 5 :: ([3] : List Nat) ∧ 5 ≠ 0 ∧
      hdrLen 5 + 2 ≤ 1024 ∧ (push0 [5, 3] : Push).words.length < hdrLen 5 + 2 ∧ s218.cplOn (push0 [5, 3] : Push).desc ∧
      (push0 [5, 3] : Push).bad = none) ∧
    (s216.pwr.state = .run ∧ s216.parcelOn (1) = true ∧ s216.hif.evBuf.length < 4096 ∧
      (s216.p (1)).push = some (push0 (cq0 ++ [0]) : Push) ∧
      (push0 (cq0 ++ [0]) : Push).words = ((cq0.headD 0) : Nat) :: ((cq0.drop 1 ++ [0]) : List Nat) ∧
      ((cq0.headD 0) : Nat) ≠ 0 ∧ hdrLen ((cq0.headD 0) : Nat) + 2 ≤ 1024 ∧
      hdrLen ((cq0.headD 0) : Nat) + 2 ≤ (push0 (cq0 ++ [0]) : Push).words.length ∧
      1024 < hdrLen ((cq0.headD 0) : Nat) + 2 + ((s216.p 1).cq).q.length) ∧
    (s213.pwr.state = .run ∧ s213.parcelOn (1) = true ∧ s213.hif.evBuf.length < 4096 ∧
      (s213.p (1)).push = some (push0 (cq0 ++ [0]) : Push) ∧
      (push0 (cq0 ++ [0]) : Push).words = ((cq0.headD 0) : Nat) :: ((cq0.drop 1 ++ [0]) : List Nat) ∧
      ((cq0.headD 0) : Nat) ≠ 0 ∧ hdrLen ((cq0.headD 0) : Nat) + 2 ≤ 1024 ∧
      hdrLen ((cq0.headD 0) : Nat) + 2 ≤ (push0 (cq0 ++ [0]) : Push).words.length ∧
      hdrLen ((cq0.headD 0) : Nat) + 2 + ((s213.p 1).cq).q.length ≤ 1024 ∧
      packetGood .cq ((s213.p 1).cq).exp (corruptPacket false ((push0 (cq0 ++ [0]) : Push).words.take (hdrLen ((cq0.headD 0) : Nat) + 2))) = true) ∧
    (s215.pwr.state = .run ∧ s215.parcelOn (1) = true ∧ s215.hif.evBuf.length < 4096 ∧
      (s215.p (1)).push = some (push0 (cq0 ++ [0]) : Push) ∧
      (push0 (cq0 ++ [0]) : Push).words = ((cq0.headD 0) : Nat) :: ((cq0.drop 1 ++ [0]) : List Nat) ∧
      ((cq0.headD 0) : Nat) ≠ 0 ∧ hdrLen ((cq0.headD 0) : Nat) + 2 ≤ 1024 ∧
      hdrLen ((cq0.headD 0) : Nat) + 2 ≤ (push0 (cq0 ++ [0]) : Push).words.length ∧
      hdrLen ((cq0.headD 0) : Nat) + 2 + ((s215.p 1).cq).q.length ≤ 1024 ∧
      packetGood .cq ((s215.p 1).cq).exp (corruptPacket false ((push0 (cq0 ++ [0]) : Push).words.take (hdrLen ((cq0.headD 0) : Nat) + 2))) = false) ∧
    (s211.pwr.state = .run ∧ s211.parcelOn (1) = true ∧ s211.hif.evBuf.length < 4096 ∧ (s211.p (1)).push = none) ∧
    (s219.pwr.state = .run ∧ s219.parcelOn (1) = true ∧ s219.hif.evBuf.length < 4096 ∧ s219.portsOpen (1) = true ∧
      (s219.p (1)).cqShow ≠ none ∧ (((s219.p 1).cq).cqWord s219.netEdge).isSome = true ∧ (s219.p (1)).cqAt ≠ some s219.netEdge ∧
      ((s219.p 1).cq).q = ((cq0.headD 0) : Nat) :: 10 :: 11 :: ((cq0.drop 3) : List Nat) ∧ ((s219.p 1).cq).inPkt = false ∧
      ((s219.p 1).cq).keep = [] ∧ hdrType ((cq0.headD 0) : Nat) = 0x10 ∧ hdrLen ((cq0.headD 0) : Nat) = 2) ∧
    (s211.pwr.state = .run ∧ s211.parcelOn (1) = true ∧ s211.hif.evBuf.length < 4096 ∧
      (s211.portsOpen (1) = false ∨ (s211.p (1)).cqShow = none ∨ ((s211.p 1).cq).cqWord s211.netEdge = none ∨ (s211.p (1)).cqAt = some s211.netEdge)) ∧
    (s220.pwr.state = .run ∧ s220.parcelOn (1) = true ∧ s220.hif.evBuf.length < 4096 ∧ s220.parActive (1) = true) ∧
    (s211.pwr.state = .run ∧ s211.parcelOn (1) = true ∧ s211.hif.evBuf.length < 4096 ∧ s211.parActive (1) = false) :=
  ⟨⟨List.forall_mem_cons.mpr ⟨mkb_wellFormed _ (by decide +kernel), (List.forall_mem_cons.mpr ⟨mkb_wellFormed _ (by decide +kernel), (fun _ h => nomatch h)⟩)⟩, by decide +kernel⟩,
   ⟨List.forall_mem_cons.mpr ⟨mkb_wellFormed _ (by decide +kernel), (List.forall_mem_cons.mpr ⟨mkb_wellFormed _ (by decide +kernel), (fun _ h => nomatch h)⟩)⟩, List.forall_mem_cons.mpr ⟨⟨rfl, mkb_check _⟩, (List.forall_mem_cons.mpr ⟨⟨rfl, mkb_check _⟩, (fun _ h => nomatch h)⟩)⟩, by decide +kernel⟩,
   ⟨List.forall_mem_cons.mpr ⟨mkb_wellFormed _ (by decide +kernel), (List.forall_mem_cons.mpr ⟨mkb_wellFormed _ (by decide +kernel), (fun _ h => nomatch h)⟩)⟩, List.forall_mem_cons.mpr ⟨⟨rfl, mkb_check _⟩, (List.forall_mem_cons.mpr ⟨⟨rfl, mkb_check _⟩, (fun _ h => nomatch h)⟩)⟩, by decide +kernel⟩,
   ⟨List.forall_mem_cons.mpr ⟨mkbad_wellFormed _ (by decide +kernel), (List.forall_mem_cons.mpr ⟨mkb_wellFormed _ (by decide +kernel), (fun _ h => nomatch h)⟩)⟩, mkbad_check _, by decide +kernel⟩,
   by decide +kernel,
   by decide +kernel,
   by decide +kernel,
   by decide +kernel,
   by decide +kernel,
   by decide +kernel,
   by decide +kernel,
   by decide +kernel,
   by decide +kernel,
   by decide +kernel⟩

/-- States and operands that meet the hypotheses of DvmIsTrainedAndPartitioned, for each of its clauses. -/
theorem witness_DvmIsTrainedAndPartitioned :
    (up.pwr.state = .run ∧ up.hif.evBuf.length < 4096 ∧ up.partFail = none) ∧
    (s222.pwr.state = .run ∧ s222.hif.evBuf.length < 4096 ∧ s222.partFail = some (1, 0)) ∧
    (s223.pwr.state = .run ∧ s223.hif.evBuf.length < 4096 ∧
      (s223.dvm.retrainReq = true ∨ (s223.dvm.needed = true ∧ (s223.reg 0x900014).testBit 1 = true)) ∧ s223.activeSites = [] ∧
      s223.dvm.trained = true ∧ s223.dvm.selfRefresh = false) ∧
    (up.pwr.state = .run ∧ up.hif.evBuf.length < 4096 ∧
      (¬ (up.dvm.retrainReq = true ∨ (up.dvm.needed = true ∧ (up.reg 0x900014).testBit 1 = true)) ∨ up.activeSites ≠ [])) ∧
    (up.pwr.state = .run ∧ up.hif.evBuf.length < 4096 ∧ (up.dvm.trained = true ∨ up.dvm.trainOff = true)) ∧
    (up.pwr.state = .run ∧ up.hif.evBuf.length < 4096 ∧ (up.dvm.trained = false ∨ up.dvm.initDone = true)) ∧
    (s224.pwr.state = .run ∧ s224.hif.evBuf.length < 4096 ∧ (s224.dvm.trained = false ∨ s224.dvm.selfRefresh = true)) ∧
    (s224.pwr.state = .run ∧ s224.hif.evBuf.length < 4096 ∧ s224.dvm.trained = false ∧ s224.dvm.trainOff = false) ∧
    (s225.pwr.state = .run ∧ s225.hif.evBuf.length < 4096 ∧ s225.dvm.trained = true ∧ s225.dvm.initDone = false) ∧
    (up.pwr.state = .run ∧ up.hif.evBuf.length < 4096 ∧ up.dvm.trained = true ∧ up.dvm.selfRefresh = false) := by and_intros <;> decide +kernel

/-- States and operands that meet the hypotheses of CalibrationTableAndDrift, for each of its clauses. -/
theorem witness_CalibrationTableAndDrift :
    ((mkb calBytes : HostBlock).wellFormed = true ∧ s100.pwr.state = .run ∧
      s100.starts (descId d0 0x1D) (rowFields (.calLoad d0 (1 : ParcelNo) (mkb calBytes : HostBlock))) false = true ∧
      s100.cplOn (descId d0 0x1D) ∧ (mkb calBytes : HostBlock).err = none ∧ s100.parcelOn (1) = false) ∧
    ((mkbad calBytes : HostBlock).wellFormed = true ∧
      crc32c (mkbad calBytes : HostBlock).data ≠ (mkbad calBytes : HostBlock).check ∧ up.pwr.state = .run ∧
      up.starts (descId d0 0x1D) (rowFields (.calLoad d0 (1 : ParcelNo) (mkbad calBytes : HostBlock))) false = true ∧
      up.cplOn (descId d0 0x1D) ∧ (mkbad calBytes : HostBlock).err = none ∧ up.parcelOn (1) = true) ∧
    ((mkb calBytes : HostBlock).wellFormed = true ∧ crc32c (mkb calBytes : HostBlock).data = (mkb calBytes : HostBlock).check ∧
      leAt (mkb calBytes : HostBlock).data 2 1 ≤ topLevel ∧ up.pwr.state = .run ∧
      up.starts (descId d0 0x1D) (rowFields (.calLoad d0 (1 : ParcelNo) (mkb calBytes : HostBlock))) false = true ∧
      up.cplOn (descId d0 0x1D) ∧ (mkb calBytes : HostBlock).err = none ∧ up.parcelOn (1) = true ∧
      calBlockOk (1) (mkb calBytes : HostBlock).data = true ∧ up.parActive (1) = false) ∧
    ((mkb [0x31] : HostBlock).wellFormed = true ∧ crc32c (mkb [0x31] : HostBlock).data = (mkb [0x31] : HostBlock).check ∧
      (calBlockOk (1) (mkb [0x31] : HostBlock).data = false ∨ topLevel < leAt (mkb [0x31] : HostBlock).data 2 1 ∨ up.parActive (1) = true) ∧
      up.pwr.state = .run ∧
      up.starts (descId d0 0x1D) (rowFields (.calLoad d0 (1 : ParcelNo) (mkb [0x31] : HostBlock))) false = true ∧
      up.cplOn (descId d0 0x1D) ∧ (mkb [0x31] : HostBlock).err = none ∧ up.parcelOn (1) = true) ∧
    (up.pwr.state = .run ∧ up.parcelOn (1) = true ∧ up.engActive (32 * (1) + (3 : Fin 32)) = false) ∧
    (s229.pwr.state = .run ∧ s229.parcelOn (1) = true ∧ s229.engActive (32 * (1) + (3 : Fin 32)) = true) ∧
    (s229.pwr.state = .run ∧ s229.parcelOn (1) = true ∧ s229.parActive (1) = true) ∧
    (up.pwr.state = .run ∧ up.parcelOn (1) = true ∧ up.parActive (1) = false ∧
      ((5).testBit 16 = true → up.entryOk (1) 2 = true)) ∧
    (s227.pwr.state = .run ∧ s227.parcelOn (1) = true ∧ s227.parActive (1) = false ∧ (0x10005).testBit 16 = true ∧
      s227.entryOk (1) 2 = false) ∧
    (s100.pwr.state = .run ∧
      s100.starts (descId d0 0x1C) (rowFields (.calMeasure d0 (1 : ParcelNo) (0 : Byte) (1 : Byte) (2 : Byte) (6 : Word) (50 : Word) (100 : Word) (200 : BitVec 16) (⟨8192, 4096, 1⟩ : DataOut) (⟨50, 34, 2, []⟩ : CalSeen))) false = true ∧
      (s100.p (1)).meas = none ∧ outBad (⟨8192, 4096, 1⟩ : DataOut) = false ∧ (⟨8192, 4096, 1⟩ : DataOut).blocks.toNat = 1 ∧
      0 < 12 ∧ 1 < 32 ∧ 2 ≠ 0 ∧ 100 ≠ 0 ∧ 100 ≤ 65536 ∧ 128 ≤ 200 ∧ s100.parcelOn (1) = false ∧ s100.cplOn (descId d0 0x1C)) ∧
    (s229.pwr.state = .run ∧
      s229.starts (descId d0 0x1C) (rowFields (.calMeasure d0 (1 : ParcelNo) (0 : Byte) (1 : Byte) (2 : Byte) (6 : Word) (50 : Word) (100 : Word) (200 : BitVec 16) (⟨8192, 4096, 1⟩ : DataOut) (⟨50, 34, 2, []⟩ : CalSeen))) false = true ∧
      (s229.p (1)).meas = none ∧ outBad (⟨8192, 4096, 1⟩ : DataOut) = false ∧ (⟨8192, 4096, 1⟩ : DataOut).blocks.toNat = 1 ∧
      0 < 12 ∧ 1 < 32 ∧ 2 ≠ 0 ∧ 100 ≠ 0 ∧ 100 ≤ 65536 ∧ 128 ≤ 200 ∧ s229.parcelOn (1) = true ∧
      (s229.parActive (1) = true ∨ s229.cfg.live = false) ∧ s229.cplOn (descId d0 0x1C)) ∧
    (up.pwr.state = .run ∧
      up.starts (descId d0 0x1C) (rowFields (.calMeasure d0 (1 : ParcelNo) (0 : Byte) (1 : Byte) (2 : Byte) (6 : Word) (50 : Word) (100 : Word) (200 : BitVec 16) (⟨8192, 4096, 1⟩ : DataOut) (⟨50, 34, 2, []⟩ : CalSeen))) false = true ∧
      (up.p (1)).meas = none ∧ outBad (⟨8192, 4096, 1⟩ : DataOut) = false ∧ (⟨8192, 4096, 1⟩ : DataOut).blocks.toNat = 1 ∧
      0 < 12 ∧ 1 < 32 ∧ 2 ≠ 0 ∧ 100 ≠ 0 ∧ 100 ≤ 65536 ∧ 128 ≤ 200 ∧ up.parcelOn (1) = true ∧ up.parActive (1) = false ∧
      up.cfg.live = true) ∧
    (up.pwr.state = .run ∧ up.parcelOn (1) = true ∧ up.tim.locked = true ∧ up.sitesOf (1) = [] ∧
      ([(300, 200)] : List (BitVec 20 × BitVec 20)) ≠ [] ∧
      (([(300, 200)] : List (BitVec 20 × BitVec 20)).all (fun q => decide (q.1.toNat + q.2.toNat = 250 * 2)) = true)) :=
  ⟨⟨mkb_wellFormed _ (by decide +kernel), by decide +kernel⟩,
   ⟨mkbad_wellFormed _ (by decide +kernel), mkbad_check _, by decide +kernel⟩,
   ⟨mkb_wellFormed _ (by decide +kernel), mkb_check _, Nat.le_trans (m := 2) (by decide +kernel) (by unfold topLevel; split <;> decide), by decide +kernel⟩,
   ⟨mkb_wellFormed _ (by decide +kernel), mkb_check _, Or.inl (by decide +kernel), by decide +kernel⟩,
   by decide +kernel,
   by decide +kernel,
   by decide +kernel,
   by decide +kernel,
   by decide +kernel,
   by decide +kernel,
   by decide +kernel,
   by decide +kernel,
   by decide +kernel⟩

/-- States and operands that meet the hypotheses of FabricReachesParcelsAndMemory, for each of its clauses. -/
theorem witness_FabricReachesParcelsAndMemory :
    (s234.pwr.state = .run ∧ s234.hif.evBuf.length < 4096 ∧ s234.portsOpen (34 / 32) = false) ∧
    (s230.pwr.state = .run ∧ s230.hif.evBuf.length < 4096 ∧ s230.portsOpen (34 / 32) = true ∧ (s230.v 34).rdy = true) ∧
    (s231.pwr.state = .run ∧ s231.hif.evBuf.length < 4096 ∧ s231.portsOpen (34 / 32) = true ∧ (s231.v 34).rdy = false) ∧
    (s230.pwr.state = .run ∧ s230.hif.evBuf.length < 4096 ∧ s230.portsOpen 1 = true ∧ s230.mapMode 1 = true ∧
      (s230.p 1).mardy = true) ∧
    (s231.pwr.state = .run ∧ s231.hif.evBuf.length < 4096 ∧ s231.portsOpen 1 = true ∧ s231.mapMode 1 = true ∧
      (s231.p 1).mardy = false ∧
      (((((some (77, true)) : Option (BitVec 40 × Bool)).toList ++ ((some (78, false)) : Option (BitVec 40 × Bool)).toList).map (fun y => (y.1.toNat, y.2))) ≠ [])) ∧
    (s232.pwr.state = .run ∧ s232.hif.evBuf.length < 4096 ∧ (s232.portsOpen 1 = false ∨ s232.mapMode 1 = false)) ∧
    (s230.pwr.state = .run ∧ s230.hif.evBuf.length < 4096 ∧ s230.parcelOn 1 = true ∧ s230.parActive 1 = false) ∧
    (s233.pwr.state = .run ∧ s233.hif.evBuf.length < 4096 ∧ s233.parcelOn 1 = true ∧ s233.parActive 1 = true) ∧
    (s230.pwr.state = .run ∧ s230.hif.evBuf.length < 4096 ∧ s230.fab.clocks = true) ∧
    (s234.pwr.state = .run ∧ s234.hif.evBuf.length < 4096 ∧ s234.fab.clocks = false) ∧
    (s230.pwr.state = .run ∧ s230.hif.evBuf.length < 4096 ∧ s230.fab.gsr = false ∧ s230.cfg.loaded = true ∧
      (((maskBits 80 (s230.fab.ramFlip.get zeroNat (512 * (70 : Fin 4608).val + 5) ^^^ (([] : List (Fin 80)).dedup.map (fun i => 2 ^ i.val)).sum)).length) = 0)) ∧
    (s230.pwr.state = .run ∧ s230.hif.evBuf.length < 4096 ∧ s230.fab.gsr = false ∧ s230.cfg.loaded = true ∧
      (((maskBits 80 (s230.fab.ramFlip.get zeroNat (512 * (70 : Fin 4608).val + 5) ^^^ (([7] : List (Fin 80)).dedup.map (fun i => 2 ^ i.val)).sum)).length) = 1)) ∧
    (s230.pwr.state = .run ∧ s230.hif.evBuf.length < 4096 ∧ s230.fab.gsr = false ∧ s230.cfg.loaded = true ∧
      (2 ≤ ((maskBits 80 (s230.fab.ramFlip.get zeroNat (512 * (70 : Fin 4608).val + 5) ^^^ (([7, 8] : List (Fin 80)).dedup.map (fun i => 2 ^ i.val)).sum)).length))) ∧
    (s235.pwr.state = .run ∧ s235.hif.evBuf.length < 4096 ∧ (s235.fab.gsr = true ∨ s235.cfg.loaded = false)) ∧
    (s232.pwr.state = .run ∧ s232.hif.evBuf.length < 4096 ∧ (512 * (70 : Fin 4608).val + 5) ∈ s232.fab.ramBack) ∧
    (s230.pwr.state = .run ∧ s230.hif.evBuf.length < 4096 ∧ (512 * (70 : Fin 4608).val + 5) ∉ s230.fab.ramBack) := by and_intros <;> decide +kernel

/-- States and operands that meet the hypotheses of ReadbackIsCapturedAndRead, for each of its clauses. -/
theorem witness_ReadbackIsCapturedAndRead :
    (s237.starts (descId d0 0x27) (rowFields (.readbackCapture d0 (9 : BitVec 16) (0 : BitVec 5) false true (5 : DatumTime))) false = true ∧
      (¬ ((s237.fab.rbUnread = true ∧ true = false) ∨ s237.fab.gsr = true ∨ s237.cfg.loaded = false)) ∧ s237.fab.rbPend = none ∧
      (¬ (false = true ∧ ofVisible (5 : DatumTime).toNat < s237.tim.value))) ∧
    (s239.starts (descId d0 0x27) (rowFields (.readbackCapture d0 (9 : BitVec 16) (0 : BitVec 5) false true (5 : DatumTime))) false = true ∧
      (((s239.fab.rbUnread = true ∧ true = false) ∨ s239.fab.gsr = true ∨ s239.cfg.loaded = false) ∨ s239.fab.rbPend.isSome = true ∨ (false = true ∧ ofVisible (5 : DatumTime).toNat < s239.tim.value)) ∧
      s239.cplOn (descId d0 0x27)) ∧
    (s241.fab.rbPend = some rb1 ∧ rb1.shot = some (([(3, true)]), 77) ∧ s241.cplOn rb1.desc) ∧
    (s239.fab.rbPend = some rb0 ∧ rb0.shot = none) ∧
    (s243.fab.rbPend = some rb2 ∧ rb2.shot = none ∧
      (if rb2.timed then rb2.t + 1000000 * 2 ^ 40 ≤ s243.tim.value else rb2.from_ + 1500000 ≤ s243.tim.tick) ∧
      s243.cplOn rb2.desc) ∧
    (s239.fab.rbPend = some rb0 ∧ (rb0.shot.isSome = true ∨ s239.captureLate rb0 = false)) ∧
    (s240.starts (descId d0 0x28) (rowFields (.readbackRead d0 (9 : BitVec 16) (0 : Word) (11 : BitVec 16) true (⟨0, 4096, 2⟩ : DataOut))) false = true ∧
      s240.cplOn (descId d0 0x28) ∧ outBad (⟨0, 4096, 2⟩ : DataOut) = false ∧ 0 < 11 ∧ 0 + 11 ≤ 384 ∧
      (⟨0, 4096, 2⟩ : DataOut).blocks.toNat = (11 + 7) / 8 ∧ s240.fab.rbHeld = true ∧ 9 = s240.fab.rbId) ∧
    (s237.starts (descId d0 0x28) (rowFields (.readbackRead d0 (9 : BitVec 16) (0 : Word) (11 : BitVec 16) true (⟨0, 4096, 2⟩ : DataOut))) false = true ∧
      s237.cplOn (descId d0 0x28) ∧ outBad (⟨0, 4096, 2⟩ : DataOut) = false ∧ 0 < 11 ∧ 0 + 11 ≤ 384 ∧
      (⟨0, 4096, 2⟩ : DataOut).blocks.toNat = (11 + 7) / 8 ∧ (s237.fab.rbHeld = false ∨ 9 ≠ s237.fab.rbId)) := by and_intros <;> decide +kernel

/-- States and operands that meet the hypotheses of UserFlashCommands, for each of its clauses. -/
theorem witness_UserFlashCommands :
    (s244.cplOn (descId d0 0x30) ∧ outBad (⟨0, 4096, 2⟩ : DataOut) = false ∧
      s244.starts (descId d0 0x30) (rowFields (.nvmRead d0 (0x8A00 : Word) (10 : Byte) (⟨0, 4096, 2⟩ : DataOut) ([] : List PageRead))) true = true ∧
      s244.rangeWaits 0x8A00 10 = false ∧
      ((0x8A00 % 512 = 0 ∧ 0x8A00 < 0x800000 ∧ 0x8A00 + 512 * 10 ≤ 0x800000) ∧ 0 < 10 ∧ 10 ≤ 64 ∧ 0x8A00 % 0x8000 + 512 * 10 ≤ 0x8000) ∧
      (⟨0, 4096, 2⟩ : DataOut).blocks.toNat = (10 + 7) / 8) ∧
    (s244.cplOn (descId d0 0x30) ∧ outBad (⟨0, 4096, 1⟩ : DataOut) = false ∧
      s244.starts (descId d0 0x30) (rowFields (.nvmRead d0 (0x8A00 : Word) (10 : Byte) (⟨0, 4096, 1⟩ : DataOut) ([] : List PageRead))) true = true ∧
      s244.rangeWaits 0x8A00 10 = false ∧
      ((0x8A00 % 512 = 0 ∧ 0x8A00 < 0x800000 ∧ 0x8A00 + 512 * 10 ≤ 0x800000) ∧ 0 < 10 ∧ 10 ≤ 64 ∧ 0x8A00 % 0x8000 + 512 * 10 ≤ 0x8000) ∧
      (⟨0, 4096, 1⟩ : DataOut).blocks.toNat ≠ (10 + 7) / 8) ∧
    (s244.cplOn (descId d0 0x30) ∧ outBad (⟨0, 4096, 2⟩ : DataOut) = false ∧
      s244.starts (descId d0 0x30) (rowFields (.nvmRead d0 (0x8A01 : Word) (10 : Byte) (⟨0, 4096, 2⟩ : DataOut) ([] : List PageRead))) true = true ∧
      s244.rangeWaits 0x8A01 10 = false ∧ (¬ (0x8A01 % 512 = 0 ∧ 0x8A01 < 0x800000 ∧ 0x8A01 + 512 * 10 ≤ 0x800000))) ∧
    (s244.cplOn (descId d0 0x30) ∧ outBad (⟨0, 4096, 2⟩ : DataOut) = false ∧
      s244.starts (descId d0 0x30) (rowFields (.nvmRead d0 (0xFA00 : Word) (10 : Byte) (⟨0, 4096, 2⟩ : DataOut) ([] : List PageRead))) true = true ∧
      s244.rangeWaits 0xFA00 10 = false ∧ (0xFA00 % 512 = 0 ∧ 0xFA00 < 0x800000 ∧ 0xFA00 + 512 * 10 ≤ 0x800000) ∧
      (¬ ((0xFA00 % 512 = 0 ∧ 0xFA00 < 0x800000 ∧ 0xFA00 + 512 * 10 ≤ 0x800000) ∧ 0 < 10 ∧ 10 ≤ 64 ∧ 0xFA00 % 0x8000 + 512 * 10 ≤ 0x8000))) ∧
    (s247.cplOn (descId d0 0x30) ∧ outBad (⟨0, 4096, 2⟩ : DataOut) = false ∧
      s247.starts (descId d0 0x30) (rowFields (.slotScan d0 (1 : Byte) (0 : Byte) (⟨0, 4096, 2⟩ : DataOut) ([1, 2, 3] : List (BitVec 16)))) true = true ∧
      s247.nvm.journalBusy = true) ∧
    (s244.cplOn (descId d0 0x30) ∧ outBad (⟨0, 4096, 2⟩ : DataOut) = false ∧
      s244.starts (descId d0 0x30) (rowFields (.slotScan d0 (1 : Byte) (1 : Byte) (⟨0, 4096, 2⟩ : DataOut) ([1, 2, 3] : List (BitVec 16)))) true = true ∧
      s244.nvm.journalBusy = false ∧ ((1 : Byte) = 1 ∨ (1 : Byte) = 3) ∧ 1 < 3 ∧ (s244.flash.slot 1).valid = true) ∧
    (s244.cplOn (descId d0 0x30) ∧ outBad (⟨0, 4096, 2⟩ : DataOut) = false ∧
      s244.starts (descId d0 0x30) (rowFields (.slotScan d0 (1 : Byte) (0 : Byte) (⟨0, 4096, 2⟩ : DataOut) ([1, 2, 3] : List (BitVec 16)))) true = true ∧
      s244.nvm.journalBusy = false ∧ (((0 : Byte) ≠ 1 ∧ (0 : Byte) ≠ 3) ∨ 3 ≤ 1 ∨ (s244.flash.slot 1).valid = false)) ∧
    (s244.cplOn (descId d0 0x30) ∧ outBad (⟨0, 4096, 2⟩ : DataOut) = false ∧
      s244.starts (descId d0 0x30) (rowFields (.wearReport d0 (⟨0, 4096, 2⟩ : DataOut))) true = true ∧
      2 ≤ (⟨0, 4096, 2⟩ : DataOut).blocks.toNat) ∧
    (s244.cplOn (descId d0 0x30) ∧ outBad (⟨0, 4096, 1⟩ : DataOut) = false ∧
      s244.starts (descId d0 0x30) (rowFields (.wearReport d0 (⟨0, 4096, 1⟩ : DataOut))) true = true ∧
      (⟨0, 4096, 1⟩ : DataOut).blocks.toNat < 2) ∧
    ((∀ x ∈ ([mkb [1, 2], mkb [3]] : List HostBlock), x.wellFormed = true) ∧ s244.cplOn (descId d0 0x30) ∧
      outBad (⟨0, 4096, 2⟩ : DataOut) = false ∧
      s244.starts (descId d0 0x30) (rowFields (.nvmProgram d0 (0x8A01 : Word) (10 : Byte) ([mkb [1, 2], mkb [3]] : List HostBlock))) false = true ∧
      ([mkb [1, 2], mkb [3]] : List HostBlock) ≠ [] ∧ (¬ (0x8A01 % 512 = 0 ∧ 0x8A01 < 0x800000 ∧ 0x8A01 + 512 * 10 ≤ 0x800000))) ∧
    ((∀ x ∈ ([mkb [1, 2], mkb [3]] : List HostBlock), x.wellFormed = true) ∧ s244.cplOn (descId d0 0x30) ∧
      outBad (⟨0, 4096, 2⟩ : DataOut) = false ∧
      s244.starts (descId d0 0x30) (rowFields (.nvmProgram d0 (0xFA00 : Word) (10 : Byte) ([mkb [1, 2], mkb [3]] : List HostBlock))) false = true ∧
      ([mkb [1, 2], mkb [3]] : List HostBlock) ≠ [] ∧ (0xFA00 % 512 = 0 ∧ 0xFA00 < 0x800000 ∧ 0xFA00 + 512 * 10 ≤ 0x800000) ∧
      (¬ ((0xFA00 % 512 = 0 ∧ 0xFA00 < 0x800000 ∧ 0xFA00 + 512 * 10 ≤ 0x800000) ∧ 0 < 10 ∧ 10 ≤ 64 ∧ 0xFA00 % 0x8000 + 512 * 10 ≤ 0x8000))) ∧
    ((∀ x ∈ ([mkb [1, 2]] : List HostBlock), x.wellFormed = true) ∧ s244.cplOn (descId d0 0x30) ∧
      outBad (⟨0, 4096, 2⟩ : DataOut) = false ∧
      s244.starts (descId d0 0x30) (rowFields (.nvmProgram d0 (0x8A00 : Word) (10 : Byte) ([mkb [1, 2]] : List HostBlock))) false = true ∧
      ([mkb [1, 2]] : List HostBlock) ≠ [] ∧
      ((0x8A00 % 512 = 0 ∧ 0x8A00 < 0x800000 ∧ 0x8A00 + 512 * 10 ≤ 0x800000) ∧ 0 < 10 ∧ 10 ≤ 64 ∧ 0x8A00 % 0x8000 + 512 * 10 ≤ 0x8000) ∧
      ([mkb [1, 2]] : List HostBlock).length ≠ (10 + 7) / 8) ∧
    ((∀ x ∈ ([mkb [1, 2], mkb [3]] : List HostBlock), x.wellFormed = true) ∧ s245.cplOn (descId d0 0x30) ∧
      outBad (⟨0, 4096, 2⟩ : DataOut) = false ∧
      s245.starts (descId d0 0x30) (rowFields (.nvmProgram d0 (0x8A00 : Word) (10 : Byte) ([mkb [1, 2], mkb [3]] : List HostBlock))) false = true ∧
      ([mkb [1, 2], mkb [3]] : List HostBlock) ≠ [] ∧
      ((0x8A00 % 512 = 0 ∧ 0x8A00 < 0x800000 ∧ 0x8A00 + 512 * 10 ≤ 0x800000) ∧ 0 < 10 ∧ 10 ≤ 64 ∧ 0x8A00 % 0x8000 + 512 * 10 ≤ 0x8000) ∧
      ([mkb [1, 2], mkb [3]] : List HostBlock).length = (10 + 7) / 8 ∧
      (∃ j ∈ s245.nvm.jobs, j.bank = (256 + (0x8A00 / 0x8000) / 64) ∧ j.sector = (32 + (0x8A00 / 0x8000) % 64))) ∧
    ((∀ x ∈ ([mkb [1, 2], mkb [3]] : List HostBlock), x.wellFormed = true) ∧ s244.cplOn (descId d0 0x30) ∧
      outBad (⟨0, 4096, 2⟩ : DataOut) = false ∧
      s244.starts (descId d0 0x30) (rowFields (.nvmProgram d0 (0x8A00 : Word) (10 : Byte) ([mkb [1, 2], mkb [3]] : List HostBlock))) false = true ∧
      ([mkb [1, 2], mkb [3]] : List HostBlock) ≠ [] ∧
      ((0x8A00 % 512 = 0 ∧ 0x8A00 < 0x800000 ∧ 0x8A00 + 512 * 10 ≤ 0x800000) ∧ 0 < 10 ∧ 10 ≤ 64 ∧ 0x8A00 % 0x8000 + 512 * 10 ≤ 0x8000) ∧
      ([mkb [1, 2], mkb [3]] : List HostBlock).length = (10 + 7) / 8 ∧
      (¬ (∃ j ∈ s244.nvm.jobs, j.bank = (256 + (0x8A00 / 0x8000) / 64) ∧ j.sector = (32 + (0x8A00 / 0x8000) % 64))) ∧
      (∃ k : Nat, k < 10 ∧ (fun (k : Nat) => (s244.flash.page (256 + (0x8A00 / 0x8000) / 64) (s244.flash.phys (256 + (0x8A00 / 0x8000) / 64) (32 + (0x8A00 / 0x8000) % 64)) ((0x8A00 % 0x8000 / 512) + k)).state) k ≠ .erased)) ∧
    ((∀ x ∈ ([mkb [1, 2], mkb [3]] : List HostBlock), x.wellFormed = true) ∧ s246.cplOn (descId d0 0x30) ∧
      outBad (⟨0, 4096, 2⟩ : DataOut) = false ∧
      s246.starts (descId d0 0x30) (rowFields (.nvmProgram d0 (0x8A00 : Word) (10 : Byte) ([mkb [1, 2], mkb [3]] : List HostBlock))) false = true ∧
      ([mkb [1, 2], mkb [3]] : List HostBlock) ≠ [] ∧
      ((0x8A00 % 512 = 0 ∧ 0x8A00 < 0x800000 ∧ 0x8A00 + 512 * 10 ≤ 0x800000) ∧ 0 < 10 ∧ 10 ≤ 64 ∧ 0x8A00 % 0x8000 + 512 * 10 ≤ 0x8000) ∧
      ([mkb [1, 2], mkb [3]] : List HostBlock).length = (10 + 7) / 8 ∧
      (¬ (∃ j ∈ s246.nvm.jobs, j.bank = (256 + (0x8A00 / 0x8000) / 64) ∧ j.sector = (32 + (0x8A00 / 0x8000) % 64))) ∧
      (∀ k : Nat, k < 10 → (fun (k : Nat) => (s246.flash.page (256 + (0x8A00 / 0x8000) / 64) (s246.flash.phys (256 + (0x8A00 / 0x8000) / 64) (32 + (0x8A00 / 0x8000) % 64)) ((0x8A00 % 0x8000 / 512) + k)).state) k = .erased) ∧
      (s246.flash.sector (256 + (0x8A00 / 0x8000) / 64) (s246.flash.phys (256 + (0x8A00 / 0x8000) / 64) (32 + (0x8A00 / 0x8000) % 64))).incomplete = true) ∧
    ((∀ x ∈ ([mkb [1, 2], mkb [3]] : List HostBlock), x.wellFormed = true) ∧
      (∀ x ∈ ([mkb [1, 2], mkb [3]] : List HostBlock), x.err = none ∧ crc32c x.data = x.check) ∧ up.cplOn (descId d0 0x30) ∧
      outBad (⟨0, 4096, 2⟩ : DataOut) = false ∧
      up.starts (descId d0 0x30) (rowFields (.nvmProgram d0 (0x8A00 : Word) (10 : Byte) ([mkb [1, 2], mkb [3]] : List HostBlock))) false = true ∧
      ([mkb [1, 2], mkb [3]] : List HostBlock) ≠ [] ∧
      ((0x8A00 % 512 = 0 ∧ 0x8A00 < 0x800000 ∧ 0x8A00 + 512 * 10 ≤ 0x800000) ∧ 0 < 10 ∧ 10 ≤ 64 ∧ 0x8A00 % 0x8000 + 512 * 10 ≤ 0x8000) ∧
      ([mkb [1, 2], mkb [3]] : List HostBlock).length = (10 + 7) / 8 ∧
      (¬ (∃ j ∈ up.nvm.jobs, j.bank = (256 + (0x8A00 / 0x8000) / 64) ∧ j.sector = (32 + (0x8A00 / 0x8000) % 64))) ∧
      (∀ k : Nat, k < 10 → (fun (k : Nat) => (up.flash.page (256 + (0x8A00 / 0x8000) / 64) (up.flash.phys (256 + (0x8A00 / 0x8000) / 64) (32 + (0x8A00 / 0x8000) % 64)) ((0x8A00 % 0x8000 / 512) + k)).state) k = .erased) ∧
      (up.flash.sector (256 + (0x8A00 / 0x8000) / 64) (up.flash.phys (256 + (0x8A00 / 0x8000) / 64) (32 + (0x8A00 / 0x8000) % 64))).incomplete = false) ∧
    (s244.cplOn (descId d0 0x30) ∧ outBad (⟨0, 4096, 2⟩ : DataOut) = false ∧
      s244.starts (descId d0 0x30) (rowFields (.nvmErase d0 (0x8A01 : Word))) false = true ∧
      (¬ (0x8A01 % 512 = 0 ∧ 0x8A01 < 0x800000))) ∧
    (s245.cplOn (descId d0 0x30) ∧ outBad (⟨0, 4096, 2⟩ : DataOut) = false ∧
      s245.starts (descId d0 0x30) (rowFields (.nvmErase d0 (0x8A00 : Word))) false = true ∧
      (0x8A00 % 512 = 0 ∧ 0x8A00 < 0x800000) ∧
      (∃ j ∈ s245.nvm.jobs, j.bank = (256 + (0x8A00 / 0x8000) / 64) ∧ j.sector = (32 + (0x8A00 / 0x8000) % 64))) ∧
    (s244.cplOn (descId d0 0x30) ∧ outBad (⟨0, 4096, 2⟩ : DataOut) = false ∧
      s244.starts (descId d0 0x30) (rowFields (.nvmErase d0 (0x8A00 : Word))) false = true ∧
      (0x8A00 % 512 = 0 ∧ 0x8A00 < 0x800000) ∧
      (¬ (∃ j ∈ s244.nvm.jobs, j.bank = (256 + (0x8A00 / 0x8000) / 64) ∧ j.sector = (32 + (0x8A00 / 0x8000) % 64)))) ∧
    (s244.cplOn (descId d0 0x30) ∧ outBad (⟨0, 4096, 2⟩ : DataOut) = false ∧
      s244.starts (descId d0 0x30) (rowFields (.marginCheck d0 (0x8A01 : Word) (10 : Byte) (0 : Byte) (5 : BitVec 64) ([] : List PageRead))) false = true ∧
      s244.rangeWaits 0x8A01 10 = false ∧ (¬ (0x8A01 % 512 = 0 ∧ 0x8A01 < 0x800000 ∧ 0x8A01 + 512 * 10 ≤ 0x800000))) ∧
    (s244.cplOn (descId d0 0x30) ∧ outBad (⟨0, 4096, 2⟩ : DataOut) = false ∧
      s244.starts (descId d0 0x30) (rowFields (.marginCheck d0 (0xFA00 : Word) (10 : Byte) (0 : Byte) (5 : BitVec 64) ([] : List PageRead))) false = true ∧
      s244.rangeWaits 0xFA00 10 = false ∧ (0xFA00 % 512 = 0 ∧ 0xFA00 < 0x800000 ∧ 0xFA00 + 512 * 10 ≤ 0x800000) ∧
      (¬ ((0xFA00 % 512 = 0 ∧ 0xFA00 < 0x800000 ∧ 0xFA00 + 512 * 10 ≤ 0x800000) ∧ 0 < 10 ∧ 10 ≤ 64 ∧ 0xFA00 % 0x8000 + 512 * 10 ≤ 0x8000))) ∧
    (s244.cplOn (descId d0 0x30) ∧ outBad (⟨0, 4096, 2⟩ : DataOut) = false ∧
      s244.starts (descId d0 0x30) (rowFields (.marginCheck d0 (0x8A00 : Word) (10 : Byte) (4 : Byte) (5 : BitVec 64) ([] : List PageRead))) false = true ∧
      s244.rangeWaits 0x8A00 10 = false ∧
      ((0x8A00 % 512 = 0 ∧ 0x8A00 < 0x800000 ∧ 0x8A00 + 512 * 10 ≤ 0x800000) ∧ 0 < 10 ∧ 10 ≤ 64 ∧ 0x8A00 % 0x8000 + 512 * 10 ≤ 0x8000) ∧
      3 < 4) ∧
    (s244.cplOn (descId d0 0x30) ∧ outBad (⟨0, 4096, 2⟩ : DataOut) = false ∧
      s244.starts (descId d0 0x30) (rowFields (.marginCheck d0 (0x8A00 : Word) (10 : Byte) (0 : Byte) (5 : BitVec 64) ([] : List PageRead))) false = true ∧
      s244.rangeWaits 0x8A00 10 = false ∧
      ((0x8A00 % 512 = 0 ∧ 0x8A00 < 0x800000 ∧ 0x8A00 + 512 * 10 ≤ 0x800000) ∧ 0 < 10 ∧ 10 ≤ 64 ∧ 0x8A00 % 0x8000 + 512 * 10 ≤ 0x8000) ∧
      0 ≤ 3) ∧
    (s244.cplOn (descId d0 0x30) ∧ outBad (⟨0, 4096, 2⟩ : DataOut) = false ∧
      s244.starts (descId d0 0x30) (rowFields (.nvmSuspend d0)) false = true) ∧
    (s244.cplOn (descId d0 0x30) ∧ outBad (⟨0, 4096, 2⟩ : DataOut) = false ∧
      s244.starts (descId d0 0x30) (rowFields (.nvmResume d0)) false = true) :=
  ⟨by decide +kernel,
   by decide +kernel,
   by decide +kernel,
   by decide +kernel,
   by decide +kernel,
   by decide +kernel,
   by decide +kernel,
   by decide +kernel,
   by decide +kernel,
   ⟨List.forall_mem_cons.mpr ⟨mkb_wellFormed _ (by decide +kernel), (List.forall_mem_cons.mpr ⟨mkb_wellFormed _ (by decide +kernel), (fun _ h => nomatch h)⟩)⟩, by decide +kernel⟩,
   ⟨List.forall_mem_cons.mpr ⟨mkb_wellFormed _ (by decide +kernel), (List.forall_mem_cons.mpr ⟨mkb_wellFormed _ (by decide +kernel), (fun _ h => nomatch h)⟩)⟩, by decide +kernel⟩,
   ⟨List.forall_mem_cons.mpr ⟨mkb_wellFormed _ (by decide +kernel), (fun _ h => nomatch h)⟩, by decide +kernel⟩,
   ⟨List.forall_mem_cons.mpr ⟨mkb_wellFormed _ (by decide +kernel), (List.forall_mem_cons.mpr ⟨mkb_wellFormed _ (by decide +kernel), (fun _ h => nomatch h)⟩)⟩, by decide +kernel⟩,
   ⟨List.forall_mem_cons.mpr ⟨mkb_wellFormed _ (by decide +kernel), (List.forall_mem_cons.mpr ⟨mkb_wellFormed _ (by decide +kernel), (fun _ h => nomatch h)⟩)⟩, by decide +kernel⟩,
   ⟨List.forall_mem_cons.mpr ⟨mkb_wellFormed _ (by decide +kernel), (List.forall_mem_cons.mpr ⟨mkb_wellFormed _ (by decide +kernel), (fun _ h => nomatch h)⟩)⟩, by decide +kernel⟩,
   ⟨List.forall_mem_cons.mpr ⟨mkb_wellFormed _ (by decide +kernel), (List.forall_mem_cons.mpr ⟨mkb_wellFormed _ (by decide +kernel), (fun _ h => nomatch h)⟩)⟩, List.forall_mem_cons.mpr ⟨⟨rfl, mkb_check _⟩, (List.forall_mem_cons.mpr ⟨⟨rfl, mkb_check _⟩, (fun _ h => nomatch h)⟩)⟩, by decide +kernel⟩,
   by decide +kernel,
   by decide +kernel,
   by decide +kernel,
   by decide +kernel,
   by decide +kernel,
   by decide +kernel,
   by decide +kernel,
   by decide +kernel,
   by decide +kernel⟩

/-- States and operands that meet the hypotheses of FlashOperationsRunAndEnd, for each of its clauses. -/
theorem witness_FlashOperationsRunAndEnd :
    (s258.pwr.state ≠ .deepSleep ∧ s258.pwr.state ≠ .off ∧ s258.bankQ 256 = ((op0 : FlashOp) : FlashOp) :: ([] : List FlashOp) ∧
      ((op0 : FlashOp) : FlashOp).started = false ∧
      (s258.nvm.supplyHold = true ∨ s258.nvm.hostHold = true ∨ s258.nvm.journalBusy = true ∨ s258.bankLimit ≤ s258.activeBanks)) ∧
    (s248.pwr.state ≠ .deepSleep ∧ s248.pwr.state ≠ .off ∧ s248.bankQ 256 = ((op0 : FlashOp) : FlashOp) :: ([] : List FlashOp) ∧
      ((op0 : FlashOp) : FlashOp).started = false ∧ s248.stageMayStart 256 ((op0 : FlashOp) : FlashOp) = true ∧
      s248.nvm.supplyHold = false ∧ s248.nvm.hostHold = false ∧ s248.nvm.journalBusy = false ∧ s248.oldestSuspended = none ∧
      s248.activeBanks < s248.bankLimit) ∧
    (s264.pwr.state ≠ .deepSleep ∧ s264.pwr.state ≠ .off ∧ s264.bankQ 256 = []) ∧
    (s258.pwr.state ≠ .deepSleep ∧ s258.pwr.state ≠ .off ∧ s258.nvm.journalBusy = true) ∧
    s248.nvm.journalBusy = false ∧
    (s256.bankQ 256 = (({ op0 with started := true } : FlashOp) : FlashOp) :: ([] : List FlashOp) ∧
      (({ op0 with started := true } : FlashOp) : FlashOp).started = true ∧
      (({ op0 with started := true } : FlashOp) : FlashOp).suspended = false ∧
      (({ op0 with started := true } : FlashOp) : FlashOp).erase = false ∧
      (({ op0 with started := true } : FlashOp) : FlashOp).pulses = 0) ∧
    (s249.bankQ 256 = (({ op0 with started := true, pulses := 5 } : FlashOp) : FlashOp) :: ([] : List FlashOp) ∧
      (({ op0 with started := true, pulses := 5 } : FlashOp) : FlashOp).started = true ∧
      (({ op0 with started := true, pulses := 5 } : FlashOp) : FlashOp).suspended = false ∧
      (({ op0 with started := true, pulses := 5 } : FlashOp) : FlashOp).erase = false ∧
      (({ op0 with started := true, pulses := 5 } : FlashOp) : FlashOp).pulses ≠ 0 ∧
      ((({ op0 with started := true, pulses := 5 } : FlashOp) : FlashOp).who = .user ((nvmJob0 : NvmJob) : NvmJob).desc ∧ s249.nvm.jobs = [((nvmJob0 : NvmJob) : NvmJob)] ∧ ((nvmJob0 : NvmJob) : NvmJob).erase = (({ op0 with started := true, pulses := 5 } : FlashOp) : FlashOp).erase ∧ s249.cplOn ((nvmJob0 : NvmJob) : NvmJob).desc)) ∧
    (s249.bankQ 256 = (({ op0 with started := true, pulses := 5 } : FlashOp) : FlashOp) :: ([] : List FlashOp) ∧
      (({ op0 with started := true, pulses := 5 } : FlashOp) : FlashOp).started = true ∧
      (({ op0 with started := true, pulses := 5 } : FlashOp) : FlashOp).suspended = false ∧
      (({ op0 with started := true, pulses := 5 } : FlashOp) : FlashOp).erase = false ∧
      (({ op0 with started := true, pulses := 5 } : FlashOp) : FlashOp).pulses ≠ 32) ∧
    (s252.bankQ 256 = (({ op0 with started := true, pulses := 32 } : FlashOp) : FlashOp) :: ([] : List FlashOp) ∧
      (({ op0 with started := true, pulses := 32 } : FlashOp) : FlashOp).started = true ∧
      (({ op0 with started := true, pulses := 32 } : FlashOp) : FlashOp).suspended = false ∧
      (({ op0 with started := true, pulses := 32 } : FlashOp) : FlashOp).erase = false ∧
      (({ op0 with started := true, pulses := 32 } : FlashOp) : FlashOp).pulses = 32 ∧
      ((({ op0 with started := true, pulses := 32 } : FlashOp) : FlashOp).who = .user ((nvmJob0 : NvmJob) : NvmJob).desc ∧ s252.nvm.jobs = [((nvmJob0 : NvmJob) : NvmJob)] ∧ ((nvmJob0 : NvmJob) : NvmJob).erase = (({ op0 with started := true, pulses := 32 } : FlashOp) : FlashOp).erase ∧ s252.cplOn ((nvmJob0 : NvmJob) : NvmJob).desc) ∧
      s252.flash.freeOf 256 = []) ∧
    (s257.bankQ 256 = (({ op0 with started := true, erase := true } : FlashOp) : FlashOp) :: ([] : List FlashOp) ∧
      (({ op0 with started := true, erase := true } : FlashOp) : FlashOp).started = true ∧
      (({ op0 with started := true, erase := true } : FlashOp) : FlashOp).suspended = false ∧
      (({ op0 with started := true, erase := true } : FlashOp) : FlashOp).erase = true ∧
      (({ op0 with started := true, erase := true } : FlashOp) : FlashOp).eraseUs = 0 ∧
      (({ op0 with started := true, erase := true } : FlashOp) : FlashOp).winTicks = 0) ∧
    (s251.bankQ 256 = (({ op0 with started := true, erase := true, winTicks := 1500000 } : FlashOp) : FlashOp) :: ([] : List FlashOp) ∧
      (({ op0 with started := true, erase := true, winTicks := 1500000 } : FlashOp) : FlashOp).started = true ∧
      (({ op0 with started := true, erase := true, winTicks := 1500000 } : FlashOp) : FlashOp).suspended = false ∧
      (({ op0 with started := true, erase := true, winTicks := 1500000 } : FlashOp) : FlashOp).erase = true ∧
      ((({ op0 with started := true, erase := true, winTicks := 1500000 } : FlashOp) : FlashOp).eraseUs ≠ 0 ∨ (({ op0 with started := true, erase := true, winTicks := 1500000 } : FlashOp) : FlashOp).winTicks ≠ 0) ∧
      ((({ op0 with started := true, erase := true, winTicks := 1500000 } : FlashOp) : FlashOp).who = .user (({ nvmJob0 with erase := true } : NvmJob) : NvmJob).desc ∧ s251.nvm.jobs = [(({ nvmJob0 with erase := true } : NvmJob) : NvmJob)] ∧ (({ nvmJob0 with erase := true } : NvmJob) : NvmJob).erase = (({ op0 with started := true, erase := true, winTicks := 1500000 } : FlashOp) : FlashOp).erase ∧ s251.cplOn (({ nvmJob0 with erase := true } : NvmJob) : NvmJob).desc)) ∧
    (s251.bankQ 256 = (({ op0 with started := true, erase := true, winTicks := 1500000 } : FlashOp) : FlashOp) :: ([] : List FlashOp) ∧
      (({ op0 with started := true, erase := true, winTicks := 1500000 } : FlashOp) : FlashOp).started = true ∧
      (({ op0 with started := true, erase := true, winTicks := 1500000 } : FlashOp) : FlashOp).suspended = false ∧
      (({ op0 with started := true, erase := true, winTicks := 1500000 } : FlashOp) : FlashOp).erase = true ∧
      ((({ op0 with started := true, erase := true, winTicks := 1500000 } : FlashOp) : FlashOp).eraseUs + (({ op0 with started := true, erase := true, winTicks := 1500000 } : FlashOp) : FlashOp).winTicks / 1500) < 4000) ∧
    (s253.bankQ 256 = (({ op0 with started := true, erase := true, eraseUs := 4000 } : FlashOp) : FlashOp) :: ([] : List FlashOp) ∧
      (({ op0 with started := true, erase := true, eraseUs := 4000 } : FlashOp) : FlashOp).started = true ∧
      (({ op0 with started := true, erase := true, eraseUs := 4000 } : FlashOp) : FlashOp).suspended = false ∧
      (({ op0 with started := true, erase := true, eraseUs := 4000 } : FlashOp) : FlashOp).erase = true ∧
      4000 ≤ ((({ op0 with started := true, erase := true, eraseUs := 4000 } : FlashOp) : FlashOp).eraseUs + (({ op0 with started := true, erase := true, eraseUs := 4000 } : FlashOp) : FlashOp).winTicks / 1500) ∧
      ((({ op0 with started := true, erase := true, eraseUs := 4000 } : FlashOp) : FlashOp).who = .user (({ nvmJob0 with erase := true } : NvmJob) : NvmJob).desc ∧ s253.nvm.jobs = [(({ nvmJob0 with erase := true } : NvmJob) : NvmJob)] ∧ (({ nvmJob0 with erase := true } : NvmJob) : NvmJob).erase = (({ op0 with started := true, erase := true, eraseUs := 4000 } : FlashOp) : FlashOp).erase ∧ s253.cplOn (({ nvmJob0 with erase := true } : NvmJob) : NvmJob).desc) ∧
      s253.flash.freeOf 256 = []) ∧
    (s251.bankQ 256 = (({ op0 with started := true, erase := true, winTicks := 1500000 } : FlashOp) : FlashOp) :: ([] : List FlashOp) ∧
      (({ op0 with started := true, erase := true, winTicks := 1500000 } : FlashOp) : FlashOp).started = true ∧
      (({ op0 with started := true, erase := true, winTicks := 1500000 } : FlashOp) : FlashOp).suspended = false ∧
      (({ op0 with started := true, erase := true, winTicks := 1500000 } : FlashOp) : FlashOp).erase = true ∧
      300000 ≤ (({ op0 with started := true, erase := true, winTicks := 1500000 } : FlashOp) : FlashOp).winTicks ∧
      ((({ op0 with started := true, erase := true, winTicks := 1500000 } : FlashOp) : FlashOp).eraseUs + (({ op0 with started := true, erase := true, winTicks := 1500000 } : FlashOp) : FlashOp).winTicks / 1500) < 4000) ∧
    (s253.bankQ 256 = (({ op0 with started := true, erase := true, eraseUs := 4000 } : FlashOp) : FlashOp) :: ([] : List FlashOp) ∧
      (({ op0 with started := true, erase := true, eraseUs := 4000 } : FlashOp) : FlashOp).started = true ∧
      (({ op0 with started := true, erase := true, eraseUs := 4000 } : FlashOp) : FlashOp).suspended = false ∧
      (({ op0 with started := true, erase := true, eraseUs := 4000 } : FlashOp) : FlashOp).erase = true ∧
      ((({ op0 with started := true, erase := true, eraseUs := 4000 } : FlashOp) : FlashOp).winTicks < 300000 ∨ 4000 ≤ ((({ op0 with started := true, erase := true, eraseUs := 4000 } : FlashOp) : FlashOp).eraseUs + (({ op0 with started := true, erase := true, eraseUs := 4000 } : FlashOp) : FlashOp).winTicks / 1500))) ∧
    (s254.bankQ 256 = (({ op0 with started := true, pulses := 32 } : FlashOp) : FlashOp) :: ([] : List FlashOp) ∧
      (({ op0 with started := true, pulses := 32 } : FlashOp) : FlashOp).started = true ∧
      (({ op0 with started := true, pulses := 32 } : FlashOp) : FlashOp).suspended = false ∧
      ((({ op0 with started := true, pulses := 32 } : FlashOp) : FlashOp).who = .user ((nvmJob0 : NvmJob) : NvmJob).desc ∧ s254.nvm.jobs = [((nvmJob0 : NvmJob) : NvmJob)] ∧ ((nvmJob0 : NvmJob) : NvmJob).erase = (({ op0 with started := true, pulses := 32 } : FlashOp) : FlashOp).erase ∧ s254.cplOn ((nvmJob0 : NvmJob) : NvmJob).desc) ∧
      ((s254.flash.freeOf 256).filter (fun k => decide (k ≠ (({ op0 with started := true, pulses := 32 } : FlashOp) : FlashOp).sector)) = 31 :: ([])) ∧
      ((({ op0 with started := true, pulses := 32 } : FlashOp) : FlashOp).erase = false → (({ op0 with started := true, pulses := 32 } : FlashOp) : FlashOp).pulses = 32) ∧
      ((({ op0 with started := true, pulses := 32 } : FlashOp) : FlashOp).erase = true → 4000 ≤ (({ op0 with started := true, pulses := 32 } : FlashOp) : FlashOp).eraseUs)) ∧
    (s266.bankQ 256 = (({ op0 with sector := 9, page := 3, who := .retire, started := true, pulses := 5 } : FlashOp) : FlashOp) :: ([] : List FlashOp) ∧
      (({ op0 with sector := 9, page := 3, who := .retire, started := true, pulses := 5 } : FlashOp) : FlashOp).started = true ∧
      (({ op0 with sector := 9, page := 3, who := .retire, started := true, pulses := 5 } : FlashOp) : FlashOp).suspended = false ∧
      (({ op0 with sector := 9, page := 3, who := .retire, started := true, pulses := 5 } : FlashOp) : FlashOp).who = .retire ∧
      (({ op0 with sector := 9, page := 3, who := .retire, started := true, pulses := 5 } : FlashOp) : FlashOp).erase = false ∧
      (({ op0 with sector := 9, page := 3, who := .retire, started := true, pulses := 5 } : FlashOp) : FlashOp).pulses ≠ 0 ∧
      (s266.nvm.retiring.get (fun _ => none) 256 = some ({ op := op0, repl := 9 } : Retire)) ∧
      (∀ q ∈ ([] : List FlashOp), q.who ≠ .retire) ∧
      ({ op := op0, repl := 9 } : Retire).op.who = .user ((nvmJob0 : NvmJob) : NvmJob).desc ∧
      s266.nvm.jobs = [((nvmJob0 : NvmJob) : NvmJob)] ∧ s266.cplOn ((nvmJob0 : NvmJob) : NvmJob).desc ∧
      ((nvmJob0 : NvmJob) : NvmJob).left = 1) := by and_intros <;> decide +kernel

/-- States and operands that meet the hypotheses of ScrubberChecksAndRewrites, for each of its clauses. -/
theorem witness_ScrubberChecksAndRewrites :
    (s268.pwr.state = .run ∧ s268.hif.evBuf.length < 4096 ∧ s268.cfg.loaded = true ∧ s268.cfg.base = false ∧
      s268.cfg.load = none ∧ s268.scb.disabled = false ∧ s268.scb.trav = some ((trav0 : Traverse) : Traverse) ∧
      s268.scb.stopping = false ∧ s268.scb.restarting = false ∧
      (((trav0 : Traverse) : Traverse).swept = false ∨ s268.scrubPaused = true)) ∧
    (s267.pwr.state = .run ∧ s267.hif.evBuf.length < 4096 ∧ s267.cfg.loaded = true ∧ s267.cfg.base = false ∧
      s267.cfg.load = none ∧ s267.scb.disabled = false ∧ s267.scb.trav = some ((trav0 : Traverse) : Traverse) ∧
      s267.scb.stopping = false ∧ s267.scb.restarting = false ∧ s267.scrubPaused = false ∧
      ((trav0 : Traverse) : Traverse).swept = true ∧ s267.nextFrame ((trav0 : Traverse) : Traverse) = some 5 ∧
      s267.nextFrame { ((trav0 : Traverse) : Traverse) with pos := 5 + 1 } ≠ none) ∧
    (s285.closureValue = s285.flash.closure ∧ s285.pwr.state = .run ∧ s285.hif.evBuf.length < 4096 ∧ s285.cfg.loaded = true ∧
      s285.cfg.base = false ∧ s285.cfg.load = none ∧ s285.scb.disabled = false ∧
      s285.scb.trav = some (({ trav0 with pos := 27647 } : Traverse) : Traverse) ∧ s285.scb.stopping = false ∧
      s285.scb.restarting = false ∧ s285.scrubPaused = false ∧
      (({ trav0 with pos := 27647 } : Traverse) : Traverse).swept = true ∧
      s285.nextFrame (({ trav0 with pos := 27647 } : Traverse) : Traverse) = some 27647 ∧
      s285.nextFrame { (({ trav0 with pos := 27647 } : Traverse) : Traverse) with pos := 27647 + 1 } = none ∧ false = false) ∧
    (s271.pwr.state = .run ∧ s271.hif.evBuf.length < 4096 ∧ s271.cfg.loaded = true ∧ s271.cfg.base = false ∧
      s271.cfg.load = none ∧ s271.scb.disabled = false ∧
      s271.scb.trav = some (({ trav0 with pos := 27647 } : Traverse) : Traverse) ∧ s271.scb.stopping = false ∧
      s271.scb.restarting = false ∧ s271.scrubPaused = false ∧
      (({ trav0 with pos := 27647 } : Traverse) : Traverse).swept = true ∧
      s271.nextFrame (({ trav0 with pos := 27647 } : Traverse) : Traverse) = some 27647 ∧
      s271.nextFrame { (({ trav0 with pos := 27647 } : Traverse) : Traverse) with pos := 27647 + 1 } = none ∧ false = false ∧
      true = true ∧ (⟨0, false⟩ : PageRead) = { bits := 0, unc := false } ∧
      ((fun (n : Nat) => let l := s271.refPlace (addrOrder 27647); s271.flash.strays l.1 l.2.1 l.2.2) (addrOrder 27647) = false) ∧
      (if ([] : List (BitVec 12)).isEmpty then s271.sramFrame (addrOrder 27647) else flipBits (([] : List (BitVec 12)).map (·.toNat)) (s271.sramFrame (addrOrder 27647))) = s271.refFrame (addrOrder 27647)) ∧
    (s275.pwr.state = .run ∧ s275.hif.evBuf.length < 4096 ∧ s275.cfg.loaded = true ∧ s275.cfg.base = false ∧
      s275.cfg.load = none ∧ s275.scb.stopping = true) ∧
    (s277.pwr.state = .run ∧ s277.hif.evBuf.length < 4096 ∧ s277.cfg.loaded = true ∧ s277.cfg.base = false ∧
      s277.cfg.load = none ∧ s277.scb.disabled = false ∧ s277.scb.stopping = false ∧ s277.scb.restarting = true ∧
      s277.scbEn = true) ∧
    (s279.pwr.state = .run ∧ s279.hif.evBuf.length < 4096 ∧ s279.cfg.loaded = true ∧ s279.cfg.base = false ∧
      s279.cfg.load = none ∧ s279.scb.disabled = false ∧ s279.scb.trav = none ∧ s279.scb.stopping = false ∧
      s279.scb.restarting = false ∧ (0 : BitVec 2) ≠ 3) ∧
    (s267.pwr.state = .run ∧ s267.hif.evBuf.length < 4096 ∧ s267.cfg.loaded = true ∧ s267.cfg.base = false ∧
      s267.cfg.load = none ∧ s267.scb.disabled = false ∧ s267.scb.trav = some ((trav0 : Traverse) : Traverse) ∧
      s267.scrubPaused = false) ∧
    (s268.pwr.state = .run ∧ s268.hif.evBuf.length < 4096 ∧ s268.cfg.loaded = true ∧ s268.cfg.base = false ∧
      s268.cfg.load = none ∧ s268.scb.disabled = false ∧ (s268.scrubPaused = true ∨ s268.scb.trav = none)) ∧
    (s268.pwr.state = .run ∧ s268.hif.evBuf.length < 4096 ∧ s268.cfg.loaded = true ∧ s268.cfg.base = false ∧
      s268.cfg.load = none ∧ s268.scb.trav = some ((trav0 : Traverse) : Traverse) ∧ s268.pwr.grantScrub = false ∧
      ((trav0 : Traverse) : Traverse).held = false) ∧
    (s267.pwr.state = .run ∧ s267.hif.evBuf.length < 4096 ∧ s267.cfg.loaded = true ∧ s267.cfg.base = false ∧
      s267.cfg.load = none ∧ s267.scb.trav = some ((trav0 : Traverse) : Traverse) ∧
      (s267.pwr.grantScrub = true ∨ ((trav0 : Traverse) : Traverse).held = true)) ∧
    (s277.pwr.state = .run ∧ s277.hif.evBuf.length < 4096 ∧ s277.cfg.loaded = true ∧ s277.cfg.base = false ∧
      s277.cfg.load = none ∧ s277.scb.trav = none) ∧
    (s267.pwr.state = .run ∧ s267.hif.evBuf.length < 4096 ∧ s267.cfg.loaded = true ∧ s267.cfg.base = false ∧
      s267.cfg.load = none ∧ s267.scb.disabled = false ∧ s267.scbEn = true ∧ s267.scb.ctl = s267.scbSet) ∧
    (s281.pwr.state = .run ∧ s281.hif.evBuf.length < 4096 ∧ s281.cfg.loaded = true ∧ s281.cfg.base = false ∧
      s281.cfg.load = none ∧ (s281.scb.disabled = true ∨ s281.scbEn = false)) ∧
    (s267.pwr.state = .run ∧ s267.hif.evBuf.length < 4096 ∧ s267.cfg.loaded = true ∧ s267.cfg.base = false ∧
      s267.cfg.load = none ∧ s267.scbEn = (1).testBit 0) ∧
    (s267.pwr.state = .run ∧ s267.hif.evBuf.length < 4096 ∧ s267.cfg.loaded = true ∧ s267.cfg.base = false ∧
      s267.cfg.load = none ∧ s267.scbEn = true ∧ (0).testBit 0 = false) ∧
    (s283.pwr.state = .run ∧ s283.hif.evBuf.length < 4096 ∧ s283.cfg.loaded = true ∧ s283.cfg.base = false ∧
      s283.cfg.load = none ∧ s283.scbEn = false ∧ (1).testBit 0 = true) :=
  ⟨by decide +kernel,
   by decide +kernel,
   ⟨closed_ok _ _ rfl, by decide +kernel⟩,
   by decide +kernel,
   by decide +kernel,
   by decide +kernel,
   by decide +kernel,
   by decide +kernel,
   by decide +kernel,
   by decide +kernel,
   by decide +kernel,
   by decide +kernel,
   by decide +kernel,
   by decide +kernel,
   by decide +kernel,
   by decide +kernel,
   by decide +kernel⟩

end Sys2Proof.Tests
end

section
/-! SUPPORT. What a host write to BAR0 can do: the bits a register keeps and takes, the branches of one 4-byte write, and the branches
of a whole access (00 R9 to R11, 01 R27, R28). -/

namespace Sys2Proof.Machine

/-! Bits of the arithmetic that `storeReg` writes: masks taken away by subtraction, disjoint parts put together by addition. -/

/-- Numbers without a common bit add without a carry. -/
theorem add_eq_or_of_and_eq_zero {a b : Nat} (h : a &&& b = 0) : a + b = a ||| b := by
  have hw : a + b < 2 ^ (a + b) := Nat.lt_two_pow_self
  have ha : a % 2 ^ (a + b) = a := Nat.mod_eq_of_lt (by omega)
  have hb : b % 2 ^ (a + b) = b := Nat.mod_eq_of_lt (by omega)
  have hand : BitVec.ofNat (a + b) a &&& BitVec.ofNat (a + b) b = 0#(a + b) :=
    BitVec.eq_of_toNat_eq (by simp [ha, hb, h])
  have hsum := congrArg BitVec.toNat (BitVec.add_eq_or_of_and_eq_zero _ _ hand)
  simpa [ha, hb, Nat.mod_eq_of_lt hw] using hsum

/-- Subtracting a number's bits under a mask clears those bits. -/
theorem sub_and_eq_ldiff (a m : Nat) : a - (a &&& m) = Nat.ldiff a m := by
  have hdisj : Nat.ldiff a m &&& (a &&& m) = 0 := Nat.eq_of_testBit_eq fun i => by
    cases hm : m.testBit i <;> simp [Nat.testBit_ldiff, hm]
  have hsum : Nat.ldiff a m ||| (a &&& m) = a := Nat.eq_of_testBit_eq fun i => by
    cases hm : m.testBit i <;> simp [Nat.testBit_ldiff, hm]
  exact Nat.sub_eq_of_eq_add ((add_eq_or_of_and_eq_zero hdisj).trans hsum).symm

/-- One bit of a register after a write: a writable bit takes the bit written, another is kept unless it is cleared by a 1. -/
theorem testBit_stored (old v rw w1c b : Nat) :
    ((old - (old &&& rw)) - ((old - (old &&& rw)) &&& (v &&& w1c)) + (v &&& rw)).testBit b =
      if rw.testBit b then v.testBit b else old.testBit b && !(w1c.testBit b && v.testBit b) := by
  rw [sub_and_eq_ldiff, sub_and_eq_ldiff, add_eq_or_of_and_eq_zero]
  · cases hrw : rw.testBit b <;> simp [Nat.testBit_ldiff, hrw, Bool.and_comm]
  · exact Nat.eq_of_testBit_eq fun i => by cases hrw : rw.testBit i <;> simp [Nat.testBit_ldiff, hrw]

/-! Storing into a register. -/

theorem State.storeReg_frame (s : State) (off v : Nat) (r : RegInfo) :
    s.storeReg off v r = { s with regs := (s.storeReg off v r).regs } := rfl

theorem State.storeReg_reg_other (s : State) {off k : Nat} (v : Nat) (r : RegInfo) (h : SMap.wf regReset s.regs = true)
    (hk : k ≠ off) : (s.storeReg off v r).reg k = s.reg k := by
  rw [State.storeReg, State.setReg_reg s off k _ h, if_neg hk]

theorem State.storeReg_testBit (s : State) (off v : Nat) (r : RegInfo) {b : Nat} (h : SMap.wf regReset s.regs = true) (hb : b < 32) :
    ((s.storeReg off v r).reg off).testBit b =
      if r.rw.testBit b then v.testBit b else (s.reg off).testBit b && !(r.w1c.testBit b && v.testBit b) := by
  rw [State.storeReg, State.setReg_reg s off off _ h, if_pos rfl, Nat.testBit_mod_two_pow, decide_eq_true hb, Bool.true_and,
    testBit_stored]

/-! The branches of one 4-byte write. -/

/-- At an offset assigned to no register a write does nothing (00 R11). -/
theorem State.write32_unassigned (s : State) {off : Nat} (v : Nat) (h : regInfo off = none) : s.write32 off v = s := by
  simp only [State.write32, h]

/-- A register without an action of its own, held by no run, stores what is written (00 R9, R10). -/
theorem State.write32_stores (s : State) {off v : Nat} {r : RegInfo} (hr : regInfo off = some r) (hs : specialWrite off v = none)
    (hg : s.guarded off v r = none) : s.write32 off v = s.storeReg off v r := by
  simp only [State.write32, hr, hs, hg]

/-- A register without an action of its own that a run holds only raises REG_WRITE_IN_RUN (01 R27). -/
theorem State.write32_held (s : State) {off v e : Nat} {r : RegInfo} (hr : regInfo off = some r) (hs : specialWrite off v = none)
    (hg : s.guarded off v r = some e) : s.write32 off v = s.writeInRun e off := by
  simp only [State.write32, hr, hs, hg]

/-- A static register of an engine is held by the run of the engine's site, under the engine's number. -/
theorem State.guarded_engine (s : State) (off v : Nat) {r : RegInfo} {e : Nat} (hr : r.guard = .engine e) (he : s.engActive e = true) :
    s.guarded off v r = some e := by
  simp only [State.guarded, hr, he, if_true]

/-- A static register of a parcel is held by the run of any site with engines there, under no engine's number. -/
theorem State.guarded_parcel (s : State) (off v : Nat) {r : RegInfo} {p : Nat} (hr : r.guard = .parcel p) (hp : s.parActive p = true) :
    s.guarded off v r = some 0xFFFF := by
  simp only [State.guarded, hr, hp, if_true]

/-! The branches of a whole access. -/

/-- A write of another size than 4 or 8 bytes, or misaligned, only raises ACCESS_ERROR (01 R28). -/
theorem barWrite_ill_sized (s : State) {off size : Nat} (v : Nat) (h : (size ≠ 4 ∧ size ≠ 8) ∨ off % size ≠ 0) :
    barWrite off size v s = s.accessError off 1 := if_pos h

/-- An aligned 4-byte write below the FAB window, at no doorbell and in no parcel that is off, is a write of the register there. -/
theorem barWrite_four (s : State) {off v : Nat} (ha : off % 4 = 0) (hw : off < 0x1800000) (hb : bellRing off = none)
    (hp : inParcel off = true → (regInfo off).isSome = true → s.parcelOn ((off - 0x1000000) / 0x40000) = true) (hv : v < 2 ^ 32) :
    barWrite off 4 v s = s.write32 off v := by
  have hon : ¬(inParcel off && (regInfo off).isSome && !s.parcelOn ((off - 0x1000000) / 0x40000)) = true := by
    simpa using hp
  have hlow : v % 4294967296 = v := Nat.mod_eq_of_lt hv
  simp [barWrite, ha, hb, Nat.not_le.mpr hw, hon, hlow]

/-- An aligned 8-byte write over two offsets that are assigned to no register does nothing (00 R11). -/
theorem barWrite_eight_unassigned (s : State) {off : Nat} (v : Nat) (ha : off % 8 = 0) (hw : off < 0x1800000) (hb : bellRing off = none)
    (hl : regInfo off = none) (hh : regInfo (off + 4) = none) : barWrite off 8 v s = s := by
  simp [barWrite, ha, hb, Nat.not_le.mpr hw, hl, hh, State.write32_unassigned]

/-- In Run a sound REGISTER_WRITE is the BAR0 write it carries. -/
theorem exec_registerWrite_sound (s : State) (off : BitVec 25) (size : BitVec 4) (v : Quad) (h : s.pwr.state = .run) :
    exec (.registerWrite { off := off, size := size, value := v }) s = .next (barWrite off.toNat size.toNat v.toNat s) := by
  rw [exec, execRegisterWrite, State.hostAccess_run s _ h, answer]

/-- In Run a poisoned REGISTER_WRITE is dropped and reported (12 R366). -/
theorem exec_registerWrite_poisoned (s : State) (off : BitVec 25) (size : BitVec 4) (v : Quad) {u : Word} (c : Word)
    (h : s.pwr.state = .run) (hu : u ≠ 0) :
    exec (.registerWrite { off := off, size := size, value := v, err := some (u, c) }) s = .next (s.pcieError u c) := by
  rw [exec, execRegisterWrite, State.hostAccess_run s _ h, answer]
  exact congrArg _ (if_neg hu)

/-! A read at an offset assigned to no register. -/

/-- At an offset assigned to no register a read returns 0 and has no effect: the two registers with a read effect are assigned. -/
theorem State.read32_unassigned (s : State) {off : Nat} (h : regInfo off = none) : s.read32 off = (0, s) := by
  have hnow : off ≠ 0x600030 := fun e => absurd (e ▸ h) (by decide)
  have htel : off ≠ 0x200030 := fun e => absurd (e ▸ h) (by decide)
  simp [State.read32, State.readReg, State.readEffect, h, hnow, htel]

theorem State.hostRead_run (s : State) (off size : Nat) (h : s.pwr.state = .run) : s.hostRead off size = s.barRead off size := by
  rw [State.hostRead, State.hostAccess_run s id h, id, if_neg (by simp [h])]

theorem State.barRead_four_unassigned (s : State) {off : Nat} (ha : off % 4 = 0) (h : regInfo off = none) :
    s.barRead off 4 = (0, s) := by
  simp [State.barRead, ha, h, State.read32_unassigned]

theorem State.barRead_eight_unassigned (s : State) {off : Nat} (ha : off % 8 = 0) (hl : regInfo off = none)
    (hh : regInfo (off + 4) = none) : s.barRead off 8 = (0, s) := by
  simp [State.barRead, ha, hl, hh, State.read32_unassigned]

/-! The parts of RegistersAreWritten. -/

section
variable {s : State} {off : BitVec 25} {v : Quad} {r : RegInfo} (hrun : s.pwr.state = .run)
include hrun

/-- 00 R9, R10: a write by the register's access type. -/
theorem registerWrite_by_access_type (hv : v.toNat < 2 ^ 32) (hwf : SMap.wf regReset s.regs = true) (ha : off.toNat % 4 = 0)
    (hw : off.toNat < 0x1800000) (hb : bellRing off.toNat = none) (hr : regInfo off.toNat = some r)
    (hp : inParcel off.toNat = true → s.parcelOn ((off.toNat - 0x1000000) / 0x40000) = true)
    (hs : specialWrite off.toNat v.toNat = none) (hg : s.guarded off.toNat v.toNat r = none) :
    ∃ t, exec (.registerWrite { off := off, size := 4, value := v }) s = .next t ∧ t = { s with regs := t.regs } ∧
      (∀ k, k ≠ off.toNat → t.reg k = s.reg k) ∧
      ∀ b, b < 32 → (t.reg off.toNat).testBit b =
        (if r.rw.testBit b then v.toNat.testBit b else (s.reg off.toNat).testBit b && !(r.w1c.testBit b && v.toNat.testBit b)) := by
  refine ⟨s.storeReg off.toNat v.toNat r, ?_, s.storeReg_frame _ _ r, fun k hk => s.storeReg_reg_other _ r hwf hk,
    fun b hb32 => s.storeReg_testBit _ _ r hwf hb32⟩
  rw [exec_registerWrite_sound s off 4 v hrun, ← s.write32_stores hr hs hg]
  exact congrArg _ (barWrite_four s ha hw hb (fun hi _ => hp hi) hv)

/-- 00 R11: a write and a read where no register is assigned. -/
theorem unassigned_access (hv : v.toNat < 2 ^ 32) (ha : off.toNat % 4 = 0) (hw : off.toNat < 0x1800000)
    (hb : bellRing off.toNat = none) (hr : regInfo off.toNat = none) :
    exec (.registerWrite { off := off, size := 4, value := v }) s = .next s ∧ s.hostRead off.toNat 4 = (0, s) := by
  rw [exec_registerWrite_sound s off 4 v hrun, s.hostRead_run _ _ hrun]
  refine ⟨congrArg _ ?_, s.barRead_four_unassigned ha hr⟩
  exact (barWrite_four s ha hw hb (by simp [hr]) hv).trans (s.write32_unassigned _ hr)

/-- 00 R11: the same over two registers' offsets at once. -/
theorem unassigned_access_eight (w : Quad) (ha : off.toNat % 8 = 0) (hw : off.toNat < 0x1800000) (hb : bellRing off.toNat = none)
    (hl : regInfo off.toNat = none) (hh : regInfo (off.toNat + 4) = none) :
    exec (.registerWrite { off := off, size := 8, value := w }) s = .next s ∧ s.hostRead off.toNat 8 = (0, s) := by
  rw [exec_registerWrite_sound s off 8 w hrun, s.hostRead_run _ _ hrun]
  exact ⟨congrArg _ (barWrite_eight_unassigned s _ ha hw hb hl hh), s.barRead_eight_unassigned ha hl hh⟩

/-- 01 R28: a write of a size or alignment that no register takes. -/
theorem registerWrite_ill_sized (v : Quad) (n : BitVec 4) (h : (n ≠ 4 ∧ n ≠ 8) ∨ off.toNat % n.toNat ≠ 0) :
    exec (.registerWrite { off := off, size := n, value := v }) s = .next (s.raise 0x0101 [it4 off.toNat, it1 1]) := by
  rw [exec_registerWrite_sound s off n v hrun]
  refine congrArg _ (barWrite_ill_sized s _ (h.imp_left fun ⟨h4, h8⟩ => ⟨?_, ?_⟩))
  · exact fun e => h4 (BitVec.eq_of_toNat_eq e)
  · exact fun e => h8 (BitVec.eq_of_toNat_eq e)

/-- 01 R27: a write of a parcel's or an engine's register that a run holds. -/
theorem registerWrite_held {e : Nat} (hv : v.toNat < 2 ^ 32) (ha : off.toNat % 4 = 0) (hlo : 0x1000000 ≤ off.toNat)
    (hw : off.toNat < 0x1800000) (hr : regInfo off.toNat = some r)
    (hp : s.parcelOn ((off.toNat - 0x1000000) / 0x40000) = true) (hs : specialWrite off.toNat v.toNat = none)
    (hg : s.guarded off.toNat v.toNat r = some e) :
    exec (.registerWrite { off := off, size := 4, value := v }) s = .next (s.raise 0x1001 [itEng e, it4 off.toNat]) := by
  have hb : bellRing off.toNat = none := if_neg (by omega)
  rw [exec_registerWrite_sound s off 4 v hrun]
  exact congrArg _ ((barWrite_four s ha hw hb (fun _ _ => hp) hv).trans (s.write32_held hr hs hg))

end

/-- Settles O9: each clause is the branch of BAR0 writes or reads that its hypotheses select. -/
theorem registersAreWritten : Obligations.RegistersAreWritten := by
  refine ⟨fun s off v hrun hv hwf => ⟨?_, ?_, ?_, ?_⟩, fun s off v r hrun hv ha hlo hw hr hp hs => ⟨?_, ?_⟩⟩
  · intro r ha hw hb hr hp hs hg
    exact registerWrite_by_access_type hrun hv hwf ha hw hb hr hp hs hg
  · intro ha hw hb hr
    obtain ⟨hwrite, hread⟩ := unassigned_access hrun hv ha hw hb hr
    exact ⟨hwrite, hread, fun ha8 _ hh w => unassigned_access_eight hrun w ha8 hw hb hr hh⟩
  · intro u c hu
    exact exec_registerWrite_poisoned s off 4 v c hrun hu
  · intro n h
    exact registerWrite_ill_sized hrun v n h
  · intro e hge he
    exact registerWrite_held hrun hv ha hlo hw hr hp hs (s.guarded_engine _ _ hge he)
  · intro p hgp hpa
    exact registerWrite_held hrun hv ha hlo hw hr hp hs (s.guarded_parcel _ _ hgp hpa)

end Sys2Proof.Machine
end

section
/-! SUPPORT. What ending every run, beginning a load and entering base mode leave unchanged: flash, and of the configuration controller all
but the CHANNELS_LIVE clears due (10 R308, R311, R318). -/

namespace Sys2Proof.Machine

/-- Flash and what the configuration controller holds, but for the CHANNELS_LIVE clears that are due: the part of the state that stagings
and loads work on. -/
def State.imagePart (s : State) : Flash × Cfg := (s.flash, { s.cfg with clearing := [] })

theorem State.imagePart_congr {s t : State} (hf : t.flash = s.flash) (hc : t.cfg = s.cfg) : t.imagePart = s.imagePart := by
  rw [State.imagePart, State.imagePart, hf, hc]

theorem State.flash_of_imagePart {s t : State} (h : t.imagePart = s.imagePart) : t.flash = s.flash := congrArg (·.1) h

theorem State.stage_of_imagePart {s t : State} (h : t.imagePart = s.imagePart) : t.cfg.stage = s.cfg.stage :=
  congrArg (·.2.stage) h

theorem State.stageReason_of_imagePart {s t : State} (h : t.imagePart = s.imagePart) : t.cfg.stageReason = s.cfg.stageReason :=
  congrArg (·.2.stageReason) h

/-- Applying one change per entry of a list keeps whatever each change keeps. -/
theorem foldl_keeps {α β σ : Type} (get : σ → β) (f : σ → α → σ) (hf : ∀ s a, get (f s a) = get s) (l : List α) (s : σ) :
    get (l.foldl f s) = get s := by
  induction l generalizing s with
  | nil => rfl
  | cons a l ih => rw [List.foldl_cons, ih, hf]

section
variable (s : State)

@[simp] theorem State.imagePart_setE (n : Nat) (x : Engine) : (s.setE n x).imagePart = s.imagePart := rfl
@[simp] theorem State.imagePart_modE (n : Nat) (g : Engine → Engine) : (s.modE n g).imagePart = s.imagePart := rfl
@[simp] theorem State.imagePart_modV (n : Nat) (g : Vq → Vq) : (s.modV n g).imagePart = s.imagePart := rfl
@[simp] theorem State.imagePart_setF (n : Nat) (x : Fm) : (s.setF n x).imagePart = s.imagePart := rfl
@[simp] theorem State.imagePart_modF (n : Nat) (g : Fm → Fm) : (s.modF n g).imagePart = s.imagePart := rfl
@[simp] theorem State.imagePart_setP (n : Nat) (x : Par) : (s.setP n x).imagePart = s.imagePart := rfl
@[simp] theorem State.imagePart_modP (n : Nat) (g : Par → Par) : (s.modP n g).imagePart = s.imagePart := rfl
@[simp] theorem State.imagePart_setRun (n : Nat) (r : Option Run) : (s.setRun n r).imagePart = s.imagePart := rfl
@[simp] theorem State.imagePart_setLink (n : Nat) (x : Link) : (s.setLink n x).imagePart = s.imagePart := rfl
@[simp] theorem State.imagePart_put (o : Out) : (s.put o).imagePart = s.imagePart := rfl
@[simp] theorem State.imagePart_dropAdmit (n : Nat) : (s.dropAdmit n).imagePart = s.imagePart := rfl
@[simp] theorem State.imagePart_raiseAt (c : Nat) (is : List Item) (k : Nat) : (s.raiseAt c is k).imagePart = s.imagePart :=
  State.imagePart_congr (by simp) (by simp)
@[simp] theorem State.imagePart_raise (c : Nat) (is : List Item) : (s.raise c is).imagePart = s.imagePart :=
  s.imagePart_raiseAt c is _
@[simp] theorem State.imagePart_finish (i : DescId) (d : Done) : (s.finish i d).imagePart = s.imagePart :=
  State.imagePart_congr (by simp) (by simp)
@[simp] theorem State.imagePart_stamp (n kind c b : Nat) : (s.stamp n kind c b).imagePart = s.imagePart := by
  rw [s.stamp_frame n kind c b]
  rfl

/-! Messages of a site. -/

@[simp] theorem State.imagePart_sendOn (l ty site arg target : Nat) : (s.sendOn l ty site arg target).imagePart = s.imagePart := by
  unfold State.sendOn State.sendFrom State.sayMessage
  simp only
  split <;> rfl

@[simp] theorem State.imagePart_sendRoute (site : Nat) (but : Option Nat) (ty arg target : Nat) :
    (s.sendRoute site but ty arg target).imagePart = s.imagePart := by
  unfold State.sendRoute
  split
  · rfl
  · exact State.each_keeps State.imagePart _ (fun s l => s.imagePart_sendOn l ty site arg target) _ _

@[simp] theorem State.imagePart_sendUp (site ty arg target : Nat) : (s.sendUp site ty arg target).imagePart = s.imagePart := by
  unfold State.sendUp
  split
  · split
    · exact s.imagePart_sendOn _ _ _ _ _
    · rfl
  · rfl

/-! The fail path. -/

@[simp] theorem State.imagePart_capture (e : Nat) (h l : Bool) (time : Nat) : (s.capture e h l time).imagePart = s.imagePart := by
  unfold State.capture
  simp only
  split
  · rfl
  · split <;> simp

@[simp] theorem State.imagePart_enterRec (p : Nat) (r : Rec) (time : Nat) : (s.enterRec p r time).imagePart = s.imagePart := by
  unfold State.enterRec
  simp only
  split
  · rfl
  · split <;> simp

@[simp] theorem State.imagePart_mapUpdate (p addr lane : Nat) (rc : Rec) (time : Nat) :
    (s.mapUpdate p addr lane rc time).imagePart = s.imagePart := by
  unfold State.mapUpdate
  simp only
  split
  · rfl
  · split
    · rfl
    · split <;> simp

@[simp] theorem State.imagePart_countFail (site : Nat) (r : Run) (e : Nat) (m : Sample) (tr : Bool) :
    (s.countFail site r e m tr).imagePart = s.imagePart := by
  have hlimited (c : Prop) [Decidable c] (u : State) (p : Nat) (rc : Rec) (k : Nat) (g h : Engine → Engine) :
      (if c then (u.modE e g).enterRec p rc k else u.modE e h).imagePart = u.imagePart := by split <;> simp
  have hif (c : Prop) [Decidable c] (u v : State) (h : u.imagePart = v.imagePart) : (if c then u else v).imagePart = v.imagePart := by
    split <;> simp [h]
  unfold State.countFail
  simp only
  split
  · exact (hlimited _ _ _ _ _ _ _).trans (s.imagePart_setE _ _)
  · split
    · simp
    · split
      · rw [State.imagePart_mapUpdate]
        exact (hif _ _ _ (hlimited _ _ _ _ _ _ _)).trans (s.imagePart_setE _ _)
      · rw [State.imagePart_enterRec, State.imagePart_modF]
        exact (hif _ _ _ (hlimited _ _ _ _ _ _ _)).trans (s.imagePart_setE _ _)

@[simp] theorem State.imagePart_countSample (site : Nat) (r : Run) (e : Nat) (m : Sample) :
    (s.countSample site r e m).imagePart = s.imagePart := by
  have hout (u : State) : (u.failOutAt site r e m.tick).imagePart = u.imagePart := rfl
  have hcap (k : Nat) : (if m.isCap then s.capture e m.h m.l k else s).imagePart = s.imagePart := by split <;> simp
  unfold State.countSample
  simp only
  split
  · exact hcap _
  · split
    · exact (State.imagePart_stamp _ _ _ _ _).trans (hcap _)
    · rw [State.imagePart_stamp, hout, State.imagePart_countFail]
      exact hcap _

@[simp] theorem State.imagePart_moveSamples (e : Nat) (r : Run) (now : Nat) : (s.moveSamples e r now).imagePart = s.imagePart := by
  unfold State.moveSamples
  simp only
  split <;> rfl

@[simp] theorem State.imagePart_settleSite (n : Nat) : (s.settleSite n).imagePart = s.imagePart := by
  unfold State.settleSite State.settle
  refine (State.each_keeps State.imagePart _ (fun s e => ?_) _ _).trans (foldl_keeps State.imagePart _ (fun s d => ?_) _ _)
  · split <;> simp
  · split <;> simp

/-! The end of a run and the reset of a site. -/

@[simp] theorem State.imagePart_releaseMq (p : Nat) : (s.releaseMq p).imagePart = s.imagePart := by
  unfold State.releaseMq
  simp only
  split <;> rfl

@[simp] theorem State.imagePart_emptyMq (p : Nat) : (s.emptyMq p).imagePart = s.imagePart := by
  unfold State.emptyMq
  refine (State.each_keeps State.imagePart _ (fun s e => ?_) _ _).trans (s.imagePart_modP _ _)
  split <;> rfl

@[simp] theorem State.imagePart_emptyBufs (p : Nat) : (s.emptyBufs p).imagePart = s.imagePart := by
  unfold State.emptyBufs
  refine State.each_keeps State.imagePart _ (fun s e => ?_) _ _
  split <;> rfl

@[simp] theorem State.imagePart_setSring (q : StreamId) (r : VRing) : (s.setSring q r).imagePart = s.imagePart := by
  cases q <;> rfl

@[simp] theorem State.imagePart_restartStream (e : Nat) : (s.restartStream e).imagePart = s.imagePart := by
  unfold State.restartStream bindStream State.streamError
  simp only
  split
  · simp
  · split <;> simp

@[simp] theorem State.imagePart_resetSite (n : Nat) : (s.resetSite n).imagePart = s.imagePart := by
  unfold State.resetSite State.resetQueues
  refine (State.each_keeps State.imagePart _ (fun s p => ?_) _ _).trans
    ((State.each_keeps State.imagePart _ (fun s e => ?_) _ _).trans
      (State.each_keeps State.imagePart _ (fun s e => s.imagePart_modE e _) _ _))
  · simp only
    split <;> simp
  · simp

@[simp] theorem State.imagePart_siteQuiet (n : Nat) (aborts resets : List DescId) :
    (s.siteQuiet n aborts resets).imagePart = s.imagePart := by
  have hends (l : List (DescId × List Nat)) (u : State) :
      (l.foldl (fun s c => s.finish c.1 {}) u).imagePart = u.imagePart := by
    refine foldl_keeps State.imagePart _ (fun s c => ?_) l u
    simp
  have hresets (l : List DescId) (u : State) : (l.foldl (fun s i => (s.resetSite n).finish i {}) u).imagePart = u.imagePart := by
    refine foldl_keeps State.imagePart _ (fun s i => ?_) l u
    simp
  have haborts (l : List DescId) (u : State) : (l.foldl (fun s i => s.finish i {}) u).imagePart = u.imagePart := by
    refine foldl_keeps State.imagePart _ (fun s i => ?_) l u
    simp
  have hclear (u : State) (l : List (DescId × List Nat)) :
      State.imagePart { u with cfg := { u.cfg with clearing := l } } = u.imagePart := rfl
  unfold State.siteQuiet
  refine (hends _ _).trans ((hclear _ _).trans ((hresets resets _).trans ?_))
  split
  · exact haborts aborts s
  · exact (State.imagePart_settleSite _ n).trans (haborts aborts s)

@[simp] theorem State.imagePart_setRunOut (n : Nat) (on : Bool) (k : Nat) : (s.setRunOut n on k).imagePart = s.imagePart := by
  unfold State.setRunOut
  refine State.each_keeps State.imagePart _ (fun s k => ?_) _ _
  simp only
  split <;> rfl

@[simp] theorem State.imagePart_keepEdges (n : Nat) (r : Run) : (s.keepEdges n r).imagePart = s.imagePart :=
  State.each_keeps State.imagePart _ (fun s e => s.imagePart_modE e _) _ _

@[simp] theorem State.imagePart_closeRun (n : Nat) : (s.closeRun n).imagePart = s.imagePart := by
  unfold State.closeRun
  refine (State.each_keeps State.imagePart _ (fun s p => by simp) _ _).trans ?_
  split <;> simp

@[simp] theorem State.imagePart_cancelStart (n : Nat) : (s.cancelStart n).imagePart = s.imagePart := by
  have hend (u : State) : (u.endStart n { status := 7 }).imagePart = u.imagePart := by
    unfold State.endStart
    split
    · rfl
    · refine (State.imagePart_siteQuiet _ _ _ _).trans
        ((State.each_keeps State.imagePart _ (fun s p => s.imagePart_releaseMq p) _ _).trans ?_)
      split <;> simp
  unfold State.cancelStart
  split
  · rfl
  · refine (hend _).trans ?_
    split <;> simp

@[simp] theorem State.imagePart_setMembers (n : Nat) (own : List Nat) : (s.setMembers n own).imagePart = s.imagePart := by
  unfold State.setMembers
  refine (State.each_keeps State.imagePart _ (fun _ _ => ?_) _ _).trans (State.each_keeps State.imagePart _ (fun _ _ => ?_) _ _)
  · rfl
  · rfl

@[simp] theorem State.imagePart_dissolveAll : s.dissolveAll.imagePart = s.imagePart := by
  have hmembers (u : State) (l : List Nat) : (u.each l fun s n => s.setMembers n []).imagePart = u.imagePart :=
    State.each_keeps State.imagePart _ (fun s n => s.imagePart_setMembers n []) l u
  have hengines (u : State) (l : List Nat) (g : Engine → Engine) : (u.each l fun s e => s.modE e g).imagePart = u.imagePart :=
    State.each_keeps State.imagePart _ (fun s e => s.imagePart_modE e g) l u
  unfold State.dissolveAll
  refine (hmembers _ _).trans (State.each_keeps State.imagePart _ (fun s n => ?_) _ _)
  split
  · rfl
  · split
    · exact s.imagePart_cancelStart n
    · refine (State.imagePart_siteQuiet _ _ _ _).trans ?_
      split <;> split <;> simp [hengines]

/-! The other steps of a load's begin, and base mode. -/

@[simp] theorem State.imagePart_readbackLoad : s.readbackLoad.imagePart = s.imagePart := by
  unfold State.readbackLoad
  show State.imagePart (match s.fab.rbPend with | some b => _ | none => s) = _
  split
  · exact State.imagePart_finish _ _ _
  · rfl

@[simp] theorem State.imagePart_scrubEnd : s.scrubEnd.imagePart = s.imagePart := rfl

@[simp] theorem State.imagePart_resetStatics : s.resetStatics.imagePart = s.imagePart :=
  State.each_keeps State.imagePart _ (fun _ _ => State.each_keeps State.imagePart _ (fun s e => s.imagePart_modV e _) _ _) _ _

@[simp] theorem State.imagePart_dropWindow : s.dropWindow.imagePart = s.imagePart := by
  unfold State.dropWindow State.winRead
  refine (foldl_keeps State.imagePart _ (fun s a => ?_) _ _).trans rfl
  split <;> rfl

@[simp] theorem State.imagePart_switchOff (p : Nat) : (s.switchOff p).imagePart = s.imagePart := by
  have hblank (u : State) (w : Pwr) : State.imagePart { u.blankParcel p with pwr := w } = u.imagePart := rfl
  unfold State.switchOff State.endParcelWork
  split
  · refine (hblank _ _).trans ?_
    simp only
    split <;> split <;> simp
  · rfl

@[simp] theorem State.imagePart_pinToBase (n : Nat) : (s.pinToBase n).imagePart = s.imagePart := by
  unfold State.pinToBase
  simp only
  split <;> rfl

/-- The state in which a load marks the controller, once everything that runs has ended. -/
def State.loadCleared : State :=
  (s.dissolveAll.readbackLoad.scrubEnd.resetStatics.dropWindow).each (List.range 32) fun s p => (s.emptyBufs p).emptyMq p

@[simp] theorem State.imagePart_loadCleared : s.loadCleared.imagePart = s.imagePart :=
  (State.each_keeps State.imagePart _ (fun s p => by simp) _ _).trans (by simp)

/-- What a load marks then: GSR, the AON flag and the load itself; `prev` is the slot active before. -/
def State.markLoad (prev slot : Nat) (why : LoadFor) (source : Nat) : State :=
  { s with
    fab := { s.fab with gsr := true, clocks := false, ports := false, eccCorr := 0, eccUnc := 0 }
    aon := { s.aon with loadFlag := true, loadSource := source }
    cfg := { s.cfg with
      live := false, loaded := false, confirmed := false, active := 3, released := none, phase := 0, source := 7
      load := some { slot := slot, why := why, prev := prev, keyOk := s.boundKeyOk slot } } }

theorem State.markLoad_keeps (prev slot : Nat) (why : LoadFor) (source : Nat) :
    (s.markLoad prev slot why source).flash = s.flash ∧ (s.markLoad prev slot why source).cfg.stage = s.cfg.stage ∧
      (s.markLoad prev slot why source).cfg.stageReason = s.cfg.stageReason := ⟨rfl, rfl, rfl⟩

theorem State.markLoad_load (prev slot : Nat) (why : LoadFor) (source : Nat) :
    (s.markLoad prev slot why source).cfg.load =
      some { slot := slot, why := why, prev := prev, keyOk := s.boundKeyOk slot } := rfl

theorem State.beginLoad_eq (slot : Nat) (why : LoadFor) (source : Nat) :
    s.beginLoad slot why source = s.loadCleared.markLoad s.cfg.active slot why source := by
  unfold State.beginLoad State.loadCleared
  rfl

/-- A load that begins changes nothing of flash, and no staging. -/
theorem State.beginLoad_keeps (slot : Nat) (why : LoadFor) (source : Nat) :
    (s.beginLoad slot why source).flash = s.flash ∧ (s.beginLoad slot why source).cfg.stage = s.cfg.stage ∧
      (s.beginLoad slot why source).cfg.stageReason = s.cfg.stageReason := by
  have hmark := s.loadCleared.markLoad_keeps s.cfg.active slot why source
  rwa [State.flash_of_imagePart s.imagePart_loadCleared, State.stage_of_imagePart s.imagePart_loadCleared,
    State.stageReason_of_imagePart s.imagePart_loadCleared, ← s.beginLoad_eq] at hmark

theorem State.beginLoad_load (slot : Nat) (why : LoadFor) (source : Nat) :
    ∃ q k, (s.beginLoad slot why source).cfg.load = some { slot := slot, why := why, prev := q, keyOk := k } := by
  rw [s.beginLoad_eq]
  exact ⟨_, _, s.loadCleared.markLoad_load s.cfg.active slot why source⟩

@[simp] theorem State.beginLoad_flash (slot : Nat) (why : LoadFor) (source : Nat) : (s.beginLoad slot why source).flash = s.flash :=
  (s.beginLoad_keeps slot why source).1

@[simp] theorem State.enterBase_flash : s.enterBase.flash = s.flash := by
  have hkeep : (((s.dissolveAll.readbackLoad.scrubEnd.dropWindow).each (List.range 32) State.switchOff).each
      (List.range 96) State.pinToBase).imagePart = s.imagePart :=
    (State.each_keeps State.imagePart _ (fun s n => s.imagePart_pinToBase n) _ _).trans
      ((State.each_keeps State.imagePart _ (fun s p => s.imagePart_switchOff p) _ _).trans (by simp))
  unfold State.enterBase
  simp only
  rw [State.raise_flash]
  generalize State.each _ (List.range 96) _ = u at hkeep ⊢
  exact (rfl : _ = u.flash).trans (State.flash_of_imagePart hkeep)

@[simp] theorem State.bootStage_flash (g : Bool) : (s.bootStage g).flash = s.flash := by
  unfold State.bootStage
  split <;> rfl

@[simp] theorem State.stageEnded_flash : s.stageEnded.flash = s.flash := by
  unfold State.stageEnded
  split
  · exact s.bootStage_flash _
  · rfl

/-- A boot sequence that goes on changes nothing of flash: it records no attempt and writes no slot by itself. -/
@[simp] theorem State.bootOn_flash (fuel : Nat) (todo : List Nat) : (State.bootOn fuel todo s).flash = s.flash := by
  induction fuel generalizing todo s with
  | zero => exact s.enterBase_flash
  | succ fuel ih =>
    unfold State.bootOn
    split
    · unfold State.trySource
      simp only
      split <;> simp
    · simp only
      split
      · simp
      · simp [ih]

end

end Sys2Proof.Machine
end

section
/-! SUPPORT. What the steps of a staging leave unchanged, and the branches of each: opening, blocks, the begin of the target, the body,
the end (10 R289, R302, R303, R306; 09 R264). -/

namespace Sys2Proof.Machine

/-- With its completion ring enabled, a descriptor's completion waits at the end of those due. -/
theorem State.finish_cplOf (s : State) (i : DescId) (d : Done) (h : s.cplOn i) : (s.finish i d).hif.cpls = s.hif.cpls ++ [cplOf i d] :=
  s.finish_cpls i d h

/-- Whether a descriptor's completion ring is enabled depends on the registers and the rings alone. -/
theorem State.cplOn_congr {s t : State} (hregs : t.regs = s.regs) (hrings : t.hif.rings = s.hif.rings) (i : DescId) (h : s.cplOn i) :
    t.cplOn i := by
  unfold State.cplOn State.ring State.cplRing State.regF State.reg at *
  rwa [hregs, hrings]

theorem State.named_ring (s : State) (i : DescId) : (s.named i).ring = i.ring := by
  unfold State.named
  split <;> rfl

/-! Opening a staging (10 R289, R302 step 1). -/

section
variable (s : State) (i : DescId) {slot source blocks : Nat}

theorem imageStage_opens (hnone : s.cfg.stage = none) (hok : s.stageRefused slot = false) :
    imageStage i slot source blocks s =
      s.openStage { src := .host i (decide (source ≠ 0)) (decide (source = 2)), slot := slot, blocks := blocks } := by
  simp [imageStage, hnone, hok]

theorem imageStage_busy {x : Staging} (h : s.cfg.stage = some x) : imageStage i slot source blocks s = s.finish i { status := 3 } := by
  simp [imageStage, h]

theorem imageStage_refused (hnone : s.cfg.stage = none) (h : s.stageRefused slot = true) :
    imageStage i slot source blocks s = s.finish i { status := 1 } := by
  simp [imageStage, hnone, h]

theorem State.stageRefused_eq_false_iff : s.stageRefused slot = false ↔
    s.cfg.active ≠ slot ∧ (∀ l ∈ s.cfg.load, l.slot ≠ slot) ∧ (slot = 2 → s.cfg.gStageEn = true) := by
  unfold State.stageRefused
  cases s.cfg.load <;> simp [and_assoc]

theorem State.stageRefused_of_active_or_locked (h : s.cfg.active = slot ∨ (slot = 2 ∧ s.cfg.gStageEn = false)) :
    s.stageRefused slot = true := by
  unfold State.stageRefused
  rcases h with h | ⟨h, hg⟩ <;> simp [*]

end

/-- An IMAGE_STAGE with operands in range starts where the gate lets it (12 R356, R358). -/
theorem exec_imageStage_starts (s : State) (d : DescRef) {slot source : Byte} {blocks : Word}
    (hstart : s.starts (descId d 0x20) (rowFields (.imageStage d slot source blocks)) true = true) (hslot : slot.toNat < 3)
    (hsource : source.toNat < 3) (hblocks : source.toNat = 0 ↔ blocks.toNat ≠ 0) :
    exec (.imageStage d slot source blocks) s =
      .next (imageStage (s.named (descId d 0x20)) slot.toNat source.toNat blocks.toNat (s.begun (descId d 0x20))) := by
  have hn : (source = 0 ↔ ¬blocks = 0) := by simpa [← BitVec.toNat_inj] using hblocks
  have hcause : malformedCause false
      (decide (3 ≤ slot.toNat) || decide (3 ≤ source.toNat) || (decide (source ≠ 0) && decide (blocks ≠ 0)))
      (decide (source = 0) && decide (blocks = 0)) = none := by
    by_cases hz : source = 0 <;> simp_all [malformedCause]
  show answer _ = _
  rw [hcause, answer]
  exact congrArg Host.Outcome.next (s.runDesc_starts _ _ _
    (fun k => imageStage k slot.toNat source.toNat blocks.toNat) hstart)

/-! The flash queues. -/

/-- The state but for the flash controller. -/
def State.forgetNvm (s : State) : State := { s with nvm := {} }

theorem State.eq_of_forgetNvm {s t : State} (h : t.forgetNvm = s.forgetNvm) : t = { s with nvm := t.nvm } :=
  congrArg (fun u : State => { u with nvm := t.nvm }) h

theorem State.hif_of_forgetNvm {s t : State} (h : t.forgetNvm = s.forgetNvm) : t.hif = s.hif := congrArg (·.hif) h

theorem State.flash_of_forgetNvm {s t : State} (h : t.forgetNvm = s.forgetNvm) : t.flash = s.flash := congrArg (·.flash) h

section
variable (s : State)

@[simp] theorem State.forgetNvm_setBankQ (b : Nat) (q : List FlashOp) : (s.setBankQ b q).forgetNvm = s.forgetNvm := rfl
@[simp] theorem State.forgetNvm_enqueue (b : Nat) (o : FlashOp) : (s.enqueue b o).forgetNvm = s.forgetNvm := rfl
@[simp] theorem State.forgetNvm_stageSystem (slot : Nat) (im : List Byte) (b : Nat) :
    (s.stageSystem slot im b).forgetNvm = s.forgetNvm := s.forgetNvm_setBankQ b _

@[simp] theorem State.forgetNvm_stageFrame (slot : Nat) (fr : Nat × List Byte) : (s.stageFrame slot fr).forgetNvm = s.forgetNvm := by
  unfold State.stageFrame
  simp only
  split <;> rfl

@[simp] theorem State.forgetNvm_openBank (slot b : Nat) : (s.openBank slot b).forgetNvm = s.forgetNvm := by
  unfold State.openBank
  simp only
  refine (State.each_keeps State.forgetNvm _ (fun s i => s.forgetNvm_enqueue b _) _ _).trans ?_
  refine (foldl_keeps State.forgetNvm _ (fun s k => ?_) _ _).trans (s.forgetNvm_enqueue b _)
  exact foldl_keeps State.forgetNvm _ (fun s p => s.forgetNvm_enqueue b _) _ _

@[simp] theorem State.forgetNvm_openSystem (slot b : Nat) : (s.openSystem slot b).forgetNvm = s.forgetNvm := by
  unfold State.openSystem
  exact State.each_keeps State.forgetNvm _ (fun s i => s.forgetNvm_enqueue b _) _ _

end

/-! The body of an image (10 R302 step 4). -/

/-- The frames of a body that have not been handed to the flash, in the order of their arrival. -/
def Staging.news (x : Staging) : List (Nat × List Byte) := (x.body.frames.take (x.body.frames.length - x.handled)).reverse

/-- The staging once those frames are handed over. -/
def Staging.counted (x : Staging) : Staging :=
  { x with handled := x.body.frames.length, tails := countFrames true x.tails x.news, mains := countFrames false x.mains x.news }

/-- The frames handed to their banks. -/
def State.handFrames (s : State) (x : Staging) : State := x.news.foldl (State.stageFrame x.slot) s

/-- The system part, of an image that is whole, handed to the four system banks. -/
def State.handSystem (s : State) (x : Staging) : State :=
  s.each ((List.range 4).map (· + frameBanks)) (State.stageSystem x.slot (x.bytes.take 64 ++ x.plain))

/-- The staging in progress replaced. -/
def State.setStage (s : State) (x : Staging) : State := { s with cfg := { s.cfg with stage := some x } }

section
variable (s : State) {x : Staging}

@[simp] theorem State.forgetNvm_handFrames : (s.handFrames x).forgetNvm = s.forgetNvm :=
  foldl_keeps State.forgetNvm _ (fun s fr => s.forgetNvm_stageFrame x.slot fr) _ _

@[simp] theorem State.forgetNvm_handSystem : (s.handSystem x).forgetNvm = s.forgetNvm :=
  State.each_keeps State.forgetNvm _ (fun s b => s.forgetNvm_stageSystem x.slot _ b) _ _

theorem State.stageBody_unfinished (hbad : x.body.bad = none) (hlen : x.bytes.length < 84 + (readHeader x.bytes).len) :
    s.stageBody x = (s.handFrames x).setStage x.counted := by
  unfold State.stageBody
  simp only [hbad, hlen, if_true]
  rfl

theorem State.stageBody_whole (hbad : x.body.bad = none) (hlen : 84 + (readHeader x.bytes).len ≤ x.bytes.length) :
    s.stageBody x = (((s.handFrames x).handSystem x).setStage { x.counted with arrived := true }).stageJudge := by
  unfold State.stageBody
  simp only [hbad, Nat.not_lt.mpr hlen, if_false]
  rfl

/-- While the staging has flash operations left it is not judged. -/
theorem State.stageJudge_waits (h : s.stageOps = true) : s.stageJudge = s := by
  unfold State.stageJudge
  split <;> simp [h]

end

/-! Blocks (10 R302, R303, R306). -/

section
variable (s : State) {b : HostBlock} (dirs : List (List Byte)) (octal : Bool) {x : Staging}

theorem exec_stageBlock (hwf : b.wellFormed = true) : exec (.stageBlock b dirs octal) s = .next (stageBlock b dirs octal s) := by
  show (if !b.wellFormed then _ else answer _) = _
  rw [hwf]
  rfl

/-- A block read without an error leaves no error to report. -/
theorem State.blockError_clean (herr : b.err = none) : s.blockError [b] = s := by
  unfold State.blockError
  cases badBlock 0 [b] <;> simp [herr]

/-- A block that arrives whole, from the host or from a flash source whose directory names the image, joins the image. -/
theorem stageBlock_joins (herr : b.err = none) (hx : s.cfg.stage = some x) (hsrc : x.src ≠ .jtag) (harr : x.arrived = false)
    (hhost : x.fromFlash = false → crc32c b.data = b.check ∧ s.requests = true)
    (hflash : x.fromFlash = true → x.bytes ≠ [] ∧ x.dirLen.isSome = true) :
    stageBlock b dirs octal s = s.stageData x b.data := by
  unfold stageBlock
  cases hf : x.fromFlash
  · obtain ⟨hcrc, hreq⟩ := hhost hf
    have hgood (k : Nat) : badBlock k [b] = none := by simp [badBlock, herr, hcrc]
    simp [hx, hsrc, harr, hreq, hgood, s.blockError_clean herr, hf]
  · obtain ⟨hne, hdir⟩ := hflash hf
    have hdir' : x.dirLen.isNone = false := by simpa using hdir
    simp [hx, hsrc, harr, hne, hdir', herr, hf]

/-- A block from the host whose check fails ends the staging. -/
theorem stageBlock_fails (herr : b.err = none) (hx : s.cfg.stage = some x) (hsrc : x.src ≠ .jtag) (harr : x.arrived = false)
    (hf : x.fromFlash = false) (hreq : s.requests = true) (hcrc : crc32c b.data ≠ b.check) :
    stageBlock b dirs octal s = s.stageFail x 0x0C none (some (x.bytes.length / 4096, 0x0B)) := by
  have hbad : badBlock (x.bytes.length / 4096) [b] = some (x.bytes.length / 4096, 0x0B) := by simp [badBlock, herr, hcrc]
  unfold stageBlock
  simp [hx, hsrc, harr, hreq, hbad, s.blockError_clean herr, hf]

/-- The staging with the bytes of a block. -/
def Staging.joined (x : Staging) (data : List Byte) : Staging := { x with bytes := x.bytes ++ data }

/-- The staging with the key that its header names. -/
def State.withKey (s : State) (x : Staging) : Staging := { x with key := (s.keyFor (readHeader x.bytes).keySel).getD [] }

/-- After the header is accepted, a block's bytes are read on in the body. -/
theorem State.stageData_begun (data : List Byte) (h : x.begun = true) :
    s.stageData x data = s.stageBody (x.joined data) := by
  simp [State.stageData, Staging.joined, h]

end

/-! The begin of the target (10 R302 steps 2 and 3, 09 R264). -/

/-- A slot table entry written under a journal entry is the entry read, and no other changes. -/
theorem State.journaled_setSlot_slot (s : State) (n k : Nat) (g : State → Slot) (h : SMap.wf slotReset s.flash.slots = true) :
    (s.journaled fun s => s.setSlot n (g s)).flash.slot k =
      if k = n then g (s.setFlash fun f => { f with journal := f.journal ++ [.update] }) else s.flash.slot k :=
  SMap.get_set_wf slotReset h n k _

/-- The target marked invalid and every bank's first operations queued. -/
def State.targetOpened (s : State) (n : Nat) : State :=
  ((s.journaled fun s => s.setSlot n { s.flash.slot n with valid := false }).each (List.range frameBanks) (State.openBank n)).each
    ((List.range 4).map (· + frameBanks)) (State.openSystem n)

section
variable (s : State) {x : Staging}

theorem State.forgetNvm_targetOpened (n : Nat) :
    (s.targetOpened n).forgetNvm = (s.journaled fun s => s.setSlot n { s.flash.slot n with valid := false }).forgetNvm :=
  (State.each_keeps State.forgetNvm _ (fun s b => s.forgetNvm_openSystem n b) _ _).trans
    (State.each_keeps State.forgetNvm _ (fun s b => s.forgetNvm_openBank n b) _ _)

theorem State.targetOpened_hif (n : Nat) : (s.targetOpened n).hif = s.hif :=
  (State.hif_of_forgetNvm (s.forgetNvm_targetOpened n)).trans rfl

theorem State.targetOpened_slot (n k : Nat) (h : SMap.wf slotReset s.flash.slots = true) :
    (s.targetOpened n).flash.slot k = if k = n then { s.flash.slot n with valid := false } else s.flash.slot k := by
  rw [State.flash_of_forgetNvm (s.forgetNvm_targetOpened n)]
  exact s.journaled_setSlot_slot n k (fun s => { s.flash.slot n with valid := false }) h

/-- With a free sector in every bank the target is begun. -/
theorem State.beginTarget_of_free (hfree : ∀ k, k < 256 → s.flash.freeOf k ≠ []) :
    s.beginTarget x = (s.targetOpened x.slot).setStage { x with begun := true } := by
  have hnone : (List.range frameBanks).find? (fun b =>
      ((s.journaled fun s => s.setSlot x.slot { s.flash.slot x.slot with valid := false }).flash.freeOf b).isEmpty) = none := by
    refine List.find?_eq_none.mpr fun b hb hempty => ?_
    exact hfree b (List.mem_range.mp hb) (List.isEmpty_iff.mp hempty)
  unfold State.beginTarget
  simp only [hnone]
  rfl

/-- A header that no check refuses begins the target, and the bytes after it are read on in the body. -/
theorem State.stageData_begins (data : List Byte) (hbegun : x.begun = false) (hhead : s.headerFault (x.joined data) = none)
    (hfree : ∀ k, k < 256 → s.flash.freeOf k ≠ []) :
    s.stageData x data = ((s.targetOpened x.slot).setStage { s.withKey (x.joined data) with begun := true }).stageBody
      { s.withKey (x.joined data) with begun := true } := by
  unfold State.stageData
  simp only
  rw [if_neg (by simp [hbegun])]
  split
  · next r hr => exact absurd (hhead.symm.trans hr) (by simp)
  · rw [s.beginTarget_of_free hfree]
    rfl

end

/-! The end of a staging: STAGE_DONE, and a failure (10 R302, R303, R311). -/

/-- The frame checks of a slot, by bank (10 R307). -/
def State.frameChecks (s : State) (n : Nat) : SMap Nat :=
  (List.range frameBanks).foldl (fun m b => SMap.set zeroNat m b (s.flash.bankCheck b n)) []

/-- The target valid with the image staged into it, and no staging in progress. -/
def State.stageKept (s : State) (x : Staging) : State :=
  let hd := readHeader x.bytes
  let t := s.journaled fun u => u.setSlot x.slot (slotOf hd x.body (s.frameChecks x.slot))
  { t with cfg := { s.cfg with stage := none, stageReason := 0, banksDone := 260 } }.raise 0x0305 [it1 x.slot, it8 hd.id]

/-- The state but for the flash controller and its journal. -/
def State.forgetOps (s : State) : State := { s with nvm := {}, flash := { s.flash with journal := [] } }

theorem State.eq_of_forgetOps {s t : State} (h : t.forgetOps = s.forgetOps) : t = { s with nvm := t.nvm, flash := { s.flash with
    journal := t.flash.journal } } :=
  congrArg (fun u : State => { u with nvm := t.nvm, flash := { u.flash with journal := t.flash.journal } }) h

theorem State.forgetOps_dropStageOps (s : State) : s.dropStageOps.forgetOps = s.forgetOps := by
  have hdrop (u : State) (b : Nat) : (u.dropOp b).forgetOps = u.forgetOps := by
    unfold State.dropOp
    split <;> rfl
  have hset (u : State) (b : Nat) (q : List FlashOp) : (u.setBankQ b q).forgetOps = u.forgetOps := rfl
  refine State.each_keeps State.forgetOps _ (fun s b => (hset _ b _).trans ?_) _ _
  split
  · split
    · exact hdrop s b
    · rfl
  · rfl

/-- The staging ended for a reason that carries no frame address, before what asked for it is answered. -/
def State.stageDropped (s : State) (reason : Nat) : State :=
  let t := s.dropStageOps
  { t with cfg := { t.cfg with stage := none, stageReason := reason } }.raise 0x0306 [it1 reason]

/-- A staging that ends with no flash source waiting for it opens no other. -/
theorem State.stageEnded_idle {s : State} (h : s.cfg.stageNext = none) : s.stageEnded = s := by
  unfold State.stageEnded
  rw [h]

section
variable (s : State) (x : Staging)

theorem State.stageKept_frame : s.stageKept x =
    { s with flash := (s.stageKept x).flash, cfg := (s.stageKept x).cfg, hif := (s.stageKept x).hif } := by
  unfold State.stageKept
  rw [State.raise, State.raiseAt_frame]
  rfl

theorem State.stageKept_cfg : (s.stageKept x).cfg = { s.cfg with stage := none, stageReason := 0, banksDone := 260 } := by
  simp [State.stageKept]

theorem State.stageKept_regs : (s.stageKept x).regs = s.regs := by rw [s.stageKept_frame x]

theorem State.stageKept_rings : (s.stageKept x).hif.rings = s.hif.rings := by
  unfold State.stageKept
  exact State.raise_hif_rings _ _ _

theorem State.stageKept_cpls : (s.stageKept x).hif.cpls = s.hif.cpls := by
  unfold State.stageKept
  exact State.raise_hif_cpls _ _ _

theorem State.stageKept_slot (h : SMap.wf slotReset s.flash.slots = true) (k : Nat) : (s.stageKept x).flash.slot k =
    if k = x.slot then slotOf (readHeader x.bytes) x.body (s.frameChecks x.slot) else s.flash.slot k := by
  unfold State.stageKept
  rw [State.raise_flash]
  exact s.journaled_setSlot_slot x.slot k (fun _ => slotOf (readHeader x.bytes) x.body (s.frameChecks x.slot)) h

end

section
variable {s : State} {x : Staging} {reason : Nat}

/-- STAGE_DONE of an image that is ready, by what asked for the staging. -/
theorem stageDone_eq (hx : s.cfg.stage = some x) (hready : x.ready = true) (hops : s.stageOps = false) :
    stageDone s = match x.src with
      | .host i _ _ => ((s.stageKept x).finish i { result := leBytes 4 0 ++ leBytes 8 (readHeader x.bytes).id }).stageEnded
      | .jtag => { s.stageKept x with cfg := { (s.stageKept x).cfg with jtagStatus := 0, jtagReason := 0 } }.stageEnded
      | .boot g => if x.stale then (s.stageKept x).stageEnded
          else (s.stageKept x).beginLoad x.slot (.boot (if g then 4 else 3)) (if g then 4 else 3) := by
  unfold stageDone
  rw [hx]
  simp only [hready, hops, Bool.not_true, Bool.or_self, Bool.false_eq_true, if_false]
  rfl

theorem State.stageDropped_flash (s : State) (reason : Nat) : ∃ j, (s.stageDropped reason).flash = { s.flash with journal := j } := by
  unfold State.stageDropped
  rw [State.raise_flash, State.eq_of_forgetOps s.forgetOps_dropStageOps]
  exact ⟨_, rfl⟩

theorem State.stageDropped_cfg (s : State) (reason : Nat) :
    (s.stageDropped reason).cfg = { s.cfg with stage := none, stageReason := reason } := by
  unfold State.stageDropped
  rw [State.raise_cfg, State.eq_of_forgetOps s.forgetOps_dropStageOps]

theorem State.stageDropped_regs (s : State) (reason : Nat) : (s.stageDropped reason).regs = s.regs := by
  unfold State.stageDropped
  rw [State.raise_regs, State.eq_of_forgetOps s.forgetOps_dropStageOps]

theorem State.stageDropped_rings (s : State) (reason : Nat) : (s.stageDropped reason).hif.rings = s.hif.rings := by
  unfold State.stageDropped
  rw [State.raise_hif_rings, State.eq_of_forgetOps s.forgetOps_dropStageOps]

theorem State.stageDropped_cpls (s : State) (reason : Nat) : (s.stageDropped reason).hif.cpls = s.hif.cpls := by
  unfold State.stageDropped
  rw [State.raise_hif_cpls, State.eq_of_forgetOps s.forgetOps_dropStageOps]

/-- A staging fails for a reason that carries no frame address, by what asked for it. -/
theorem State.stageFail_eq (block : Option (Nat × Nat)) (hreason : ¬(reason = 5 ∨ reason = 0x0A)) :
    s.stageFail x reason none block = match x.src with
      | .host i _ _ => ((s.stageDropped reason).finish i { (match block with | some p => blockDone p | none => { status := 2 }) with
          cause := if block.any (fun p => p.2 = 0x0E) then 0 else reason, result := leBytes 4 0 ++ leBytes 8 0 }).stageEnded
      | .jtag => { s.stageDropped reason with
          cfg := { (s.stageDropped reason).cfg with jtagStatus := 3, jtagReason := reason } }.stageEnded
      | .boot g => if x.stale then (s.stageDropped reason).stageEnded
          else State.bootOn bootFuel ((s.stageDropped reason).attemptFailed (if g then 4 else 3) reason).cfg.todo
            ((s.stageDropped reason).attemptFailed (if g then 4 else 3) reason) := by
  unfold State.stageFail
  rw [if_neg hreason]
  rfl

/-- A failed attempt writes the boot history and nothing else of flash. -/
theorem State.attemptFailed_flash (s : State) (source : Nat) : (s.attemptFailed source reason).flash = { s.flash with
    bootSeq := s.flash.bootSeq + 1,
    boots := ({ source := source, reason := reason, seq := s.flash.bootSeq + 1 } :: s.flash.boots).take 8 } := by
  unfold State.attemptFailed
  rw [State.raise_flash]
  rfl

end

end Sys2Proof.Machine
end

section
/-! SUPPORT. The clauses of ImagesAreStaged, one lemma for each (10 R289, R302, R303, R306), and what the one about the block that
makes an image whole turns on. -/

namespace Sys2Proof.Machine

/-! IMAGE_STAGE. -/

section
variable {s : State} {d : DescRef} {slot source : Byte} {blocks : Word}
  (hstart : s.starts (descId d 0x20) (rowFields (.imageStage d slot source blocks)) true = true) (hslot : slot.toNat < 3)
  (hsource : source.toNat < 3) (hblocks : source.toNat = 0 ↔ blocks.toNat ≠ 0)
include hstart hslot hsource hblocks

theorem exec_imageStage_opens (hnone : s.cfg.stage = none) (hactive : s.cfg.active ≠ slot.toNat)
    (hload : ∀ l ∈ s.cfg.load, l.slot ≠ slot.toNat) (hen : slot.toNat = 2 → s.cfg.gStageEn = true) :
    ∃ t, exec (.imageStage d slot source blocks) s = .next t ∧
      t.cfg = { s.cfg with
                stage := some { src := .host (s.named (descId d 0x20)) (decide (source.toNat ≠ 0)) (decide (source.toNat = 2)),
                                slot := slot.toNat, blocks := blocks.toNat },
                stageSlot := slot.toNat, stageReason := 0, banksDone := 0, gStageEn := s.cfg.gStageEn && decide (slot.toNat ≠ 2) } ∧
      t = { s with cfg := t.cfg, hif := t.hif } := by
  have hok : (s.begun (descId d 0x20)).stageRefused slot.toNat = false :=
    (State.stageRefused_eq_false_iff _).mpr ⟨hactive, hload, hen⟩
  refine ⟨_, exec_imageStage_starts s d hstart hslot hsource hblocks, ?_⟩
  rw [imageStage_opens _ _ (show (s.begun _).cfg.stage = none from hnone) hok]
  exact ⟨rfl, rfl⟩

theorem exec_imageStage_ends {x : Done} (hends : ∀ i, imageStage i slot.toNat source.toNat blocks.toNat (s.begun (descId d 0x20)) =
      (s.begun (descId d 0x20)).finish i x) (hcpl : s.cplOn (descId d 0x20)) :
    ∃ t, exec (.imageStage d slot source blocks) s = .next t ∧
      t.hif.cpls = s.hif.cpls ++ [cplOf (s.named (descId d 0x20)) x] ∧ t = { s with hif := t.hif } := by
  refine ⟨_, exec_imageStage_starts s d hstart hslot hsource hblocks, ?_⟩
  rw [hends]
  refine ⟨State.finish_cplOf _ _ _ ?_, State.finish_frame _ _ _⟩
  show ((s.begun _).ring ((s.begun _).cplRing (s.named _).ring)).en = true
  rw [s.named_ring]
  exact hcpl

end

/-! STAGE_BLOCK. -/

section
variable {s : State} {b : HostBlock} (dirs : List (List Byte)) (octal : Bool) {x : Staging}

/-- A staging replaced on top of a change of the flash queues alone. -/
theorem State.setStage_forgetNvm {s t : State} (x : Staging) (h : t.forgetNvm = s.forgetNvm) :
    t.setStage x = { s with cfg := (t.setStage x).cfg, nvm := t.nvm } := by
  rw [State.eq_of_forgetNvm h]
  rfl

@[simp] theorem State.setStage_stageOps (s : State) (x : Staging) : (s.setStage x).stageOps = s.stageOps := rfl
@[simp] theorem State.setStage_flash (s : State) (x : Staging) : (s.setStage x).flash = s.flash := rfl
@[simp] theorem State.setStage_hif (s : State) (x : Staging) : (s.setStage x).hif = s.hif := rfl

/-- What a good block of a body leaves: the staging with its bytes, and the flash queues. -/
def State.BodyRead (s : State) (x : Staging) (t : State) : Prop :=
  ∃ z, t.cfg.stage = some z ∧ z.bytes = x.bytes ∧ z.src = x.src ∧ z.slot = x.slot ∧ z.handled = x.body.frames.length ∧
    z.begun = x.begun ∧ z.arrived = decide (84 + (readHeader x.bytes).len ≤ x.bytes.length) ∧ t = { s with cfg := t.cfg, nvm := t.nvm }

theorem State.BodyRead.flash {s t : State} {x : Staging} (h : s.BodyRead x t) : t.flash = s.flash := by
  obtain ⟨z, -, -, -, -, -, -, -, heq⟩ := h
  rw [heq]

theorem State.BodyRead.hif {s t : State} {x : Staging} (h : s.BodyRead x t) : t.hif = s.hif := by
  obtain ⟨z, -, -, -, -, -, -, -, heq⟩ := h
  rw [heq]

theorem State.stageBody_unfinished_reads (hbad : x.body.bad = none) (harr : x.arrived = false)
    (hlen : x.bytes.length < 84 + (readHeader x.bytes).len) : s.BodyRead x (s.stageBody x) := by
  rw [s.stageBody_unfinished hbad hlen]
  refine ⟨x.counted, rfl, rfl, rfl, rfl, rfl, rfl, ?_, State.setStage_forgetNvm _ s.forgetNvm_handFrames⟩
  rw [decide_eq_false (Nat.not_le.mpr hlen)]
  exact harr

/-- Where the system part leaves operations to do, an image that is whole waits for them. -/
theorem State.stageBody_whole_reads (hbad : x.body.bad = none) (hlen : 84 + (readHeader x.bytes).len ≤ x.bytes.length)
    (hops : ((s.handFrames x).handSystem x).stageOps = true) : s.BodyRead x (s.stageBody x) := by
  rw [s.stageBody_whole hbad hlen, State.stageJudge_waits _ ((State.setStage_stageOps _ _).trans hops)]
  refine ⟨{ x.counted with arrived := true }, rfl, rfl, rfl, rfl, rfl, rfl, ?_, State.setStage_forgetNvm _ ?_⟩
  · exact (decide_eq_true hlen).symm
  · exact (State.forgetNvm_handSystem _).trans s.forgetNvm_handFrames

/-- A good block of a body, where an image that is whole has flash operations left: the bytes are added. -/
theorem exec_stageBlock_reads (hwf : b.wellFormed = true) (herr : b.err = none) (hx : s.cfg.stage = some x) (hsrc : x.src ≠ .jtag)
    (harr : x.arrived = false) (hhost : x.fromFlash = false → crc32c b.data = b.check ∧ s.requests = true)
    (hflash : x.fromFlash = true → x.bytes ≠ [] ∧ x.dirLen.isSome = true) (hbegun : x.begun = true)
    (hbad : (x.joined b.data).body.bad = none)
    (hops : (x.joined b.data).bytes.length < 84 + (readHeader (x.joined b.data).bytes).len ∨
      ((s.handFrames (x.joined b.data)).handSystem (x.joined b.data)).stageOps = true) :
    ∃ t, exec (.stageBlock b dirs octal) s = .next t ∧ s.BodyRead (x.joined b.data) t := by
  refine ⟨_, exec_stageBlock s dirs octal hwf, ?_⟩
  rw [stageBlock_joins s dirs octal herr hx hsrc harr hhost hflash, s.stageData_begun _ hbegun]
  rcases Nat.lt_or_ge (x.joined b.data).bytes.length (84 + (readHeader (x.joined b.data).bytes).len) with hlen | hlen
  · exact s.stageBody_unfinished_reads hbad harr hlen
  · exact s.stageBody_whole_reads hbad hlen (hops.resolve_left (Nat.not_lt.mpr hlen))

/-- The first block whose header no check refuses: the target is invalid and begun, and its bytes are added. -/
theorem exec_stageBlock_begins (hwf : b.wellFormed = true) (herr : b.err = none) (hx : s.cfg.stage = some x) (hsrc : x.src ≠ .jtag)
    (harr : x.arrived = false) (hhost : x.fromFlash = false → crc32c b.data = b.check ∧ s.requests = true)
    (hflash : x.fromFlash = true → x.bytes ≠ [] ∧ x.dirLen.isSome = true) (hbegun : x.begun = false)
    (hhead : s.headerFault (x.joined b.data) = none) (hfree : ∀ k, k < 256 → s.flash.freeOf k ≠ [])
    (hbad : (s.withKey (x.joined b.data)).body.bad = none)
    (hlen : (x.joined b.data).bytes.length < 84 + (readHeader (x.joined b.data).bytes).len)
    (hslots : SMap.wf slotReset s.flash.slots = true) :
    ∃ t z, exec (.stageBlock b dirs octal) s = .next t ∧ t.cfg.stage = some z ∧ z.begun = true ∧ z.bytes = x.bytes ++ b.data ∧
      z.slot = x.slot ∧ (t.flash.slot x.slot).valid = false ∧ (∀ n, n ≠ x.slot → t.flash.slot n = s.flash.slot n) ∧
      t.hif.cpls = s.hif.cpls := by
  have hread := State.stageBody_unfinished_reads
    (s := (s.targetOpened x.slot).setStage { s.withKey (x.joined b.data) with begun := true })
    (x := { s.withKey (x.joined b.data) with begun := true }) hbad harr hlen
  rw [← s.stageData_begins _ hbegun hhead hfree, ← stageBlock_joins s dirs octal herr hx hsrc harr hhost hflash] at hread
  have hflash' := hread.flash.trans (State.setStage_flash _ _)
  have hhif := hread.hif.trans (State.setStage_hif _ _)
  obtain ⟨z, hz, hbytes, -, hslot, -, hzbegun, -, -⟩ := hread
  refine ⟨_, z, exec_stageBlock s dirs octal hwf, hz, hzbegun, hbytes, hslot, ?_, fun n hn => ?_, ?_⟩
  · rw [hflash', s.targetOpened_slot _ _ hslots, if_pos rfl]
  · rw [hflash', s.targetOpened_slot _ _ hslots, if_neg hn]
  · rw [hhif, s.targetOpened_hif]

/-- The result of a descriptor whose staging ends at a block from the host, by its number, that fails its check. -/
def stagedBlockBad (n : Nat) : Done := { blockDone (n, 0x0B) with cause := 0x0C, result := leBytes 4 0 ++ leBytes 8 0 }

/-- A block from the host whose check fails ends the staging and completes its descriptor, with the block's number. -/
theorem exec_stageBlock_fails {i : DescId} {g : Bool} (hwf : b.wellFormed = true) (herr : b.err = none) (hx : s.cfg.stage = some x)
    (hsrc : x.src = .host i false g) (harr : x.arrived = false) (hreq : s.requests = true) (hcrc : crc32c b.data ≠ b.check)
    (hnext : s.cfg.stageNext = none) (hcpl : s.cplOn i) :
    ∃ t c, exec (.stageBlock b dirs octal) s = .next t ∧ t.cfg.stage = none ∧ t.cfg.stageReason = 0x0C ∧
      t.hif.cpls = s.hif.cpls ++ [c] ∧ c.cause = 0x0C ∧ c.status = 0x0B ∧ c.block = x.bytes.length / 4096 := by
  have hflash : x.fromFlash = false := by simp [Staging.fromFlash, hsrc]
  have hjtag : x.src ≠ .jtag := by simp [hsrc]
  have heq : stageBlock b dirs octal s = (s.stageDropped 0x0C).finish i (stagedBlockBad (x.bytes.length / 4096)) := by
    rw [stageBlock_fails s dirs octal herr hx hjtag harr hflash hreq hcrc, State.stageFail_eq _ (by decide), hsrc]
    exact State.stageEnded_idle (by rw [State.finish_cfg, s.stageDropped_cfg]; exact hnext)
  refine ⟨_, cplOf i (stagedBlockBad (x.bytes.length / 4096)), exec_stageBlock s dirs octal hwf, ?_, ?_, ?_, rfl, rfl, rfl⟩
  · rw [heq, State.finish_cfg, s.stageDropped_cfg]
  · rw [heq, State.finish_cfg, s.stageDropped_cfg]
  · rw [heq, State.finish_cplOf _ _ _ (State.cplOn_congr (s.stageDropped_regs _) (s.stageDropped_rings _) i hcpl), s.stageDropped_cpls]

end

/-! STAGE_DONE and EXT_FLASH_TIMEOUT. -/

section
variable {s : State} {x : Staging} {i : DescId} {f g : Bool}

/-- STAGE_DONE of a descriptor's staging completes the descriptor. -/
theorem stageDone_host (hx : s.cfg.stage = some x) (hready : x.ready = true) (hops : s.stageOps = false)
    (hnext : s.cfg.stageNext = none) (hsrc : x.src = .host i f g) :
    stageDone s = (s.stageKept x).finish i { result := leBytes 4 0 ++ leBytes 8 (readHeader x.bytes).id } := by
  rw [stageDone_eq hx hready hops, hsrc]
  exact State.stageEnded_idle (by rw [State.finish_cfg, s.stageKept_cfg]; exact hnext)

/-- STAGE_DONE of the port's staging completes its command. -/
theorem stageDone_jtag (hx : s.cfg.stage = some x) (hready : x.ready = true) (hops : s.stageOps = false)
    (hnext : s.cfg.stageNext = none) (hsrc : x.src = .jtag) :
    stageDone s = { s.stageKept x with cfg := { (s.stageKept x).cfg with jtagStatus := 0, jtagReason := 0 } } := by
  rw [stageDone_eq hx hready hops, hsrc]
  exact State.stageEnded_idle (by rw [s.stageKept_cfg]; exact hnext)

/-- STAGE_DONE of a boot's staging begins the boot's load, unless the boot sequence has been given up. -/
theorem stageDone_boot (hx : s.cfg.stage = some x) (hready : x.ready = true) (hops : s.stageOps = false)
    (hnext : s.cfg.stageNext = none) (hsrc : x.src = .boot g) :
    stageDone s = if x.stale then s.stageKept x
      else (s.stageKept x).beginLoad x.slot (.boot (if g then 4 else 3)) (if g then 4 else 3) := by
  rw [stageDone_eq hx hready hops, hsrc]
  simp only
  rw [State.stageEnded_idle (show (s.stageKept x).cfg.stageNext = none by rw [s.stageKept_cfg]; exact hnext)]

/-- Whatever asked for the staging, STAGE_DONE leaves flash with the image, and the staging ended without a reason. -/
theorem stageDone_keeps (hx : s.cfg.stage = some x) (hready : x.ready = true) (hops : s.stageOps = false)
    (hnext : s.cfg.stageNext = none) : (stageDone s).flash = (s.stageKept x).flash ∧ (stageDone s).cfg.stage = none ∧
      (stageDone s).cfg.stageReason = 0 := by
  have hcfg := s.stageKept_cfg x
  cases hsrc : x.src with
  | host i f g =>
    rw [stageDone_host hx hready hops hnext hsrc]
    simp [hcfg]
  | jtag =>
    rw [stageDone_jtag hx hready hops hnext hsrc]
    simp [hcfg]
  | boot g =>
    rw [stageDone_boot hx hready hops hnext hsrc]
    obtain ⟨hflash, hstage, hreason⟩ := (s.stageKept x).beginLoad_keeps x.slot (.boot (if g then 4 else 3)) (if g then 4 else 3)
    split
    · simp [hcfg]
    · exact ⟨hflash, hstage.trans (by rw [hcfg]), hreason.trans (by rw [hcfg])⟩

theorem exec_stageDone : exec .stageDone s = .next (stageDone s) := rfl

theorem exec_extFlashTimeout : exec .extFlashTimeout s = .next (extFlashTimeout s) := rfl

/-- An external flash that stops responding fails a staging that reads from it. -/
theorem extFlashTimeout_fails (hx : s.cfg.stage = some x) (hflash : x.fromFlash = true) (harr : x.arrived = false) :
    extFlashTimeout s = s.stageFail x x.unreadable none none := by
  simp [extFlashTimeout, hx, hflash, harr]

theorem Staging.unreadable_no_frame (x : Staging) : ¬(x.unreadable = 5 ∨ x.unreadable = 0x0A) := by
  unfold Staging.unreadable
  split <;> decide

/-- A staging that fails for a reason without a frame address writes no slot. -/
theorem State.stageFail_slots {reason : Nat} (block : Option (Nat × Nat)) (hreason : ¬(reason = 5 ∨ reason = 0x0A)) :
    (s.stageFail x reason none block).flash.slots = s.flash.slots := by
  obtain ⟨j, hj⟩ := s.stageDropped_flash reason
  rw [State.stageFail_eq block hreason]
  split
  · simp [hj]
  · simp [hj]
  · split
    · simp [hj]
    · simp [State.attemptFailed_flash, hj]

theorem extFlashTimeout_host (hx : s.cfg.stage = some x) (harr : x.arrived = false) (hnext : s.cfg.stageNext = none)
    (hsrc : x.src = .host i true g) : extFlashTimeout s =
      (s.stageDropped 0x0E).finish i { status := 2, cause := 0x0E, result := leBytes 4 0 ++ leBytes 8 0 } := by
  have hreason : x.unreadable = 0x0E := by simp [Staging.unreadable, hsrc]
  rw [extFlashTimeout_fails hx (by simp [Staging.fromFlash, hsrc]) harr, State.stageFail_eq none x.unreadable_no_frame, hsrc, hreason]
  exact State.stageEnded_idle (by rw [State.finish_cfg, s.stageDropped_cfg]; exact hnext)

/-- In a boot sequence the attempt is recorded as failed with reason 0x08. -/
theorem extFlashTimeout_boots (hx : s.cfg.stage = some x) (harr : x.arrived = false) (hsrc : x.src = .boot g) (hstale : x.stale = false) :
    (extFlashTimeout s).flash.boots =
      ({ source := if g then 4 else 3, reason := 8, seq := s.flash.bootSeq + 1 } :: s.flash.boots).take 8 := by
  have hreason : x.unreadable = 8 := by simp [Staging.unreadable, hsrc]
  obtain ⟨j, hj⟩ := s.stageDropped_flash 8
  rw [extFlashTimeout_fails hx (by simp [Staging.fromFlash, hsrc]) harr, State.stageFail_eq none x.unreadable_no_frame, hsrc, hreason]
  simp [hstale, State.attemptFailed_flash, hj]

end

/-! The flash operations of an image that is whole. -/

section
variable {α : Type} {d : Nat → α}

theorem SMap.mem_set_self [DecidableEq α] (m : SMap α) (k : Nat) {v : α} (h : v ≠ d k) : (k, v) ∈ SMap.set d m k v := by
  rw [SMap.set, if_neg h]
  induction m with
  | nil => exact List.mem_singleton.mpr rfl
  | cons p m ih =>
    unfold SMap.insert
    split
    · exact List.mem_cons_of_mem _ ih
    · split <;> exact List.mem_cons_self

theorem SMap.mem_insert_of_ne {m : SMap α} {p : Nat × α} {k : Nat} (v : α) (hp : p ∈ m) (hk : p.1 ≠ k) : p ∈ SMap.insert m k v := by
  induction m with
  | nil => cases hp
  | cons q m ih =>
    unfold SMap.insert
    rcases List.mem_cons.mp hp with rfl | hm
    · split
      · exact List.mem_cons_self
      · exact List.mem_cons_of_mem _ List.mem_cons_self
    · split
      · exact List.mem_cons_of_mem _ (ih hm)
      · split
        · exact List.mem_cons_of_mem _ hm
        · exact List.mem_cons_of_mem _ (List.mem_cons_of_mem _ hm)

/-- Writing one key leaves the entries of the others listed. -/
theorem SMap.mem_set_of_ne [DecidableEq α] {m : SMap α} {p : Nat × α} {k : Nat} (v : α) (hp : p ∈ m) (hk : p.1 ≠ k) :
    p ∈ SMap.set d m k v := by
  unfold SMap.set
  split
  · rw [SMap.erase_eq_filter]
    exact List.mem_filter.mpr ⟨hp, decide_eq_true hk⟩
  · exact SMap.mem_insert_of_ne v hp hk

end

theorem State.stageOps_iff (s : State) : s.stageOps = true ↔ ∃ p ∈ s.nvm.queue, ∃ o ∈ p.2, o.who = .stage := by
  simp [State.stageOps]

theorem mem_queueOp {o new : FlashOp} {q : List FlashOp} : o ∈ queueOp new q ↔ o = new ∨ o ∈ q := by
  induction q with
  | nil => simp [queueOp]
  | cons p q ih =>
    unfold queueOp
    split
    · exact List.mem_cons
    · rw [List.mem_cons, ih, List.mem_cons]
      exact or_left_comm

/-- Operations put in a queue one after another leave there what was in it, and are there themselves. -/
theorem mem_foldl_queueOp {o : FlashOp} {l q : List FlashOp} : o ∈ l.foldl (fun q o => queueOp o q) q ↔ o ∈ l ∨ o ∈ q := by
  induction l generalizing q with
  | nil => simp
  | cons n l ih =>
    rw [List.foldl_cons, ih, mem_queueOp, List.mem_cons]
    exact or_left_comm.trans or_assoc.symm

/-- The first page of a slot's system part is programmed in the first system bank. -/
theorem systemOps_of_pages (slot : Nat) {im : List Byte} (f : Flash) (h : Config.systemPages im ≠ []) :
    ∃ o ∈ systemOps slot im f 256, o.who = .stage := by
  obtain ⟨d, l, hd⟩ := List.exists_cons_of_ne_nil h
  have hfirst : (Config.systemPages im)[4 * 0 + (256 - frameBanks)]? = some d := by rw [hd]; rfl
  exact ⟨_, List.mem_filterMap.mpr ⟨0, List.mem_range.mpr (by omega), by rw [hfirst]⟩, rfl⟩

theorem systemOps_of_no_pages (slot : Nat) {im : List Byte} (f : Flash) (b : Nat) (h : Config.systemPages im = []) :
    systemOps slot im f b = [] :=
  List.filterMap_eq_nil_iff.mpr fun k _ => by rw [h]; rfl

/-- The four system banks, in the order in which they are handed their pages. -/
theorem State.handSystem_eq (s : State) (x : Staging) : s.handSystem x =
    (((s.stageSystem x.slot (x.bytes.take 64 ++ x.plain) 256).stageSystem x.slot (x.bytes.take 64 ++ x.plain) 257).stageSystem x.slot
      (x.bytes.take 64 ++ x.plain) 258).stageSystem x.slot (x.bytes.take 64 ++ x.plain) 259 := by
  have hbanks : (List.range 4).map (· + frameBanks) = [256, 257, 258, 259] := by decide
  simp only [State.handSystem, State.each, hbanks, List.foldl_cons, List.foldl_nil]

/-- A bank is listed with an operation of the staging. -/
def State.BankStages (s : State) (b : Nat) : Prop := ∃ q, (b, q) ∈ s.nvm.queue ∧ ∃ o ∈ q, o.who = .stage

theorem State.BankStages.stageOps {s : State} {b : Nat} (h : s.BankStages b) : s.stageOps = true := by
  obtain ⟨q, hq, o, ho, hwho⟩ := h
  exact s.stageOps_iff.mpr ⟨_, hq, o, ho, hwho⟩

theorem State.bankStages_setBankQ (s : State) (b : Nat) {q : List FlashOp} {o : FlashOp} (ho : o ∈ q) (hwho : o.who = .stage) :
    (s.setBankQ b q).BankStages b :=
  ⟨q, SMap.mem_set_self _ _ (List.ne_nil_of_mem ho), o, ho, hwho⟩

theorem State.BankStages.setBankQ {s : State} {b c : Nat} (h : s.BankStages c) (hb : c ≠ b) (q : List FlashOp) :
    (s.setBankQ b q).BankStages c := by
  obtain ⟨r, hr, hstage⟩ := h
  exact ⟨r, SMap.mem_set_of_ne q hr hb, hstage⟩

/-- Where the system part has a page, its program is an operation left to do. -/
theorem State.handSystem_stageOps_of_pages (s : State) {x : Staging} (h : Config.systemPages (x.bytes.take 64 ++ x.plain) ≠ []) :
    (s.handSystem x).stageOps = true := by
  obtain ⟨o, ho, hwho⟩ := systemOps_of_pages x.slot s.flash h
  have hfirst : (s.stageSystem x.slot (x.bytes.take 64 ++ x.plain) 256).BankStages 256 :=
    s.bankStages_setBankQ 256 (mem_foldl_queueOp.mpr (.inl ho)) hwho
  have hkeep {t : State} (ht : t.BankStages 256) {b : Nat} (hb : 256 ≠ b) :
      (t.stageSystem x.slot (x.bytes.take 64 ++ x.plain) b).BankStages 256 := ht.setBankQ hb _
  rw [s.handSystem_eq]
  exact (hkeep (hkeep (hkeep hfirst (by decide)) (by decide)) (by decide)).stageOps

/-! In canonical form no key is listed twice, so that operations that are handed over never take the place of others. -/

theorem SMap.le_of_mem {α : Type} {m : SMap α} {lo : Nat} {p : Nat × α} (h : SMap.rising lo m = true) (hp : p ∈ m) : lo ≤ p.1 := by
  induction m generalizing lo with
  | nil => cases hp
  | cons q m ih =>
    obtain ⟨hq, hm⟩ := SMap.rising_cons.mp h
    rcases List.mem_cons.mp hp with rfl | hp
    · exact hq
    · exact hq.trans ((Nat.le_succ _).trans (ih hm hp))

/-- A key listed in a rising map reads as its entry. -/
theorem SMap.get_of_mem {α : Type} (d : Nat → α) {m : SMap α} {lo : Nat} {p : Nat × α} (h : SMap.rising lo m = true) (hp : p ∈ m) :
    SMap.get d m p.1 = p.2 := by
  induction m generalizing lo with
  | nil => cases hp
  | cons q m ih =>
    obtain ⟨-, hm⟩ := SMap.rising_cons.mp h
    rcases List.mem_cons.mp hp with rfl | hp
    · exact if_pos rfl
    · have hne : q.1 ≠ p.1 := fun he => by
        have hle := SMap.le_of_mem hm hp
        omega
      exact (if_neg hne).trans (ih hm hp)

/-- The queues are in canonical form, and an operation of the staging is left. -/
def State.QueueStages (s : State) : Prop := SMap.wf queueReset s.nvm.queue = true ∧ s.stageOps = true

theorem State.QueueStages.setBankQ {s : State} (h : s.QueueStages) {b : Nat} {q : List FlashOp} (hq : ∀ o ∈ s.bankQ b, o ∈ q) :
    (s.setBankQ b q).QueueStages := by
  obtain ⟨hwf, hops⟩ := h
  refine ⟨SMap.wf_set _ hwf b q, ?_⟩
  obtain ⟨p, hp, o, ho, hwho⟩ := s.stageOps_iff.mp hops
  by_cases hb : p.1 = b
  · have hrising : SMap.rising 0 s.nvm.queue = true := (Bool.and_eq_true_iff.mp hwf).1
    have hbank : s.bankQ b = p.2 := hb ▸ SMap.get_of_mem queueReset hrising hp
    exact (s.bankStages_setBankQ b (hq o (hbank ▸ ho)) hwho).stageOps
  · exact (State.stageOps_iff _).mpr ⟨p, SMap.mem_set_of_ne q hp hb, o, ho, hwho⟩

theorem State.QueueStages.stageFrame {s : State} (h : s.QueueStages) (slot : Nat) (fr : Nat × List Byte) :
    (s.stageFrame slot fr).QueueStages := by
  have henqueue (b : Nat) (o : FlashOp) : (s.enqueue b o).QueueStages := h.setBankQ fun _ ho => mem_queueOp.mpr (.inr ho)
  unfold State.stageFrame
  simp only
  split <;> exact henqueue _ _

theorem State.QueueStages.stageSystem {s : State} (h : s.QueueStages) (slot : Nat) (im : List Byte) (b : Nat) :
    (s.stageSystem slot im b).QueueStages := h.setBankQ fun _ ho => mem_foldl_queueOp.mpr (.inr ho)

/-- In canonical form the operations left to do stay in the queues while frames and the system part are handed over. -/
theorem State.QueueStages.handSystem {s : State} (h : s.QueueStages) (x : Staging) :
    ((s.handFrames x).handSystem x).QueueStages :=
  List.foldlRecOn _ _ (List.foldlRecOn _ _ h fun _ hs fr _ => hs.stageFrame x.slot fr) fun _ hs b _ => hs.stageSystem x.slot _ b

/-- A good block of a body: with the queues in canonical form, as every command leaves them, an image that is whole keeps waiting for the
operations that were left. -/
theorem exec_stageBlock_reads_of_canonical {s : State} {b : HostBlock} (dirs : List (List Byte)) (octal : Bool) {x : Staging}
    (hwf : b.wellFormed = true) (herr : b.err = none) (hx : s.cfg.stage = some x) (hsrc : x.src ≠ .jtag)
    (harr : x.arrived = false) (hhost : x.fromFlash = false → crc32c b.data = b.check ∧ s.requests = true)
    (hflash : x.fromFlash = true → x.bytes ≠ [] ∧ x.dirLen.isSome = true) (hbegun : x.begun = true)
    (hbad : (x.joined b.data).body.bad = none) (hqueue : SMap.wf queueReset s.nvm.queue = true)
    (hops : (x.joined b.data).bytes.length < 84 + (readHeader (x.joined b.data).bytes).len ∨ s.stageOps = true) :
    ∃ t, exec (.stageBlock b dirs octal) s = .next t ∧ s.BodyRead (x.joined b.data) t :=
  exec_stageBlock_reads dirs octal hwf herr hx hsrc harr hhost hflash hbegun hbad
    (hops.imp_right fun h => (State.QueueStages.handSystem ⟨hqueue, h⟩ _).2)

/-! What ImagesAreStaged turns on. Its clause about the block that makes an image whole speaks of every state, also of one whose flash
queues list a bank twice, as no canonical map does. There the operations of the staging in the second entry go when the system part is
handed over, unless that part has a page; which pages it has, the spec leaves open (log entry 38). So the statement follows where every
system part has a page, and fails where one of a badly sealed image has none. -/

/-- Where every system part has a page, an image that is whole always has operations left to wait for; all else holds in any case. -/
theorem imagesAreStaged_of_systemPages (hpages : ∀ im, Config.systemPages im ≠ []) : Obligations.ImagesAreStaged := by
  unfold Obligations.ImagesAreStaged
  intro s d slot source blocks b dirs octal x i f g
  refine ⟨fun hstart hslot hsource hblocks => ⟨?_, fun hcpl => ⟨fun hx => ?_, fun hnone h => ?_⟩⟩, ?_, ?_, ?_, ?_⟩
  · exact fun hnone hactive hload hen => exec_imageStage_opens hstart hslot hsource hblocks hnone hactive hload hen
  · exact exec_imageStage_ends hstart hslot hsource hblocks
      (fun i => imageStage_busy (s.begun (descId d 0x20)) i (show (s.begun _).cfg.stage = some x from hx)) hcpl
  · exact exec_imageStage_ends hstart hslot hsource hblocks
      (fun i => imageStage_refused (s.begun (descId d 0x20)) i (show (s.begun _).cfg.stage = none from hnone)
        (State.stageRefused_of_active_or_locked _ h)) hcpl
  · intro hwf herr hx hsrc harr hhost hflash
    refine ⟨fun hbegun hbad hlen => ?_, fun hbegun hhead hfree hbad hlen hslots => ?_⟩
    · obtain ⟨t, ht, z, hz, hbytes, hsrc, hslot, hhandled, -, harrived, heq⟩ :=
        exec_stageBlock_reads dirs octal hwf herr hx hsrc harr hhost hflash hbegun hbad
          (.inr (State.handSystem_stageOps_of_pages _ (hpages _)))
      exact ⟨t, z, ht, hz, hbytes, hsrc, hslot, hhandled, harrived, heq⟩
    · exact exec_stageBlock_begins dirs octal hwf herr hx hsrc harr hhost hflash hbegun hhead hfree hbad hlen hslots
  · intro hwf herr hx hsrc harr hreq hcrc hnext hcpl
    exact exec_stageBlock_fails dirs octal hwf herr hx hsrc harr hreq hcrc hnext hcpl
  · intro hx hready hops hslots hnext
    obtain ⟨hflash, hstage, hreason⟩ := stageDone_keeps hx hready hops hnext
    have hslot (k : Nat) := (congrArg (·.slot k) hflash).trans (s.stageKept_slot x hslots k)
    refine ⟨_, exec_stageDone, ?_, ?_, fun k hk => (hslot k).trans (if_neg hk), hstage, hreason, fun hsrc hcpl => ?_, fun hsrc => ?_,
      fun hsrc hstale => ?_⟩
    · exact congrArg (·.valid) ((hslot x.slot).trans (if_pos rfl))
    · exact congrArg (·.id) ((hslot x.slot).trans (if_pos rfl))
    · rw [stageDone_host hx hready hops hnext hsrc]
      refine ⟨?_, ?_⟩
      · rw [State.finish_cplOf _ _ _ (State.cplOn_congr (s.stageKept_regs x) (s.stageKept_rings x) i hcpl), s.stageKept_cpls]
      · rw [State.finish_frame, s.stageKept_frame x]
    · rw [stageDone_jtag hx hready hops hnext hsrc]
    · rw [stageDone_boot hx hready hops hnext hsrc, hstale]
      exact State.beginLoad_load _ _ _ _
  · intro hx hflash harr hnext
    refine ⟨_, exec_extFlashTimeout, ?_, fun hsrc hcpl => ?_, fun hsrc hstale => extFlashTimeout_boots hx harr hsrc hstale⟩
    · rw [extFlashTimeout_fails hx hflash harr]
      exact State.stageFail_slots none x.unreadable_no_frame
    · rw [extFlashTimeout_host hx harr hnext hsrc, State.finish_cfg, s.stageDropped_cfg]
      refine ⟨rfl, rfl, ?_⟩
      rw [State.finish_cplOf _ _ _ (State.cplOn_congr (s.stageDropped_regs _) (s.stageDropped_rings _) i hcpl), s.stageDropped_cpls]

/-- An image of which `bytes` have arrived, with all its `frames` handed to the flash. -/
def imageSoFar (bytes key : List Byte) (frames : Nat) : Staging :=
  { src := .boot false, slot := 0, bytes := bytes, key := key, handled := frames, dirLen := some 0, stale := true, begun := true }

/-- Queues that list the first system bank twice, the second time with an erase of the staging. -/
def twiceListed : SMap (List FlashOp) :=
  [(256, []), (256, [{ erase := true, sector := 0, page := 0, data := [], who := .stage }])]

/-- A state that stages an image over queues that list a bank twice. -/
def stagingTwiceListed (x : Staging) : State :=
  { State.reset with nvm := { State.reset.nvm with queue := twiceListed }, cfg := { State.reset.cfg with stage := some x } }

theorem Staging.endFault_no_frame {x : Staging} {r : Nat} (h : x.endFault = some r) : ¬(r = 5 ∨ r = 0x0A) := by
  unfold Staging.endFault at h
  simp only at h
  split at h
  · cases h; decide
  · split at h
    · cases h; decide
    · cases h

theorem stageSystem_of_no_pages (s : State) (slot : Nat) {im : List Byte} (b : Nat) (h : Config.systemPages im = []) :
    s.stageSystem slot im b = s.setBankQ b (s.bankQ b) := by
  rw [State.stageSystem, systemOps_of_no_pages slot s.flash b h, List.foldl_nil]

/-- Without a page in the system part, the bank listed twice loses both entries. -/
theorem handSystem_stageOps_of_no_pages {s : State} {x : Staging} (hq : s.nvm.queue = twiceListed)
    (h : Config.systemPages (x.bytes.take 64 ++ x.plain) = []) : (s.handSystem x).stageOps = false := by
  have hbank (t : State) (b : Nat) (m : SMap (List FlashOp)) (hm : t.nvm.queue = m) :
      (t.stageSystem x.slot (x.bytes.take 64 ++ x.plain) b).nvm.queue = SMap.set queueReset m b (SMap.get queueReset m b) := by
    rw [stageSystem_of_no_pages t x.slot b h, ← hm]
    rfl
  have hfirst := hbank s 256 _ hq
  have hlast := hbank _ 259 _ (hbank _ 258 _ (hbank _ 257 _ hfirst))
  rw [s.handSystem_eq, State.stageOps, hlast]
  decide

/-- An image that is whole, with no operation left, whose tag or check word is wrong ends its staging. -/
theorem State.stageJudge_fails {s : State} {x : Staging} {r : Nat} (hx : s.cfg.stage = some x) (harr : x.arrived = true)
    (hready : x.ready = false) (hops : s.stageOps = false) (hr : x.endFault = some r) : s.stageJudge = s.stageFail x r none none := by
  unfold State.stageJudge
  simp [hx, harr, hready, hops, hr]

/-- A boot's staging that fails after its boot sequence has been given up leaves no staging. -/
theorem State.stageFail_stale_stage {s : State} {x : Staging} {r : Nat} {g : Bool} (hsrc : x.src = .boot g) (hstale : x.stale = true)
    (hr : ¬(r = 5 ∨ r = 0x0A)) (hnext : s.cfg.stageNext = none) : (s.stageFail x r none none).cfg.stage = none := by
  have hcfg := s.stageDropped_cfg r
  rw [State.stageFail_eq none hr, hsrc]
  simp only [hstale, if_true]
  rw [State.stageEnded_idle (show (s.stageDropped r).cfg.stageNext = none by rw [hcfg]; exact hnext), hcfg]

/-- Where the system part has no page, the block that makes an image whole over queues that list a bank twice ends the staging, if the
image's tag or check word is wrong. -/
theorem stageBlock_ends_of_no_pages {bytes key : List Byte} {b : HostBlock} {x y : Staging} {r : Nat}
    (hx : x = imageSoFar bytes key y.body.frames.length) (hy : y = x.joined b.data) (herr : b.err = none) (hne : bytes ≠ [])
    (hbad : y.body.bad = none) (hlen : 84 + (readHeader y.bytes).len ≤ y.bytes.length) (hr : y.endFault = some r)
    (hnil : Config.systemPages (y.bytes.take 64 ++ y.plain) = []) :
    (stageBlock b [] false (stagingTwiceListed x)).cfg.stage = none := by
  have hhandled : y.handled = y.body.frames.length := by
    have : (x.joined b.data).handled = y.body.frames.length := by rw [hx]; rfl
    rwa [← hy] at this
  have hhanded : (stagingTwiceListed x).handFrames y = stagingTwiceListed x := by
    simp [State.handFrames, Staging.news, hhandled]
  have hops := handSystem_stageOps_of_no_pages (s := stagingTwiceListed x) (x := y) rfl hnil
  have hjoins : stageBlock b [] false (stagingTwiceListed x) = (stagingTwiceListed x).stageBody y := by
    rw [stageBlock_joins (stagingTwiceListed x) [] false herr (x := x) rfl (by simp [hx, imageSoFar]) (by rw [hx]; rfl)
      (fun hhost => by rw [hx] at hhost; cases hhost) (fun _ => by rw [hx]; exact ⟨hne, rfl⟩),
      State.stageData_begun _ _ (by rw [hx]; rfl), ← hy]
  have hsrc : y.src = .boot false := by rw [hy, hx]; rfl
  have hstale : y.stale = true := by rw [hy, hx]; rfl
  have hready : y.ready = false := by rw [hy, hx]; rfl
  rw [hjoins, State.stageBody_whole _ hbad hlen, hhanded,
    State.stageJudge_fails (x := { y.counted with arrived := true }) rfl rfl hready ((State.setStage_stageOps _ _).trans hops) hr]
  refine State.stageFail_stale_stage (g := false) hsrc hstale (Staging.endFault_no_frame hr) ?_
  rw [State.eq_of_forgetNvm (State.forgetNvm_handSystem (stagingTwiceListed x) (x := y))]
  rfl

/-- ImagesAreStaged binds the free function of log entry 38: an image whose body keeps every rule, with a tag or check word that is
wrong, would have a page in the slot's system part. -/
theorem systemPages_ne_nil_of_imagesAreStaged (hO : Obligations.ImagesAreStaged) {bytes key : List Byte} {b : HostBlock} {x y : Staging}
    (hx : x = imageSoFar bytes key y.body.frames.length) (hy : y = x.joined b.data) (hwf : b.wellFormed = true) (herr : b.err = none)
    (hne : bytes ≠ []) (hbad : y.body.bad = none) (hlen : 84 + (readHeader y.bytes).len ≤ y.bytes.length) (hend : y.endFault ≠ none) :
    Config.systemPages (y.bytes.take 64 ++ y.plain) ≠ [] := by
  intro hnil
  obtain ⟨r, hr⟩ := Option.ne_none_iff_exists'.mp hend
  have hnone := stageBlock_ends_of_no_pages hx hy herr hne hbad hlen hr hnil
  obtain ⟨-, hblock, -⟩ := hO (stagingTwiceListed x) ⟨0, 0, 0, false⟩ 0 0 0 b [] false x ⟨0, 0, 0, false, 0, 0⟩ false false
  obtain ⟨hreads, -⟩ := hblock hwf herr rfl (by simp [hx, imageSoFar]) (by rw [hx]; rfl) (fun hhost => by rw [hx] at hhost; cases hhost)
    (fun _ => by rw [hx]; exact ⟨hne, rfl⟩)
  have hbad' : (x.joined b.data).body.bad = none := hy ▸ hbad
  obtain ⟨t, z, ht, hz, -⟩ := hreads (by rw [hx]; rfl) hbad' (.inr rfl)
  rw [exec_stageBlock _ _ _ hwf] at ht
  cases ht
  exact absurd (hnone.symm.trans hz) (by simp)

end Sys2Proof.Machine
end

section
/-! SUPPORT. What a sync tick and the time messages turn on (13 R370, R372 to R374, R379, R381, R382): messages on links, the end of the
timed actions, the records of an event in a buffer that may be full, and the counter's earlier ticks. -/

namespace Sys2Proof.Machine

/-! Reading back an entry just written. -/

section
variable {α : Type} (d : Nat → α)

theorem SMap.get_insert_self (m : SMap α) (k : Nat) (v : α) : SMap.get d (SMap.insert m k v) k = v := by
  induction m with
  | nil => simp [SMap.insert, SMap.get]
  | cons p m ih =>
    simp only [SMap.insert]
    split
    · next h => rw [SMap.get, if_neg (Nat.ne_of_lt h), ih]
    · split <;> simp [SMap.get]

/-- A write is read back at its own key, also in a list of pairs that is not in canonical form. -/
theorem SMap.get_set_self [DecidableEq α] (m : SMap α) (k : Nat) (v : α) : SMap.get d (SMap.set d m k v) k = v := by
  unfold SMap.set
  split
  · next h => rw [SMap.get_erase, if_pos rfl, h]
  · exact SMap.get_insert_self d m k v

end

/-! Messages on links. -/

/-- The state without its links and outputs: what no message sent changes. -/
def State.forgetSent (s : State) : State := { s with links := [], out := [] }

theorem State.eq_of_forgetSent {s t : State} (h : t.forgetSent = s.forgetSent) : t = { s with links := t.links, out := t.out } :=
  congrArg (fun u : State => { u with links := t.links, out := t.out }) h

@[simp] theorem State.forgetSent_setLink (s : State) (n : Nat) (x : Link) : (s.setLink n x).forgetSent = s.forgetSent := rfl

@[simp] theorem State.forgetSent_put (s : State) (o : Out) : (s.put o).forgetSent = s.forgetSent := rfl

@[simp] theorem State.forgetSent_sendOn (s : State) (l ty site arg target : Nat) :
    (s.sendOn l ty site arg target).forgetSent = s.forgetSent := by
  simp [State.sendOn, State.sendFrom, State.sayMessage, apply_ite State.forgetSent]

theorem State.forgetSent_sendTime (s : State) (l : Nat) : (s.sendTime l).forgetSent = s.forgetSent := by
  simp [State.sendTime]

/-! Ending the starts and the timed actions that wait. -/

/-- The state without all that ending a start, or another timed action, can change; datum time, registers, flash and site membership
remain. -/
def State.forgetWork (s : State) : State :=
  { s with hif := {}, pins := {}, pwr := {}, cfg := {}, fab := {}, sites := [], links := [], bus := [], snp := {}, eng := [], vq := [],
           fm := [], par := [], out := [] }

theorem State.tim_of_forgetWork {s t : State} (h : t.forgetWork = s.forgetWork) : t.tim = s.tim := congrArg (·.tim) h

theorem State.regs_of_forgetWork {s t : State} (h : t.forgetWork = s.forgetWork) : t.regs = s.regs := congrArg (·.regs) h

theorem State.forgetWork_of_forgetSent {s t : State} (h : t.forgetSent = s.forgetSent) : t.forgetWork = s.forgetWork :=
  (congrArg State.forgetWork h :)

section
variable (s : State)

@[simp] theorem State.forgetWork_setE (n : Nat) (x : Engine) : (s.setE n x).forgetWork = s.forgetWork := rfl
@[simp] theorem State.forgetWork_modE (n : Nat) (g : Engine → Engine) : (s.modE n g).forgetWork = s.forgetWork := rfl
@[simp] theorem State.forgetWork_modV (n : Nat) (g : Vq → Vq) : (s.modV n g).forgetWork = s.forgetWork := rfl
@[simp] theorem State.forgetWork_setF (n : Nat) (x : Fm) : (s.setF n x).forgetWork = s.forgetWork := rfl
@[simp] theorem State.forgetWork_modF (n : Nat) (g : Fm → Fm) : (s.modF n g).forgetWork = s.forgetWork := rfl
@[simp] theorem State.forgetWork_setP (n : Nat) (x : Par) : (s.setP n x).forgetWork = s.forgetWork := rfl
@[simp] theorem State.forgetWork_modP (n : Nat) (g : Par → Par) : (s.modP n g).forgetWork = s.forgetWork := rfl
@[simp] theorem State.forgetWork_setRun (n : Nat) (r : Option Run) : (s.setRun n r).forgetWork = s.forgetWork := rfl
@[simp] theorem State.forgetWork_dropAdmit (n : Nat) : (s.dropAdmit n).forgetWork = s.forgetWork := rfl
@[simp] theorem State.forgetWork_failOutAt (n : Nat) (r : Run) (e : Nat) (k : Int) : (s.failOutAt n r e k).forgetWork = s.forgetWork := rfl
@[simp] theorem State.forgetWork_stamp (n kind c b : Nat) : (s.stamp n kind c b).forgetWork = s.forgetWork :=
  (congrArg State.forgetWork (s.stamp_frame n kind c b)).trans rfl
@[simp] theorem State.forgetWork_raiseAt (c : Nat) (is : List Item) (k : Nat) : (s.raiseAt c is k).forgetWork = s.forgetWork :=
  (congrArg State.forgetWork (s.raiseAt_frame c is k)).trans rfl
@[simp] theorem State.forgetWork_finish (i : DescId) (d : Done) : (s.finish i d).forgetWork = s.forgetWork :=
  (congrArg State.forgetWork (s.finish_frame i d)).trans rfl

@[simp] theorem State.forgetWork_sendRoute (site : Nat) (but : Option Nat) (ty arg target : Nat) :
    (s.sendRoute site but ty arg target).forgetWork = s.forgetWork := by
  unfold State.sendRoute
  split
  · rfl
  · exact State.forgetWork_of_forgetSent
      (State.each_keeps State.forgetSent _ (fun s l => s.forgetSent_sendOn l ty site arg target) _ _)

/-! Strobes still on the fail paths. -/

@[simp] theorem State.forgetWork_capture (e : Nat) (h l : Bool) (time : Nat) : (s.capture e h l time).forgetWork = s.forgetWork := by
  simp [State.capture, apply_ite State.forgetWork]

@[simp] theorem State.forgetWork_enterRec (p : Nat) (r : Rec) (time : Nat) : (s.enterRec p r time).forgetWork = s.forgetWork := by
  simp [State.enterRec, apply_ite State.forgetWork]

@[simp] theorem State.forgetWork_mapUpdate (p addr lane : Nat) (rc : Rec) (time : Nat) :
    (s.mapUpdate p addr lane rc time).forgetWork = s.forgetWork := by
  simp [State.mapUpdate, apply_ite State.forgetWork]

@[simp] theorem State.forgetWork_countFail (site : Nat) (r : Run) (e : Nat) (m : Sample) (tr : Bool) :
    (s.countFail site r e m tr).forgetWork = s.forgetWork := by
  cases hmap : m.slot.map with
  | none => simp [State.countFail, hmap, apply_ite State.forgetWork]
  | some a => simp [State.countFail, hmap, apply_ite State.forgetWork]

@[simp] theorem State.forgetWork_countSample (site : Nat) (r : Run) (e : Nat) (m : Sample) :
    (s.countSample site r e m).forgetWork = s.forgetWork := by
  simp [State.countSample, apply_ite State.forgetWork]

@[simp] theorem State.forgetWork_moveSamples (e : Nat) (r : Run) (now : Nat) : (s.moveSamples e r now).forgetWork = s.forgetWork := by
  simp [State.moveSamples, apply_ite State.forgetWork]

@[simp] theorem State.forgetWork_settleSite (n : Nat) : (s.settleSite n).forgetWork = s.forgetWork := by
  unfold State.settleSite State.settle
  refine (State.each_keeps State.forgetWork _ (fun s e => ?_) _ _).trans (foldl_keeps State.forgetWork _ (fun s d => ?_) _ _)
  · split <;> simp
  · split <;> simp

/-! The reset of a site. -/

@[simp] theorem State.forgetWork_releaseMq (p : Nat) : (s.releaseMq p).forgetWork = s.forgetWork := by
  simp [State.releaseMq, apply_ite State.forgetWork]

@[simp] theorem State.forgetWork_emptyMq (p : Nat) : (s.emptyMq p).forgetWork = s.forgetWork := by
  unfold State.emptyMq
  refine (State.each_keeps State.forgetWork _ (fun s e => ?_) _ _).trans (s.forgetWork_modP _ _)
  simp [apply_ite State.forgetWork]

@[simp] theorem State.forgetWork_setSring (q : StreamId) (r : VRing) : (s.setSring q r).forgetWork = s.forgetWork := by
  cases q <;> rfl

@[simp] theorem State.forgetWork_restartStream (e : Nat) : (s.restartStream e).forgetWork = s.forgetWork := by
  simp [State.restartStream, bindStream, State.streamError, State.raise, apply_ite State.forgetWork]

@[simp] theorem State.forgetWork_resetSite (n : Nat) : (s.resetSite n).forgetWork = s.forgetWork := by
  unfold State.resetSite State.resetQueues
  refine (State.each_keeps State.forgetWork _ (fun s p => ?_) _ _).trans
    ((State.each_keeps State.forgetWork _ (fun s e => ?_) _ _).trans
      (State.each_keeps State.forgetWork _ (fun s e => s.forgetWork_modE e _) _ _))
  · simp [apply_ite State.forgetWork]
  · simp

/-! The end of a start. -/

@[simp] theorem State.forgetWork_siteQuiet (n : Nat) (aborts resets : List DescId) :
    (s.siteQuiet n aborts resets).forgetWork = s.forgetWork := by
  have hends (l : List (DescId × List Nat)) (u : State) : (l.foldl (fun s c => s.finish c.1 {}) u).forgetWork = u.forgetWork :=
    foldl_keeps State.forgetWork _ (fun u c => by simp) l u
  have haborts (l : List DescId) (u : State) : (l.foldl (fun s i => s.finish i {}) u).forgetWork = u.forgetWork :=
    foldl_keeps State.forgetWork _ (fun u i => by simp) l u
  have hresets (l : List DescId) (u : State) : (l.foldl (fun s i => (s.resetSite n).finish i {}) u).forgetWork = u.forgetWork :=
    foldl_keeps State.forgetWork _ (fun u i => by simp) l u
  have hclear (u : State) (l : List (DescId × List Nat)) :
      State.forgetWork { u with cfg := { u.cfg with clearing := l } } = u.forgetWork := rfl
  unfold State.siteQuiet
  refine (hends _ _).trans ((hclear _ _).trans ((hresets resets _).trans ?_))
  split
  · exact haborts aborts s
  · exact (State.forgetWork_settleSite _ n).trans (haborts aborts s)

@[simp] theorem State.forgetWork_endStart (n : Nat) (d : Done) : (s.endStart n d).forgetWork = s.forgetWork := by
  unfold State.endStart
  split
  · rfl
  · rw [State.forgetWork_siteQuiet, State.each_keeps State.forgetWork _ (fun s p => s.forgetWork_releaseMq p)]
    split <;> simp

/-- A forced step's end of a timed benchmark. -/
def State.abortBench : State :=
  match s.snp.pend with
  | some b =>
    if b.timed then
      let t := { s with snp := { s.snp with pend := none } }
      (match b.desc with | some i => t.finish i { status := 6 } | none => t)
    else s
  | none => s

/-- A forced step's end of a timed readback. -/
def State.abortReadback : State :=
  match s.fab.rbPend with
  | some b => if b.timed then { s with fab := { s.fab with rbPend := none } }.finish b.desc { status := 6 } else s
  | none => s

theorem State.abortTimed_eq :
    s.abortTimed = (s.each s.timedStarts fun s n => s.leaderRefuse n { status := 6 }).abortBench.abortReadback.timDisarm := rfl

@[simp] theorem State.forgetWork_abortBench : s.abortBench.forgetWork = s.forgetWork := by
  unfold State.abortBench
  split
  · split
    · simp only
      split
      · exact State.forgetWork_finish _ _ _
      · rfl
    · rfl
  · rfl

@[simp] theorem State.forgetWork_abortReadback : s.abortReadback.forgetWork = s.forgetWork := by
  unfold State.abortReadback
  split
  · split
    · exact State.forgetWork_finish _ _ _
    · rfl
  · rfl

/-- A forced step ends the timed actions that wait; of datum time it only disarms the alarm. -/
theorem State.forgetWork_abortTimed : s.abortTimed.forgetWork = s.timDisarm.forgetWork := by
  have hdisarm {u v : State} (h : u.forgetWork = v.forgetWork) : u.timDisarm.forgetWork = v.timDisarm.forgetWork :=
    congrArg State.timDisarm h
  rw [s.abortTimed_eq]
  refine hdisarm ?_
  rw [State.forgetWork_abortReadback, State.forgetWork_abortBench]
  exact State.each_keeps State.forgetWork _ (fun s n => by simp [State.leaderRefuse]) _ _

@[simp] theorem State.abortTimed_tim : s.abortTimed.tim = { s.tim with armed := none } :=
  State.tim_of_forgetWork s.forgetWork_abortTimed

@[simp] theorem State.abortTimed_regs : s.abortTimed.regs = s.regs :=
  (State.regs_of_forgetWork s.forgetWork_abortTimed :)

/-- With no timed action pending there is nothing for a forced step to end. -/
theorem State.abortTimed_of_none_pending (h : s.timedPending = false) : s.abortTimed = s := by
  simp only [State.timedPending, Bool.or_eq_false_iff, Bool.not_eq_false', List.isEmpty_iff] at h
  obtain ⟨⟨⟨hstarts, hbench⟩, hreadback⟩, harmed⟩ := h
  have hbench : s.abortBench = s := by
    unfold State.abortBench
    split
    · next b hb => rw [if_neg (by simpa [hb] using hbench)]
    · rfl
  have hreadback : s.abortReadback = s := by
    unfold State.abortReadback
    split
    · next b hb => rw [if_neg (by simpa [hb] using hreadback)]
    · rfl
  have harmed : s.tim.armed = none := by simpa using harmed
  rw [s.abortTimed_eq, hstarts, State.each, List.foldl_nil, hbench, hreadback, State.timDisarm, ← harmed]

end

/-! The records of an event. -/

theorem evRecords_length (dev code time : Nat) (cont : Bool) (l : List (List Byte)) :
    (evRecords dev code time cont l).length = l.length := by
  induction l generalizing cont with
  | nil => rfl
  | cons b l ih => simp [evRecords, ih]

theorem leBytes_length (n v : Nat) : (leBytes n v).length = n := by
  induction n generalizing v with
  | zero => rfl
  | succ n ih => simp [leBytes, ih]

theorem packItems_two_times_length (a b : Nat) : (packItems [] [itTime a, itTime b]).length = 2 := by
  simp [packItems, itTime, leBytes_length]

theorem State.reportLost_evBuf (s : State) : s.hif.evBuf <+: s.reportLost.hif.evBuf := by
  unfold State.reportLost
  simp only
  split
  · exact List.prefix_append _ _
  · exact List.prefix_refl _

/-- An event's records are in the event buffer, or the buffer is left without room for them. -/
theorem State.raise_evBuf_contains (s : State) (code : Nat) (items : List Item)
    (hroom : (s.raise code items).hif.evBuf.length + (packItems [] items).length ≤ evBufSize) :
    ∀ r ∈ evRecords s.devNum code s.stampNow false (packItems [] items), r ∈ (s.raise code items).hif.evBuf := by
  intro r hr
  by_cases hfit : s.hif.evBuf.length + (packItems [] items).length ≤ evBufSize
  · rw [s.raise_evBuf code items hfit]
    exact List.mem_append_right _ hr
  · have hdropped : s.hif.evBuf <+: ((s.reportLost.dropRecs (packItems [] items).length s.stampNow).reportLost).hif.evBuf :=
      s.reportLost_evBuf.trans (State.reportLost_evBuf (s.reportLost.dropRecs _ _))
    simp only [State.raise, State.raiseAt, evRecords_length, if_neg hfit] at hroom ⊢
    split at hroom
    · next hfits =>
      rw [if_pos hfits]
      exact List.mem_append_right _ hr
    · have := hdropped.length_le
      omega

/-! The counter's ticks. -/

/-- A tick's value depends on what the counter holds alone. -/
theorem State.valueAt_congr {s t : State} (hhist : t.tim.hist = s.tim.hist) (hvalue : t.tim.value = s.tim.value)
    (htick : t.tim.tick = s.tim.tick) (hoff : t.tim.off = s.tim.off) (hrate : t.tim.rate = s.tim.rate) (n : Nat) :
    t.valueAt n = s.valueAt n := by
  simp only [State.valueAt, State.nominalTo, State.rateWord, State.tickNo, State.tickNoAt, hhist, hvalue, htick, hoff, hrate]

/-- What has been counted so far gives the values of its ticks, whatever the counter does from now on. -/
theorem State.valueAt_of_hist {s t : State} (hhist : t.tim.hist = s.keepTime.tim.hist) {n : Nat} (hn : n < s.tim.tick) :
    t.valueAt n = s.valueAt n := by
  simp only [State.valueAt, hhist, State.keepTime, List.find?_append]
  cases s.tim.hist.find? (fun h => decide (n < h.upto)) with
  | some h => rfl
  | none => simp [hn, State.nominalTo, State.rateWord, State.tickNo, State.tickNoAt]

/-! The rate that waits (13 R370). -/

/-- The state once the rate that waits, if any, is in force. -/
def State.rateTaken (s : State) : State :=
  { s with tim := { s.tim with
      rate := s.tim.pendRate.getD s.tim.rate
      pendRate := none
      hist := if s.tim.pendRate.isSome then s.keepTime.tim.hist else s.tim.hist } }

theorem syncTick_eq (s : State) : syncTick s = s.rateTaken.applyStep.each s.rateTaken.applyStep.timeLinks State.sendTime := by
  have hkept : (if s.tim.pendRate.isSome then s.keepTime else s) = { s with tim := { s.tim with
      hist := if s.tim.pendRate.isSome then s.keepTime.tim.hist else s.tim.hist } } := by
    split <;> rfl
  unfold syncTick
  rw [hkept]
  rfl

theorem State.rateTaken_valueAt (s : State) {n : Nat} (hn : n < s.tim.tick) : s.rateTaken.valueAt n = s.valueAt n := by
  cases hrate : s.tim.pendRate with
  | none => refine State.valueAt_congr (s := s) (t := s.rateTaken) ?_ rfl rfl rfl ?_ n <;> simp [State.rateTaken, hrate]
  | some r =>
    refine State.valueAt_of_hist ?_ hn
    simp [State.rateTaken, hrate]

/-! The set or adjust that waits (13 R370, R372 to R374). -/

section
variable (s : State)

/-- The state once no set or adjust waits. -/
def State.stepTaken : State := { s with tim := { s.tim with pendStep := none, pendForce := false } }

/-- The state in which a set or adjust is applied: a forced one has ended the timed actions. -/
def State.stepReady : State := if s.tim.pendForce then s.stepTaken.abortTimed else s.stepTaken

theorem State.stepReady_tim : s.stepReady.tim =
    { s.tim with pendStep := none, pendForce := false, armed := if s.tim.pendForce then none else s.tim.armed } := by
  unfold State.stepReady
  split
  · rw [State.abortTimed_tim]; rfl
  · rfl

theorem State.stepReady_regs : s.stepReady.regs = s.regs := by
  unfold State.stepReady
  split
  · rw [State.abortTimed_regs]; rfl
  · rfl

theorem State.stepReady_of_none_pending (h : s.timedPending = false) : s.stepReady = s.stepTaken := by
  unfold State.stepReady
  rw [State.abortTimed_of_none_pending s.stepTaken h, ite_self]

/-- The records of TIM_STEPPED for a counter that takes a value. -/
def State.steppedRecs (v : Nat) : List EvRec :=
  evRecords s.devNum 0x0601 (stamp80 v) false (packItems [] [itTime s.stampNow, itTime (stamp80 v)])

theorem State.steppedRecs_congr {s t : State} (htim : t.tim.value = s.tim.value) (hregs : t.regs = s.regs) (v : Nat) :
    t.steppedRecs v = s.steppedRecs v := by
  simp only [State.steppedRecs, State.devNum, State.regF, State.reg, State.stampNow, htim, hregs]

theorem State.stepTo_eq (v : Nat) : s.stepTo v =
    { s with tim := { s.tim with hist := s.keepTime.tim.hist, value := v }, hif := (s.stepTo v).hif } := by
  unfold State.stepTo
  simp only
  rw [State.raise, State.raiseAt_frame]
  rfl

theorem State.stepTo_tim (v : Nat) : (s.stepTo v).tim = { s.tim with hist := s.keepTime.tim.hist, value := v } := by
  rw [s.stepTo_eq v]

theorem State.stepTo_evBuf (v : Nat) (hroom : s.hif.evBuf.length + 2 ≤ 4096) :
    (s.stepTo v).hif.evBuf = s.hif.evBuf ++ s.steppedRecs v :=
  State.raise_evBuf _ 0x0601 _ (by rw [packItems_two_times_length]; exact hroom)

theorem State.stepTo_evBuf_contains (v : Nat) (hroom : (s.stepTo v).hif.evBuf.length + 2 ≤ 4096) :
    (s.steppedRecs v).all (fun r => (s.stepTo v).hif.evBuf.contains r) = true := by
  simp only [List.all_eq_true, List.contains_iff_mem]
  exact State.raise_evBuf_contains _ 0x0601 _ (by rw [packItems_two_times_length]; exact hroom)

/-- The counter has been set, where the step that was applied is a set. -/
def State.markStep (k : TimPend) : State := if k = .set then { s with tim := { s.tim with set := true } } else s

theorem State.markStep_eq (k : TimPend) : s.markStep k = { s with tim := { s.tim with set := s.tim.set || decide (k = .set) } } := by
  cases k <;> simp [State.markStep]

theorem State.stepValue_eq (k : TimPend) : s.stepValue k =
    if k = .set then ofVisible (s.reg 0x600020 + s.reg 0x600024 * 2 ^ 32 + s.reg 0x600028 * 2 ^ 64)
    else (((s.tim.value : Int) + signed 64 (s.reg 0x600010 + s.reg 0x600014 * 2 ^ 32) * 2 ^ 24) %
      (2 ^ 48 * (1000000000 * 2 ^ 40))).toNat := by
  cases k with
  | set => exact (if_pos rfl).symm
  | adjust => exact (if_neg (by decide)).symm

theorem State.stepValue_congr {s t : State} (htim : t.tim.value = s.tim.value) (hregs : t.regs = s.regs) (k : TimPend) :
    t.stepValue k = s.stepValue k := by
  simp only [State.stepValue_eq, State.reg, htim, hregs]

end

section
variable {s : State} {k : TimPend}

theorem State.applyStep_of_none (hk : s.tim.pendStep = none) : s.applyStep = s := by
  unfold State.applyStep
  rw [hk]

theorem State.applyStep_of_some (hk : s.tim.pendStep = some k) : s.applyStep =
    if s.stepTaken.timedPending && !s.tim.pendForce then s.stepTaken.raise 0x0602 []
    else (s.stepReady.stepTo (s.stepReady.stepValue k)).markStep k := by
  unfold State.applyStep
  rw [hk]
  rfl

theorem State.stepTaken_timedPending : s.stepTaken.timedPending = s.timedPending := rfl

theorem State.applyStep_refused (hk : s.tim.pendStep = some k) (hpending : s.timedPending = true) (hforce : s.tim.pendForce = false) :
    s.applyStep = s.stepTaken.raise 0x0602 [] := by
  rw [State.applyStep_of_some hk, if_pos (by simp [State.stepTaken_timedPending, hpending, hforce])]

theorem State.applyStep_applied (hk : s.tim.pendStep = some k) (hfree : s.timedPending = false ∨ s.tim.pendForce = true) :
    s.applyStep = (s.stepReady.stepTo (s.stepValue k)).markStep k := by
  have hvalue : s.stepReady.stepValue k = s.stepValue k := State.stepValue_congr (by rw [s.stepReady_tim]) s.stepReady_regs k
  have hgo : ¬ (s.stepTaken.timedPending && !s.tim.pendForce) = true := by
    rcases hfree with h | h <;> simp [State.stepTaken_timedPending, h]
  rw [State.applyStep_of_some hk, if_neg hgo, hvalue]

/-- What a set or adjust that is applied leaves of datum time. -/
theorem State.applyStep_applied_tim (hk : s.tim.pendStep = some k) (hfree : s.timedPending = false ∨ s.tim.pendForce = true) :
    s.applyStep.tim = { s.tim with
      pendStep := none, pendForce := false, armed := if s.tim.pendForce then none else s.tim.armed
      set := s.tim.set || decide (k = .set), value := s.stepValue k, hist := s.keepTime.tim.hist } := by
  rw [State.applyStep_applied hk hfree, State.markStep_eq, State.stepTo_tim]
  simp only [State.keepTime, s.stepReady_tim]

theorem State.applyStep_applied_hif (hk : s.tim.pendStep = some k) (hfree : s.timedPending = false ∨ s.tim.pendForce = true) :
    s.applyStep.hif = (s.stepReady.stepTo (s.stepValue k)).hif := by
  rw [State.applyStep_applied hk hfree, State.markStep_eq]

theorem State.stepReady_steppedRecs (v : Nat) : s.stepReady.steppedRecs v = s.steppedRecs v :=
  State.steppedRecs_congr (by rw [s.stepReady_tim]) s.stepReady_regs v

/-- Whatever waits, the ticks counted so far keep their values. -/
theorem State.applyStep_valueAt {n : Nat} (hn : n < s.tim.tick) : s.applyStep.valueAt n = s.valueAt n := by
  cases hk : s.tim.pendStep with
  | none => rw [State.applyStep_of_none hk]
  | some k =>
    by_cases hfree : s.timedPending = false ∨ s.tim.pendForce = true
    · exact State.valueAt_of_hist (by rw [State.applyStep_applied_tim hk hfree]) hn
    · rw [not_or, Bool.not_eq_false, Bool.not_eq_true] at hfree
      obtain ⟨hpending, hforce⟩ := hfree
      have htim : s.applyStep.tim = s.stepTaken.tim := by rw [State.applyStep_refused hk hpending hforce, State.raise_tim]
      exact State.valueAt_congr (by rw [htim]; rfl) (by rw [htim]; rfl) (by rw [htim]; rfl) (by rw [htim]; rfl) (by rw [htim]; rfl) n

end

/-! A sync tick (13 R372, R381). -/

section
variable {s : State}

theorem exec_syncTick_due (hstarted : s.tim.started = true) (hdue : s.syncDue = true) : exec .syncTick s = .next (syncTick s) :=
  congrArg Host.Outcome.next (if_pos (by rw [hstarted, hdue]; rfl))

theorem exec_syncTick_other (hstarted : s.tim.started = true) (hlocked : s.tim.locked = true) (hpwr : s.pwr.state ≠ .sleep)
    (htick : (s.tim.tick + s.tim.off) % 2 ^ 64 % 65536 ≠ 0) : exec .syncTick s = .next s := by
  have hcounts : s.pllCounts = true := by simp [State.pllCounts, hlocked, hstarted, hpwr]
  have hdue : s.syncDue = false := by
    rw [State.syncDue, if_pos hcounts]
    exact decide_eq_false htick
  exact congrArg Host.Outcome.next (if_neg (by simp [hdue]))

/-- Once what waits is applied, a sync tick only sends messages. -/
theorem syncTick_frame (s : State) :
    syncTick s = { s.rateTaken.applyStep with links := (syncTick s).links, out := (syncTick s).out } := by
  refine State.eq_of_forgetSent ?_
  rw [syncTick_eq]
  exact State.each_keeps State.forgetSent _ State.forgetSent_sendTime _ _

theorem syncTick_tim (s : State) : (syncTick s).tim = s.rateTaken.applyStep.tim := by rw [syncTick_frame s]

theorem syncTick_hif (s : State) : (syncTick s).hif = s.rateTaken.applyStep.hif := by rw [syncTick_frame s]

theorem syncTick_valueAt {n : Nat} (hn : n < s.tim.tick) : (syncTick s).valueAt n = s.valueAt n := by
  have htim := syncTick_tim s
  rw [← s.rateTaken_valueAt hn, ← State.applyStep_valueAt (s := s.rateTaken) hn]
  exact State.valueAt_congr (by rw [htim]) (by rw [htim]) (by rw [htim]) (by rw [htim]) (by rw [htim]) n

/-- With role off no link takes time messages. -/
theorem State.timeLinks_of_off (hrole : s.regF 0x600000 0 2 = 0) : s.timeLinks = [] := by
  simp [State.timeLinks, State.reference, State.follower, hrole]

/-- A sync tick at which no set or adjust waits. -/
theorem syncTick_without_step (hk : s.tim.pendStep = none) :
    (syncTick s).tim = { s.tim with rate := s.tim.pendRate.getD s.tim.rate, pendRate := none, hist := (syncTick s).tim.hist } ∧
    syncTick s = { s with tim := (syncTick s).tim, links := (syncTick s).links, out := (syncTick s).out } ∧
    (s.regF 0x600000 0 2 = 0 → (syncTick s).links = s.links ∧ (syncTick s).out = s.out) := by
  have happly : s.rateTaken.applyStep = s.rateTaken := State.applyStep_of_none hk
  have htim : (syncTick s).tim = s.rateTaken.tim := (syncTick_tim s).trans (congrArg State.tim happly)
  refine ⟨by rw [htim]; rfl, ?_, fun hrole => ?_⟩
  · rw [htim]
    exact (syncTick_frame s).trans (by rw [happly]; rfl)
  · have hlinks : s.rateTaken.timeLinks = [] := State.timeLinks_of_off hrole
    rw [syncTick_eq, happly, hlinks]
    exact ⟨rfl, rfl⟩

/-- A sync tick that applies a set or adjust. -/
theorem syncTick_applies {k : TimPend} (hk : s.tim.pendStep = some k) (hfree : s.timedPending = false ∨ s.tim.pendForce = true) :
    (syncTick s).tim = { s.tim with
      rate := s.tim.pendRate.getD s.tim.rate, pendRate := none, pendStep := none, pendForce := false
      armed := if s.tim.pendForce then none else s.tim.armed
      set := s.tim.set || decide (k = .set), hist := (syncTick s).tim.hist, value := s.stepValue k } := by
  have htim := (syncTick_tim s).trans (State.applyStep_applied_tim (s := s.rateTaken) hk hfree)
  rw [htim]
  rfl

theorem syncTick_applies_hif {k : TimPend} (hk : s.tim.pendStep = some k) (hfree : s.timedPending = false ∨ s.tim.pendForce = true) :
    (syncTick s).hif = (s.rateTaken.stepReady.stepTo (s.stepValue k)).hif :=
  (syncTick_hif s).trans (State.applyStep_applied_hif (s := s.rateTaken) hk hfree)

/-- TIM_STEPPED is held in the event buffer, where that has room. -/
theorem syncTick_applies_contains {k : TimPend} (hk : s.tim.pendStep = some k)
    (hfree : s.timedPending = false ∨ s.tim.pendForce = true) (hroom : (syncTick s).hif.evBuf.length + 2 ≤ 4096) :
    (s.steppedRecs (s.stepValue k)).all (fun r => (syncTick s).hif.evBuf.contains r) = true := by
  rw [syncTick_applies_hif hk hfree] at hroom ⊢
  have h := State.stepTo_evBuf_contains _ _ hroom
  rwa [State.stepReady_steppedRecs] at h

/-- With no timed action pending, a set or adjust changes only the counter, and reports it. -/
theorem syncTick_applies_alone {k : TimPend} (hk : s.tim.pendStep = some k) (hnone : s.timedPending = false)
    (hroom : s.hif.evBuf.length + 2 ≤ 4096) :
    (syncTick s).hif.evBuf = s.hif.evBuf ++ s.steppedRecs (s.stepValue k) ∧
    syncTick s = { s with
      tim := (syncTick s).tim, hif := (syncTick s).hif, links := (syncTick s).links, out := (syncTick s).out } := by
  have hready : s.rateTaken.stepReady = s.rateTaken.stepTaken := State.stepReady_of_none_pending _ hnone
  constructor
  · rw [syncTick_applies_hif hk (.inl hnone), hready]
    exact State.stepTo_evBuf _ _ hroom
  · rw [syncTick_tim, syncTick_hif]
    refine (syncTick_frame s).trans ?_
    rw [State.applyStep_applied (s := s.rateTaken) hk (.inl hnone), State.markStep_eq, State.stepTo_eq, hready]
    rfl

/-- A sync tick that refuses a set or adjust. -/
theorem syncTick_refuses {k : TimPend} (hk : s.tim.pendStep = some k) (hpending : s.timedPending = true)
    (hforce : s.tim.pendForce = false) (hroom : s.hif.evBuf.length + 2 ≤ 4096) :
    (syncTick s).tim.value = s.tim.value ∧ (syncTick s).tim.pendStep = none ∧
    (syncTick s).hif.evBuf = s.hif.evBuf ++ evRecords s.devNum 0x0602 s.stampNow false [[]] ∧
    syncTick s = { s with
      tim := (syncTick s).tim, hif := (syncTick s).hif, links := (syncTick s).links, out := (syncTick s).out } := by
  have happly : s.rateTaken.applyStep = s.rateTaken.stepTaken.raise 0x0602 [] := State.applyStep_refused hk hpending hforce
  have htim : (syncTick s).tim = s.rateTaken.stepTaken.tim := by rw [syncTick_tim, happly, State.raise_tim]
  refine ⟨by rw [htim]; rfl, by rw [htim]; rfl, ?_, ?_⟩
  · rw [syncTick_hif, happly]
    refine State.raise_evBuf s.rateTaken.stepTaken 0x0602 [] (Nat.le_trans ?_ hroom)
    exact Nat.add_le_add_left (Nat.le_succ 1) _
  · rw [syncTick_tim, syncTick_hif]
    refine (syncTick_frame s).trans ?_
    rw [happly, State.raise, State.raiseAt_frame]
    rfl

end

/-! The time messages at a follower (13 R381, R382). -/

section
variable {s : State} {h : MsgHead}

/-- The state in which a message that arrives takes its effect. -/
def State.received (s : State) (h : MsgHead) : State :=
  s.setLink h.link.toNat { s.link h.link.toNat with rxSeq := (h.seq.toNat + 1) % 256 }

theorem State.recvQuiet_up (hup : (s.link h.link.toNat).state = 5) (f : State → State) : s.recvQuiet h f = f (s.received h) := by
  unfold State.recvQuiet
  simp only
  exact if_neg (not_not.mpr hup)

theorem State.received_lat : ((s.received h).link h.link.toNat).lat = (s.link h.link.toNat).lat := by
  rw [State.received, State.link, State.setLink, SMap.get_set_self]

theorem State.received_fromReference (hrole : s.regF 0x600000 0 2 = 2) (hport : s.regF 0x600000 2 2 = h.link.toNat) :
    (s.received h).fromReference h = true := by
  have hregs (lo len : Nat) : (s.received h).regF 0x600000 lo len = s.regF 0x600000 lo len := rfl
  simp [State.fromReference, State.follower, hregs, hrole, hport]

/-- TIME_TICK gives the present tick the number it carries plus the latency of its link. -/
theorem timeTick_tickNo (l b rate : Nat) (s : State) : (timeTick l b rate s).tickNo = (b + (s.link l).lat) % 2 ^ 64 := by
  show (s.tim.tick + ((b + (s.link l).lat) % 2 ^ 64 + 2 ^ 64 - s.tim.tick % 2 ^ 64) % 2 ^ 64) % 2 ^ 64 = _
  omega

/-- The state in which TIME_VAL has moved the counter: a move of more than 1 µs is a forced step (13 R382). -/
def State.movedTo (s : State) (v : Nat) : State :=
  if 1000 * 2 ^ 40 < counterGap v s.tim.value then s.abortTimed.stepTo v else
    { s.keepTime with tim := { s.keepTime.tim with value := v } }

theorem State.movedTo_tim (s : State) (v : Nat) : (s.movedTo v).tim.value = v ∧ (s.movedTo v).tim.corrected = s.tim.corrected := by
  unfold State.movedTo
  split
  · simp [State.stepTo_tim]
  · exact ⟨rfl, rfl⟩

/-- The state in which TIME_VAL has been taken (13 R382). -/
def State.valTaken (s : State) : State :=
  { s with tim := { s.tim with tickSeen := false, followLock := !s.tim.corrected, set := s.tim.set || !s.tim.corrected } }

theorem State.valTaken_tim (s : State) : s.valTaken.tim.value = s.tim.value ∧ s.valTaken.tim.tickSeen = false ∧
    s.valTaken.tim.followLock = !s.tim.corrected := ⟨rfl, rfl, rfl⟩

theorem timeVal_eq (t : Nat) (s : State) : timeVal t s = (s.movedTo (s.followValue s.tim.tickB t)).valTaken := rfl

/-- TIME_VAL sets the value by the tick that TIME_TICK named, and locks the follower where that tick needed no correction. -/
theorem timeVal_follows (t : Nat) (s : State) :
    (timeVal t s).tim.value = s.followValue s.tim.tickB t ∧ (timeVal t s).tim.tickSeen = false ∧
      (timeVal t s).tim.followLock = !s.tim.corrected := by
  obtain ⟨hvalue, hcorrected⟩ := s.movedTo_tim (s.followValue s.tim.tickB t)
  have htaken := (s.movedTo (s.followValue s.tim.tickB t)).valTaken_tim
  rwa [← timeVal_eq, hvalue, hcorrected] at htaken

/-- A move of the counter of at most 1 µs changes nothing but the counter. -/
theorem timeVal_near {t : Nat} (hnear : counterGap (s.followValue s.tim.tickB t) s.tim.value ≤ 1000 * 2 ^ 40) :
    timeVal t s = { s with tim := (timeVal t s).tim } := by
  rw [timeVal_eq, State.movedTo, if_neg (Nat.not_lt.mpr hnear)]
  rfl

/-- At the tick that TIME_TICK named, the value is the one that TIME_VAL carries. -/
theorem State.followValue_now {b : Nat} (hb : s.tickNo = b) (t : Nat) : s.followValue b t = ofVisible t := by
  have hlt : ofVisible t < counterRange := Nat.mod_lt _ (by decide)
  have hn : (b + 2 ^ 64 - b) % 2 ^ 64 = 0 := by omega
  simp only [State.followValue, hb, hn, Nat.add_zero, Int.sub_self, Nat.cast_zero, Int.mul_zero, Int.add_zero, advance]
  rw [Int.emod_eq_of_lt (Int.natCast_nonneg _) (Int.ofNat_lt.mpr hlt), Int.toNat_natCast]

theorem counterGap_le_of_ns {v w : Nat} (hv : v = w ∨ v = w + 2 ^ 40) : counterGap v w ≤ 1000 * 2 ^ 40 := by
  refine (Nat.min_le_left _ _).trans ?_
  simp only [counterRange, unitsPerSec]
  omega

theorem exec_timeTick_of_reference (b : BitVec 64) (rate : Word) (hup : (s.link h.link.toNat).state = 5)
    (hrole : s.regF 0x600000 0 2 = 2) (hport : s.regF 0x600000 2 2 = h.link.toNat) :
    exec (.timeTick h b rate) s = .next (timeTick h.link.toNat b.toNat rate.toNat (s.received h)) :=
  congrArg Host.Outcome.next ((State.recvQuiet_up hup _).trans (if_pos (State.received_fromReference hrole hport)))

theorem exec_timeVal_due {low : BitVec 16} (tm : DatumTime) (hup : (s.link h.link.toNat).state = 5)
    (hrole : s.regF 0x600000 0 2 = 2) (hport : s.regF 0x600000 2 2 = h.link.toNat) (hseen : s.tim.tickSeen = true)
    (hlow : low.toNat = s.tim.tickB % 2 ^ 16) :
    exec (.timeVal h low tm) s = .next (timeVal tm.toNat (s.received h)) := by
  refine congrArg Host.Outcome.next ((State.recvQuiet_up hup _).trans (if_pos ?_))
  have hseen : (s.received h).tim.tickSeen = true := hseen
  have hlow : low.toNat = (s.received h).tim.tickB % 2 ^ 16 := hlow
  rw [State.received_fromReference hrole hport, hseen, decide_eq_true hlow]
  rfl

theorem exec_timeVal_other {low : BitVec 16} (tm : DatumTime) (hup : (s.link h.link.toNat).state = 5)
    (hother : s.tim.tickSeen = false ∨ low.toNat ≠ s.tim.tickB % 2 ^ 16) :
    exec (.timeVal h low tm) s = .next (s.received h) := by
  refine congrArg Host.Outcome.next ((State.recvQuiet_up hup _).trans (if_neg ?_))
  have hother : (s.received h).tim.tickSeen = false ∨ low.toNat ≠ (s.received h).tim.tickB % 2 ^ 16 := hother
  rw [Bool.and_eq_true, Bool.and_eq_true, decide_eq_true_eq]
  rintro ⟨⟨-, hseen⟩, hlow⟩
  rcases hother with h | h
  · exact Bool.false_ne_true (h.symm.trans hseen)
  · exact h hlow

/-- TIME_TICK from the reference renumbers the present tick and takes the rate word; the counter keeps its value. -/
theorem exec_timeTick_follows (b : BitVec 64) (rate : Word) (hup : (s.link h.link.toNat).state = 5)
    (hrole : s.regF 0x600000 0 2 = 2) (hport : s.regF 0x600000 2 2 = h.link.toNat) :
    ∃ t, exec (.timeTick h b rate) s = .next t ∧ t.tickNo = (b.toNat + (s.link h.link.toNat).lat) % 2 ^ 64 ∧
      t.tim.rate = rate.toNat ∧ t.tim.tickB = b.toNat ∧ t.tim.tickSeen = true ∧ t.tim.value = s.tim.value ∧
      t.tim.tick = s.tim.tick ∧ t = { s with tim := t.tim, links := t.links } := by
  refine ⟨_, exec_timeTick_of_reference b rate hup hrole hport, ?_, rfl, rfl, rfl, rfl, rfl, rfl⟩
  rw [timeTick_tickNo, State.received_lat]

/-- 13 R382: the value of a TIME_VAL that comes at the tick its TIME_TICK named, at most 1 ns ahead, is taken as it is. -/
theorem exec_timeVal_now {low : BitVec 16} {tm : DatumTime} (hup : (s.link h.link.toNat).state = 5)
    (hrole : s.regF 0x600000 0 2 = 2) (hport : s.regF 0x600000 2 2 = h.link.toNat) (hseen : s.tim.tickSeen = true)
    (hlow : low.toNat = s.tim.tickB % 2 ^ 16) (hnow : s.tickNo = s.tim.tickB)
    (hvalue : ofVisible tm.toNat = s.tim.value ∨ ofVisible tm.toNat = s.tim.value + 2 ^ 40) :
    ∃ t, exec (.timeVal h low tm) s = .next t ∧ t.tim.value = ofVisible tm.toNat ∧ t.tim.tickSeen = false ∧
      t.tim.followLock = !s.tim.corrected ∧ t = { s with tim := t.tim, links := t.links } := by
  have hfollow : (s.received h).followValue (s.received h).tim.tickB tm.toNat = ofVisible tm.toNat := State.followValue_now hnow _
  have hnear : counterGap ((s.received h).followValue (s.received h).tim.tickB tm.toNat) (s.received h).tim.value ≤ 1000 * 2 ^ 40 := by
    rw [hfollow]
    exact counterGap_le_of_ns hvalue
  obtain ⟨hset, hseen', hlock⟩ := timeVal_follows tm.toNat (s.received h)
  refine ⟨_, exec_timeVal_due tm hup hrole hport hseen hlow, hset.trans hfollow, hseen', hlock, ?_⟩
  rw [timeVal_near hnear]
  rfl

end

/-- Settles O26: a sync tick takes the rate, applies or refuses the step and sends its messages in turn; a follower's messages are the
branches that their link, role and tick number select. -/
theorem timeIsSetAndFollowed : Obligations.TimeIsSetAndFollowed := by
  refine ⟨fun s hstarted hroom => ⟨exec_syncTick_other hstarted, fun hdue => ?_⟩,
    fun s h b rate low tm hup hrole hport => ⟨?_, fun hseen hlow => ⟨?_, fun hnow hvalue _ => ?_⟩, fun hother => ?_⟩⟩
  · have hexec := exec_syncTick_due hstarted hdue
    refine ⟨⟨_, hexec, fun _ hn => syncTick_valueAt hn⟩, fun hk => ⟨_, hexec, syncTick_without_step hk⟩,
      fun k hk hfree => ⟨_, hexec, ?_, ?_⟩, fun k hk hpending hforce => ⟨_, hexec, syncTick_refuses hk hpending hforce hroom⟩⟩
    · rw [← s.stepValue_eq k]
      exact syncTick_applies hk hfree
    · have hvalue : (syncTick s).tim.value = s.stepValue k := congrArg Tim.value (syncTick_applies hk hfree)
      rw [hvalue]
      exact ⟨syncTick_applies_contains hk hfree, fun hnone => syncTick_applies_alone hk hnone hroom⟩
  · exact exec_timeTick_follows b rate hup hrole hport
  · obtain ⟨hvalue, hseen', hlock⟩ := timeVal_follows tm.toNat (s.received h)
    exact ⟨_, exec_timeVal_due tm hup hrole hport hseen hlow, hvalue, hseen', hlock⟩
  · exact exec_timeVal_now hup hrole hport hseen hlow hnow hvalue
  · exact ⟨_, exec_timeVal_other tm hup hother, rfl, rfl⟩

end Sys2Proof.Machine
end

section
/-! SUPPORT. What the writes of the PIN block do, one equation per branch: PIN_FUNCn of a free and of a locked pin, the takeover, the lock key
and the locks, and PIN_VIOLk (14 R387, R391 to R395). -/

namespace Sys2Proof.Machine

/-! The function of a pin. -/

/-- The func field of PIN_FUNCn (14 R403). -/
theorem fld_func (v : Nat) : fld v 0 4 = v % 16 := by simp [fld]

/-- 14 R387: the values that a pin does not take, by the fields func, drive and pull. -/
theorem funcInvalid_iff (n v : Nat) :
    funcInvalid n v = true ↔
      13 ≤ v % 16 ∨ (v % 16 = 2 ∧ n % 8 ≠ 0) ∨ (v % 16 = 9 ∧ 2 ≤ n) ∨ 5 ≤ v / 16 % 8 ∨ v / 256 % 4 = 3 := by
  simp only [funcInvalid, Bool.or_eq_true, Bool.and_eq_true, decide_eq_true_eq, or_assoc, fld_func]
  rfl

/-- PIN_FUNCn takes its value; on GP000 and GP001 the choice of TAMPER is held on VBAT (14 R397). -/
def State.storeFunc (s : State) (n v : Nat) : State :=
  let u := s.setReg (0x700000 + 4 * n) (v % 2 ^ 10)
  if n < 2 then { u with pins := { u.pins with tamper := u.pins.tamper.set noFlag n (decide (v % 16 = 9)) } } else u

@[simp] theorem State.storeFunc_pin (s : State) (n v k : Nat) : (s.storeFunc n v).pin k = s.pin k := by
  unfold State.storeFunc
  split <;> rfl

@[simp] theorem State.storeFunc_showsBoot (s : State) (n v k : Nat) : (s.storeFunc n v).showsBoot k = s.showsBoot k := by
  unfold State.storeFunc
  split <;> rfl

section
variable {s : State} {n v : Nat}

/-- A sound write to a free pin is stored, and a change of function that the pin is to show at once begins its hold. -/
theorem pinFuncWrite_free (hfree : s.pinBit 0x700310 n = false) (hvalid : funcInvalid n v = false) :
    pinFuncWrite n v s =
      if (s.pin n).hold.isSome || s.showsBoot n || decide (v % 16 = (s.pin n).func) then s.storeFunc n v
      else (s.storeFunc n v).setPin n { s.pin n with hold := some (s.padDrive n) } := by
  rw [← s.storeFunc_pin n v n, ← s.storeFunc_showsBoot n v n]
  simp only [pinFuncWrite, hfree, hvalid, fld_func]
  rfl

/-- 14 R391: the pad is held as it was while the pin switches. -/
theorem pinFuncWrite_switches (hfree : s.pinBit 0x700310 n = false) (hvalid : funcInvalid n v = false) (hboot : s.showsBoot n = false)
    (hhold : (s.pin n).hold = none) (hfunc : v % 16 ≠ (s.pin n).func) :
    pinFuncWrite n v s = (s.storeFunc n v).setPin n { s.pin n with hold := some (s.padDrive n) } := by
  rw [pinFuncWrite_free hfree hvalid, if_neg (by simp [hboot, hhold, hfunc])]

/-- 14 R389, R392: a write in the boot state, during a hold or with the same function is only stored. -/
theorem pinFuncWrite_stores (hfree : s.pinBit 0x700310 n = false) (hvalid : funcInvalid n v = false)
    (h : s.showsBoot n = true ∨ (s.pin n).hold ≠ none ∨ v % 16 = (s.pin n).func) : pinFuncWrite n v s = s.storeFunc n v := by
  rw [pinFuncWrite_free hfree hvalid, if_pos]
  rw [Bool.or_eq_true, Bool.or_eq_true, decide_eq_true_eq, Option.isSome_iff_ne_none]
  rcases h with h | h | h
  · exact .inl (.inr h)
  · exact .inl (.inl h)
  · exact .inr h

/-- 14 R395: a sound write to a locked pin is only a violation. -/
theorem pinFuncWrite_locked (hlocked : s.pinBit 0x700310 n = true) (hvalid : funcInvalid n v = false) :
    pinFuncWrite n v s = s.lockViolation n := by
  simp [pinFuncWrite, hlocked, hvalid]

/-- 14 R387: a value that the pin does not take is reported, on a locked pin after the violation, and not stored. -/
theorem pinFuncWrite_invalid (hinvalid : funcInvalid n v = true) :
    pinFuncWrite n v s = (if s.pinBit 0x700310 n then s.lockViolation n else s).raise 0x0703 [it1 n, it4 v] := by
  simp [pinFuncWrite, hinvalid]

theorem exec_pinFuncWrite (pin : Fin 96) (v : Word) (hrun : s.pwr.state = .run) :
    exec (.pinFuncWrite pin v) s = .next (pinFuncWrite pin v.toNat s) := by
  rw [exec, execPinFuncWrite, State.hostAccess_run s _ hrun, answer]

/-- 14 R391: the takeover ends the hold, and the function recorded drives the pad. -/
theorem exec_functionTakeover (pin : Fin 96) (hheld : (s.pin pin).hold.isSome = true) :
    exec (.functionTakeover pin) s =
      .next (s.setPin pin { s.pin pin with hold := none, func := s.reg (0x700000 + 4 * pin) % 16 }) := by
  rw [exec, execFunctionTakeover, answer, functionTakeover, if_pos hheld, State.pinFunc, State.regF, fld_func, funcOff]

end

/-! The violations (14 R395, R403). -/

theorem toNat_violOffset (k : Fin 3) : (BitVec.ofNat 25 (0x700320 + 4 * k)).toNat = 0x700320 + 4 * k :=
  Nat.mod_eq_of_lt (by omega)

/-- PIN_VIOLk: every bit is cleared by writing 1. -/
theorem regInfo_viol (k : Fin 3) : regInfo (0x700320 + 4 * k) = some { w1c := 0xFFFFFFFF } := by
  decide +revert

theorem specialWrite_viol (k : Fin 3) (v : Nat) : specialWrite (0x700320 + 4 * k) v = none := by
  fin_cases k <;> rfl

theorem inParcel_viol (k : Fin 3) : inParcel (0x700320 + 4 * k) = false := by
  decide +revert

/-- A bit of PIN_VIOLk written 1 is cleared, and nothing else changes. -/
theorem registerWrite_viol {s : State} (k : Fin 3) (v : Word) (hrun : s.pwr.state = .run) (hwf : SMap.wf regReset s.regs = true) :
    ∃ t, exec (.registerWrite { off := BitVec.ofNat 25 (0x700320 + 4 * k), size := 4, value := v.setWidth 64 }) s = .next t ∧
      (∀ b, b < 32 → (t.reg (0x700320 + 4 * k)).testBit b = ((s.reg (0x700320 + 4 * k)).testBit b && !v.toNat.testBit b)) ∧
      (∀ a : Nat, a ≠ 0x700320 + 4 * k → t.reg a = s.reg a) ∧ t = { s with regs := t.regs } := by
  have hoff := toNat_violOffset k
  have hvalue : (v.setWidth 64).toNat = v.toNat := BitVec.toNat_setWidth_of_le (by decide)
  obtain ⟨t, hexec, hregs, hother, hbits⟩ := registerWrite_by_access_type (off := BitVec.ofNat 25 (0x700320 + 4 * k))
    (v := v.setWidth 64) hrun (hvalue ▸ v.isLt) hwf (by omega) (by omega) (if_neg (by omega)) (hoff ▸ regInfo_viol k)
    (fun h => absurd (hoff ▸ h) (by simp [inParcel_viol])) (hoff.symm ▸ specialWrite_viol k _) rfl
  rw [hoff, hvalue] at hbits
  rw [hoff] at hother
  refine ⟨t, hexec, fun b hb => ?_, hother, hregs⟩
  have hone : Nat.testBit 0xFFFFFFFF b = true := (Nat.testBit_two_pow_sub_one 32 b).trans (decide_eq_true hb)
  rw [hbits b hb, hone]
  simp

/-! Events and pins. -/

/-- The state with other pins. -/
def State.withPins (s : State) (p : Pins) : State := { s with pins := p }

section
variable (s : State) (p : Pins)

theorem State.reportLost_withPins : (s.withPins p).reportLost = s.reportLost.withPins p := by
  unfold State.reportLost
  rw [apply_ite (State.withPins · p)]
  exact if_congr Iff.rfl rfl rfl

theorem State.dropRecs_withPins (n time : Nat) : (s.withPins p).dropRecs n time = (s.dropRecs n time).withPins p := rfl

/-- Raising an event neither reads nor changes the pins. -/
theorem State.raise_withPins (code : Nat) (items : List Item) :
    (s.withPins p).raise code items = (s.raise code items).withPins p := by
  unfold State.raise State.raiseAt
  simp only [State.reportLost_withPins, State.dropRecs_withPins]
  rw [apply_ite (State.withPins · p), apply_ite (State.withPins · p)]
  exact if_congr Iff.rfl rfl (if_congr Iff.rfl rfl rfl)

end

/-! The lock key and the locks (14 R393, R394). -/

section
variable {s : State} {v cycles : Nat}

theorem pinLockKeyWrite_first (h : v % 2 ^ 16 = 0x5A1C) :
    pinLockKeyWrite v cycles s = { s with pins := { s.pins with keyStage := 1 } } := by
  rw [pinLockKeyWrite, if_pos h]

theorem pinLockKeyWrite_second (h : v % 2 ^ 16 = 0xC3E5) (hstage : s.pins.keyStage = 1) (hcyc : cycles ≤ 64) :
    pinLockKeyWrite v cycles s = { s with pins := { s.pins with keyStage := 2 } } := by
  rw [pinLockKeyWrite, if_neg (by omega), if_pos ⟨hstage, h, hcyc⟩]

theorem pinLockKeyWrite_abandons (hfirst : v % 2 ^ 16 ≠ 0x5A1C) (h : v % 2 ^ 16 ≠ 0xC3E5 ∨ s.pins.keyStage ≠ 1 ∨ 64 < cycles) :
    pinLockKeyWrite v cycles s = { s with pins := { s.pins with keyStage := 0 } } := by
  rw [pinLockKeyWrite, if_neg hfirst, if_neg]
  rintro ⟨hstage, hsecond, hcyc⟩
  rcases h with h | h | h
  · exact h hsecond
  · exact h hstage
  · exact Nat.not_le.mpr h hcyc

theorem exec_pinLockKeyWrite (v cyc : Word) (hrun : s.pwr.state = .run) :
    exec (.pinLockKeyWrite v cyc) s = .next (pinLockKeyWrite v.toNat cyc.toNat s) := by
  rw [exec, execPinLockKeyWrite, State.hostAccess_run s _ hrun, answer]

/-- In the window a write of PIN_LOCKk adds its bits to those locked. -/
theorem pinLockWrite_locks (k : Nat) (hstage : s.pins.keyStage = 2) (hcyc : cycles ≤ 64) :
    pinLockWrite k v cycles s = s.setReg (0x700310 + 4 * k) (s.reg (0x700310 + 4 * k) ||| v) :=
  if_pos ⟨hstage, hcyc⟩

/-- Outside the window a write of PIN_LOCKk is reported; one that comes late also abandons the sequence. -/
theorem pinLockWrite_refused (k : Nat) (h : s.pins.keyStage ≠ 2 ∨ 64 < cycles) :
    pinLockWrite k v cycles s =
      { s with pins := { s.pins with keyStage := if s.pins.keyStage = 2 then 0 else s.pins.keyStage } }.raise
        0x0704 [it4 (0x700310 + 4 * k)] := by
  refine if_neg ?_
  rintro ⟨hstage, hcyc⟩
  rcases h with h | h
  · exact h hstage
  · exact Nat.not_le.mpr h hcyc

theorem exec_pinLockWrite (k : Fin 3) (w cyc : Word) (hrun : s.pwr.state = .run) :
    exec (.pinLockWrite k w cyc) s = .next (pinLockWrite k w.toNat cyc.toNat s) := by
  rw [exec, execPinLockWrite, State.hostAccess_run s _ hrun, answer]

end

/-- Settles O28: each clause is the branch of the PIN block's writes that its hypotheses select. In its two frame clauses `a` ranges over
`Fin 3`; `registerWrite_viol` and `State.setReg_reg` give them for every offset. -/
theorem pinFunctionsAndLocks : Obligations.PinFunctionsAndLocks := by
  refine ⟨fun s pin v hrun => ⟨fun hfree hvalid => ⟨fun hboot hhold hfunc => ?_, fun h => ?_⟩, exec_functionTakeover pin,
      fun hlocked hvalid => ?_, fun hinvalid => ?_, fun k hwf => ?_⟩,
    fun s v w k cyc hrun => ⟨fun hfirst => ?_, fun hsecond hstage hcyc => ?_, fun hfirst h => ?_, fun hstage hcyc hwf => ?_, fun h => ?_⟩⟩
  · rw [exec_pinFuncWrite pin v hrun, pinFuncWrite_switches hfree hvalid hboot hhold hfunc]
    rfl
  · rw [exec_pinFuncWrite pin v hrun, pinFuncWrite_stores hfree hvalid h]
    rfl
  · rw [exec_pinFuncWrite pin v hrun, pinFuncWrite_locked hlocked hvalid]
    rfl
  · rw [exec_pinFuncWrite pin v hrun, pinFuncWrite_invalid ((funcInvalid_iff pin v.toNat).mpr hinvalid)]
  · obtain ⟨t, hexec, hbits, hother, hregs⟩ := registerWrite_viol k v hrun hwf
    exact ⟨t, hexec, hbits, fun a _ => hother a (by omega), hregs⟩
  · rw [exec_pinLockKeyWrite v cyc hrun, pinLockKeyWrite_first hfirst]
  · rw [exec_pinLockKeyWrite v cyc hrun, pinLockKeyWrite_second hsecond hstage hcyc]
  · rw [exec_pinLockKeyWrite v cyc hrun, pinLockKeyWrite_abandons hfirst h]
  · refine ⟨_, (exec_pinLockWrite k w cyc hrun).trans (congrArg _ (pinLockWrite_locks k hstage hcyc)), fun i hi => ?_, fun a ha => ?_, rfl⟩
    · rw [State.setReg_reg s _ _ _ hwf, if_pos rfl, Nat.testBit_mod_two_pow, decide_eq_true hi, Bool.true_and, Nat.testBit_or]
    · rw [State.setReg_reg s _ _ _ hwf, if_neg (by omega)]
  · refine ⟨_, (exec_pinLockWrite k w cyc hrun).trans (congrArg _ (pinLockWrite_refused k h)), ?_, ?_, congrArg (·.hif.evBuf) (s.raise_withPins _ _ _)⟩
    · rw [State.raise_regs]
    · rw [State.raise_pins]

end Sys2Proof.Machine
end
